-- ==== Sys2Proof/Word.lean ====
section
/-! DEFINITION. Word.lean: the two bit widths that cross the link (R143, R144, R179). Everything the manual counts is a
`Nat` or an `Int` in the state; a bit vector is used only for bytes on the line, the CRC register and the strap pins. -/

namespace Sys2Proof

/-- One byte of the line (R143). -/
abbrev Byte := BitVec 8

/-- The CRC register and its two bytes (R144). -/
abbrev Word16 := BitVec 16

end Sys2Proof
end

