-- ==== Sys2Proof/Config.lean ====
section
/-! DEFINITION. Config.lean: the sizes the manual fixes for every part, and the one free value of the model. -/

namespace Sys2Proof.Config

/-- Lanes of a tile (R3). -/
abbrev lanes : Nat := 144

/-- Lanes of one lane group (R4). -/
abbrev groupLanes : Nat := 24

/-- Spare slots of a tile, two a group (R4). -/
abbrev spareSlots : Nat := 12

/-- Places of the Local Reply Queue (R165). -/
abbrev replyPlaces : Nat := 8

/-- Places of the UP receive buffer (R152, 09 state table). -/
abbrev upPlaces : Nat := 2

/-- Places of the down-forward buffer (R154). -/
abbrev downPlaces : Nat := 2

/-- Places of the pass-through buffer (R156). -/
abbrev passPlaces : Nat := 4

/-- Entries of the Spot Test Queue (R65). -/
abbrev spotPlaces : Nat := 8

/-- Records of the Suspect List (R71). -/
abbrev suspectPlaces : Nat := 32

/-- Places of the Confirmed Queue, the one of a check in progress included (R81). -/
abbrev confirmedPlaces : Nat := 8

/-- Entries of the Pending Change List (R111). -/
abbrev changePlaces : Nat := 16

/-- Records of the Defect List (R131). -/
abbrev defectPlaces : Nat := 192

/-- The largest pulse length, and the largest video code (R45). -/
abbrev maxCode : Nat := 4095

/-- Where every 16-bit count stops (R150). -/
abbrev countLimit : Nat := 65535

/-- FREE VALUE (assumption log 7). The manual leaves two choices open that the part makes for itself: which of a bind
and a waiting decision enters the Pending Change List first (R127: "in either order"), and which die a verify drives when
the planned state of its cell selects none (R98). Nothing constrains a value of this function; the state counts how many
have been used. -/
opaque freeBit : Nat → Bool

end Sys2Proof.Config
end

