-- ==== Sys2Proof/Syntax.lean ====
section
/-! DEFINITION. Syntax.lean: the steps of spec/opcode_table.json, one constructor a row. A row that is an event on a pin
carries what the pin shows at that moment (the straps, the converter reading, the level of go, the bytes of the line); a
row that is a request taken by the Message Unit carries that request (log 10). -/

namespace Sys2Proof

/-- A link port (R143). -/
inductive Port where
  | up | down
  deriving DecidableEq, Repr

/-- The six header bytes of a message (R143, 11.1); the payload length as declared, least significant byte first. -/
structure Header where
  dst  : Byte
  src  : Byte
  kind : Byte
  tag  : Byte
  len  : Word16
  deriving DecidableEq, Repr

/-- A local message as the Message Unit takes it (R163): whether it came as a broadcast, who sent it, its tag and its
payload. Its kind is the table's row. -/
structure Request where
  broadcast : Bool
  src       : Byte
  tag       : Byte
  payload   : List Byte
  deriving DecidableEq, Repr

/-- The three holders of a deferred reply (R166). -/
inductive ReplyHolder where
  | spotTest | manualBind | chainHold
  deriving DecidableEq, Repr

/-- The commands of the block: the rows of the table, in the table's order. -/
inductive Instr where
  | powerOnReset (straps : BitVec 2) (reading : Int)
  | linkReset (straps : BitVec 2) (reading : Int)
  | linkResetRelease
  | startByteReceived (port : Port)
  | headerComplete (port : Port) (h : Header) (downGo : Bool)
  | messageReceived (port : Port) (payload : List Byte) (crc : Word16) (mark : Byte)
  | gapTimeout (port : Port) (received : List Byte)
  | downGoAsserted
  | upTransmitStart (go : Bool)
  | upTransmitEnd (reading : Int)
  | downTransmitStart (go : Bool)
  | downTransmitEnd
  | enum (q : Request)
  | ident (q : Request)
  | status (q : Request)
  | setParam (q : Request)
  | getParam (q : Request)
  | loadGain (q : Request)
  | readGain (q : Request)
  | row (q : Request)
  | frame (q : Request) (reading : Int)
  | mode (q : Request)
  | frameTimerExpiry
  | holdTimerExpiry
  | blankWindowTimerExpiry (reading : Int)
  | rowPhaseEnd
  | testCompletion (knee : Option (Fin 255))
  | descriptorTake
  | waitingDecisionTaken
  | isolationEntryAdded
  | laneHoldRelease
  | bindWaitComplete
  | deferredReplyEnter (holder : ReplyHolder)
  | test (q : Request)
  | selectA (q : Request)
  | selectB (q : Request)
  | conceal (q : Request)
  | forceOff (q : Request)
  | releaseCell (q : Request)
  | releaseDie (q : Request)
  | releaseRow (q : Request)
  | bind (q : Request)
  | unbindLane (q : Request)
  | unbindSlot (q : Request)
  | readDefects (q : Request)
  | loadDefects (q : Request)
  | clearDefects (q : Request)
  | readSuspects (q : Request)
  | readSpares (q : Request)
  | readMap (q : Request)
  | clearCounts (q : Request)
  | reset (q : Request) (reading : Int)
  | chainReset (q : Request)
  | chainResetHoldStart
  | chainResetHoldEnd
  | kindRefusal (kind : Byte) (q : Request)
  | replyMarkedDrop (kind : Byte) (q : Request)
  deriving DecidableEq, Repr

end Sys2Proof
end

