-- ==== Sys2Proof/Machine/State.lean ====
section
/-! DEFINITION. Machine/State.lean: everything the manual makes the part hold, block by block as its block diagram names
the blocks (00_scope.md), and the part right after reset. Every field is plain data. -/

namespace Sys2Proof.Machine

/-! ## Names the manual gives to values -/

/-- The tile mode (2.1). -/
inductive Mode where
  | standby | run | blank
  deriving DecidableEq, Repr

/-- The video state, held only in RUN (R25); outside RUN the field stands at `dark`. -/
inductive VideoState where
  | dark | live | holding
  deriving DecidableEq, Repr

/-- The kind of the latest reset (R18). -/
inductive ResetCause where
  | power | link | soft
  deriving DecidableEq, Repr

/-- Which die of a cell (R6). -/
inductive Die where
  | a | b
  deriving DecidableEq, Repr

/-- A die of the tile, written (r, L, d). -/
structure DieRef where
  row  : Nat
  lane : Nat
  die  : Die
  deriving DecidableEq, Repr

/-- The state of a cell (R105). -/
inductive CellState where
  | aActive | bActive | concealed | forcedOff
  deriving DecidableEq, Repr

/-- The health of a die (R106). -/
inductive Health where
  | unknown | good | openDie | shortDie | flaky
  deriving DecidableEq, Repr

/-- One entry of the Cell State Table (R105). -/
structure CellEntry where
  state   : CellState
  healthA : Health
  healthB : Health
  deriving DecidableEq, Repr

/-- The Lane State (R107). -/
inductive LaneState where
  | normal | spared (slot : Nat) | dark
  deriving DecidableEq, Repr

/-- One record of the Spare Slot Table (R108): its state with the fields that state has. The colour of a slot with a
target lane is that lane mod 3. -/
inductive SlotState where
  | free | reserved (lane : Nat) | bound (lane frame : Nat) | failed
  deriving DecidableEq, Repr

/-- One entry of the Row Table (R109). -/
inductive RowState where
  | normal | lost
  deriving DecidableEq, Repr

/-- The repair policy (R114). -/
inductive Policy where
  | auto | advise | suspended
  deriving DecidableEq, Repr

/-- A table indexed by cell: a list of rows, each a list over the lanes; read row by row it is the row-major order of R8. -/
abbrev CellTable (α : Type) := List (List α)

/-! ## Link Ports and Link Router (chapter 9) -/

/-- A message without its framing (R143). -/
structure Message where
  dst     : Byte
  src     : Byte
  kind    : Byte
  tag     : Byte
  payload : List Byte
  deriving DecidableEq, Repr

/-- A message as it stands on a line: the two CRC bytes and the end mark besides (R143). -/
structure Wire where
  msg  : Message
  crc  : Word16
  mark : Byte
  deriving DecidableEq, Repr

/-- Why a receiver follows a message in SKIP (R145). -/
inductive SkipWhy where
  | overrun | misroute | softReset
  deriving DecidableEq, Repr

/-- How a message arriving at UP goes down, chosen at routing (R152, R154). -/
inductive Forward where
  | none | cutThrough | stored | enumPlace
  deriving DecidableEq, Repr

/-- The receiver state (R145). In BODY and SKIP the header is kept once it is complete; `toTile` and `fwd` are the route
of R152, used at UP only. -/
inductive RxState where
  | hunt
  | header
  | body (h : Header) (toTile : Bool) (fwd : Forward)
  | skip (why : SkipWhy) (h : Option Header)
  deriving DecidableEq, Repr

/-- A place of the UP receive buffer (R153): taken by the message in reception, or holding a good message. `down` says
that the message still has a place in the down-forward buffer: the forward copy a broadcast RESET waits for (R153), or the
place an ENUM holds for the ENUM it would send on (R158). -/
inductive RxPlace where
  | receiving
  | ready (m : Message) (down : Bool)
  deriving DecidableEq, Repr

/-- A place of the down-forward buffer (R154): a cut-through copy following its arrival, a message in reception, a place
taken for an ENUM, or a message ready to be sent (or being sent, when it is the head and DOWN is busy). DESIGN CHOICE, log
32. -/
inductive FwdPlace where
  | cutting (h : Header)
  | receiving
  | enumSlot
  | ready (w : Wire)
  deriving DecidableEq, Repr

/-- A place of the pass-through buffer (R156). -/
inductive PassPlace where
  | receiving
  | ready (w : Wire)
  deriving DecidableEq, Repr

/-- What the UP transmitter sends (R157, R165): nothing, a message of the tile's own (with a mark on the reply of an
addressed RESET), or the oldest message of the pass-through buffer. -/
inductive UpTx where
  | idle
  | own (w : Wire) (isReset : Bool)
  | pass (w : Wire)
  deriving DecidableEq, Repr

/-- The source the UP transmitter served last (R157). -/
inductive Served where
  | ownTraffic | passThrough
  deriving DecidableEq, Repr

/-- A reply as it waits in the Local Reply Queue (R165); its source address is filled in when it is sent. -/
structure Reply where
  dst     : Byte
  kind    : Byte
  tag     : Byte
  payload : List Byte
  isReset : Bool
  deriving DecidableEq, Repr

/-- The chain reset hold record (R160): none; accepted and waiting for the DOWN transmitter to be idle; holding DOWN at
the reset level with a time left; or ended with its reply still due. -/
inductive ChainHold where
  | none
  | waiting (src tag : Byte)
  | holding (src tag : Byte) (msLeft : Nat)
  | due (r : Reply)
  deriving DecidableEq, Repr

/-- The error counters of a port (R150). `misroute` is kept at UP only and stays 0 at DOWN. -/
structure Counters where
  crcErr     : Nat
  framingErr : Nat
  poisonedRx : Nat
  overrun    : Nat
  misroute   : Nat
  deriving DecidableEq, Repr

/-- All counters at 0 (R162). -/
def Counters.zero : Counters := ⟨0, 0, 0, 0, 0⟩

/-- The two ports and the Router (state table of chapter 9). -/
structure Link where
  upRx         : RxState
  downRx       : RxState
  upCounts     : Counters
  downCounts   : Counters
  partner      : Bool
  address      : Nat
  subordinate  : Nat
  upBuf        : List RxPlace
  downBuf      : List FwdPlace
  passBuf      : List PassPlace
  lastServed   : Served
  hold         : ChainHold
  upTx         : UpTx
  downBusy     : Bool
  inLinkReset  : Bool
  /-- The reading that the converter shows when a link reset ends: the model's own field. DESIGN CHOICE, log 37. -/
  releaseReading : Int
  deriving DecidableEq, Repr

/-! ## Message Unit (chapter 10) -/

/-- One value for each colour. -/
structure Colours where
  red   : Nat
  green : Nat
  blue  : Nat
  deriving DecidableEq, Repr

/-- The seven notice kinds, in their order of priority (R177). -/
inductive NoticeKind where
  | wideFault | rowLost | laneEvent | defect | listFull | videoState | linkErrors
  deriving DecidableEq, Repr

/-- One flag for each notice kind: the pending flags (R176), and the enables of `notice_mask` (R167). -/
structure NoticeFlags where
  wideFault  : Bool
  rowLost    : Bool
  laneEvent  : Bool
  defect     : Bool
  listFull   : Bool
  videoState : Bool
  linkErrors : Bool
  deriving DecidableEq, Repr

/-- All seven flags at one value. -/
def NoticeFlags.all (b : Bool) : NoticeFlags := ⟨b, b, b, b, b, b, b⟩

/-- The parameter set (R167). -/
structure Params where
  brightness   : Nat
  repeats      : Nat
  senseBudget  : Nat
  blankBudget  : Nat
  shortLimit   : Colours
  openLimit    : Colours
  confirmHits  : Nat
  flipLimit    : Nat
  concealShare : Nat
  frameTimeout : Nat
  holdTime     : Nat
  senseTempMax : Int
  walkEnable   : Bool
  walkBoth     : Bool
  policy       : Policy
  noticeMask   : NoticeFlags
  deriving DecidableEq, Repr

/-- The defaults of R167. -/
def Params.default : Params where
  brightness := 255
  repeats := 4
  senseBudget := 4
  blankBudget := 64
  shortLimit := ⟨2, 2, 2⟩
  openLimit := ⟨60, 90, 90⟩
  confirmHits := 3
  flipLimit := 4
  concealShare := 160
  frameTimeout := 40
  holdTime := 100
  senseTempMax := 85
  walkEnable := true
  walkBoth := true
  policy := .auto
  noticeMask := .all true

/-- The Message Unit (state table of chapter 10). -/
structure MessageUnit where
  replies      : List Reply
  resetWaiting : Bool
  params       : Params
  notices      : NoticeFlags
  defectsSince : Nat
  deriving DecidableEq, Repr

/-! ## Mode Controller and Frame Store (chapter 2) -/

/-- The Mode Controller (2.1). A timer is `none` when stopped and holds the time it was started with, in ms, when it runs:
DESIGN CHOICE, log 11. -/
structure ModeCtl where
  mode       : Mode
  video      : VideoState
  frameTimer : Option Nat
  holdTimer  : Option Nat
  blankTimer : Option Nat
  cause      : ResetCause
  deriving DecidableEq, Repr

/-- The Frame Store (2.4). -/
structure FrameStore where
  fill       : CellTable Nat
  display    : CellTable Nat
  rowFlags   : List Bool
  frameCount : Nat
  lastNumber : Nat
  frameSeen  : Bool
  skipped    : Nat
  incomplete : Nat
  badRow     : Nat
  deriving DecidableEq, Repr

/-- The Frame Store after any reset, sized by the depth (R30). -/
def FrameStore.fresh (d : Nat) : FrameStore where
  fill := List.replicate d (List.replicate Config.lanes 0)
  display := List.replicate d (List.replicate Config.lanes 0)
  rowFlags := List.replicate d false
  frameCount := 0
  lastNumber := 0
  frameSeen := false
  skipped := 0
  incomplete := 0
  badRow := 0

/-! ## Output Composer and Scan Driver (chapters 3 and 1) -/

/-- The Output Composer: Coefficient Table by coefficient index (R8), Output Table, clip count (R36, R45, R46). -/
structure Composer where
  gains     : List Nat
  pulses    : CellTable Nat
  clipCount : Nat
  deriving DecidableEq, Repr

/-- The scan state (R10). -/
inductive ScanState where
  | stopped | scanning | yielded | lent
  deriving DecidableEq, Repr

/-- What is latched for one lane at a row-phase boundary (R12). -/
structure LaneLatch where
  lane  : LaneState
  cell  : CellState
  pulse : Nat
  deriving DecidableEq, Repr

/-- The settings latched for the row phase in progress (R12). -/
structure RowPhase where
  row   : Nat
  entry : RowState
  lanes : List LaneLatch
  deriving DecidableEq, Repr

/-- The Scan Driver (1.6): scan state, next row, latched segment count, latched settings of the phase in progress, and
where each lane's trace switch was last set (R6, R15, R17). -/
structure ScanDriver where
  state    : ScanState
  nextRow  : Nat
  segments : Nat
  phase    : Option RowPhase
  traces   : List Die
  deriving DecidableEq, Repr

/-- The trace switches after any reset: every lane at its A trace (R17). -/
def restTraces : List Die := List.replicate Config.lanes .a

/-! ## Sense Unit (chapter 4) -/

/-- The source of a test, with the verify slot or the probe number of its record (R53). -/
inductive TestSource where
  | walk | retest | spot | probe (n : Nat) | verify (slot : Nat)
  deriving DecidableEq, Repr

/-- The driver a test connects to its lane's node (R16). -/
inductive TestDriver where
  | own | slot (s : Nat)
  deriving DecidableEq, Repr

/-- The test record (R53). `driver` is `none` while the claim on the drive lines waits and names the driver once the
claim has been taken. The Spot Test Queue entry a spot test serves is the oldest WAITING one (R66). -/
structure TestRecord where
  source      : TestSource
  die         : DieRef
  shortLimit  : Nat
  openLimit   : Nat
  hot         : Bool
  grantWindow : Nat
  driver      : Option TestDriver
  deriving DecidableEq, Repr

/-- The result of a test (R55). -/
inductive TestResult where
  | good | openDie | shortDie | inconclusive
  deriving DecidableEq, Repr

/-- The suspect effect (R77). -/
inductive SuspectEffect where
  | none | new | updated | cleared | notTracked
  deriving DecidableEq, Repr

/-- The status of a Spot Test Queue entry (R66). -/
inductive SpotStatus where
  | waiting
  | done (result : TestResult) (t : Nat) (hot : Bool) (effect : SuspectEffect)
  | aborted
  deriving DecidableEq, Repr

/-- An entry of the Spot Test Queue (R66). -/
structure SpotEntry where
  src    : Byte
  tag    : Byte
  die    : DieRef
  status : SpotStatus
  deriving DecidableEq, Repr

/-- The five tried marks (R60). -/
structure Tried where
  probe0 : Bool
  probe1 : Bool
  probe2 : Bool
  probe3 : Bool
  verify : Bool
  deriving DecidableEq, Repr

/-- No mark set. -/
def Tried.clear : Tried := ⟨false, false, false, false, false⟩

/-- A walk position (R62). -/
structure WalkPos where
  pass : Die
  row  : Nat
  lane : Nat
  deriving DecidableEq, Repr

/-- The Sense Unit (state table of chapter 4). -/
structure SenseUnit where
  windowOpen   : Bool
  windowNumber : Nat
  budget       : Nat
  used         : Nat
  hot          : Bool
  sample       : Int
  sensorFault  : Bool
  test         : Option TestRecord
  tried        : Tried
  cursor       : WalkPos
  sweeps       : Nat
  spots        : List SpotEntry
  deriving DecidableEq, Repr

/-- The Sense Unit after any reset, but for the sample taken at its end (R70). -/
def SenseUnit.fresh (sample : Int) (fault : Bool) : SenseUnit where
  windowOpen := false
  windowNumber := 0
  budget := 1
  used := 0
  hot := false
  sample := sample
  sensorFault := fault
  test := none
  tried := .clear
  cursor := ⟨.a, 0, 0⟩
  sweeps := 0
  spots := []

/-! ## Suspect Tracker (chapter 5) and Fault Correlator (chapter 6) -/

/-- The kind of a failing result (R71). -/
inductive FailKind where
  | openDie | shortDie
  deriving DecidableEq, Repr

/-- The kind of a confirmed fault (R78). -/
inductive FaultKind where
  | openDie | shortDie | intermittent
  deriving DecidableEq, Repr

/-- The fields a record has only in state HELD (R71). -/
structure Held where
  kind  : FaultKind
  frame : Nat
  order : Nat
  deriving DecidableEq, Repr

/-- A record of the Suspect List (R71); it is in state HELD when `held` is present and in WATCH otherwise. -/
structure Suspect where
  die          : DieRef
  kind         : FailKind
  hits         : Nat
  passes       : Nat
  flips        : Nat
  createdFrame : Nat
  lastWindow   : Option Nat
  held         : Option Held
  deriving DecidableEq, Repr

/-- A descriptor of the Confirmed Queue (R81). -/
structure Descriptor where
  die   : DieRef
  kind  : FaultKind
  hits  : Nat
  flips : Nat
  frame : Nat
  deriving DecidableEq, Repr

/-- The Suspect Tracker: the Suspect List in creation order and the waiting descriptors, oldest first. The held line is
the HELD records by confirm order. -/
structure Tracker where
  suspects : List Suspect
  queue    : List Descriptor
  deriving DecidableEq, Repr

/-- The result of a probe (R95). -/
inductive ProbeResult where
  | pending | pass | fail
  deriving DecidableEq, Repr

/-- A probe of a Correlation Check (R92): its cell and die, or none, and its result. -/
structure Probe where
  target : Option DieRef
  result : ProbeResult
  deriving DecidableEq, Repr

/-- The verify fields of a check in VERIFYING. `isolated` says that the lane was isolated under R117 first. -/
structure Verify where
  slot     : Nat
  die      : DieRef
  tried    : List Nat
  isolated : Bool
  deriving DecidableEq, Repr

/-- The check record (state table of chapter 6). It is in VERIFYING when `verify` is present and in PROBING otherwise. -/
structure Check where
  die     : DieRef
  hits    : Nat
  flips   : Nat
  frame   : Nat
  hotSeen : Bool
  probes  : List Probe
  verify  : Option Verify
  deriving DecidableEq, Repr

/-- The Fault Correlator; IDLE when it holds no check record (R88). -/
structure Correlator where
  check : Option Check
  deriving DecidableEq, Repr

/-! ## Repair Engine (chapters 7 and 8) -/

/-- The target of a Defect List record, its key (R131). -/
inductive Target where
  | die (r l : Nat) (d : Die)
  | lane (l : Nat)
  | row (r : Nat)
  | cell (r l : Nat)
  deriving DecidableEq, Repr

/-- The kind of a Defect List record (R130). -/
inductive DefectKind where
  | openDie | shortDie | intermittent | laneDead | rowDead | wide | manual
  deriving DecidableEq, Repr

/-- The action of a Defect List record (R130). -/
inductive DefectAction where
  | none | dieSwap | conceal | spareBound | laneDark | rowConceal | selectA | selectB | forceOff
  deriving DecidableEq, Repr

/-- The origin of a Defect List record (R130). -/
inductive Origin where
  | sensed | manual | loaded
  deriving DecidableEq, Repr

/-- A Defect List record (R130). -/
structure Defect where
  seq          : Nat
  target       : Target
  kind         : DefectKind
  action       : DefectAction
  slot         : Option Nat
  verifyFailed : Bool
  hotSeen      : Bool
  origin       : Origin
  frame        : Nat
  temp         : Int
  deriving DecidableEq, Repr

/-- What becomes of a slot a lane change displaces (R111). -/
inductive Disposition where
  | failed | free
  deriving DecidableEq, Repr

/-- An entry of the Pending Change List (R111). -/
inductive Change where
  | cell (r l : Nat) (st : CellState)
  | lane (l : Nat) (st : LaneState) (disp : Disposition)
  | row (r : Nat) (st : RowState)
  | removal (key : Target) (seq : Nat)
  deriving DecidableEq, Repr

/-- How a lane decision completes (R119): a verify passed on `slot` after the slots `tried` (the passing one last), every
tried slot failed, or no FREE slot at the search. -/
inductive LaneFinish where
  | sparedBy (slot : Nat) (tried : List Nat)
  | allFailed (tried : List Nat)
  | noSlot
  deriving DecidableEq, Repr

/-- A decision that waits for room in the Pending Change List (R115). -/
inductive Waiting where
  | cell (die : DieRef) (kind : FaultKind) (hotSeen : Bool)
  | row (r : Nat) (hotSeen : Bool)
  | lane (l : Nat) (hotSeen : Bool) (finish : LaneFinish)
  deriving DecidableEq, Repr

/-- The held LANE decision of the check in progress (R117): whether the lane's failed spare has been isolated, and whether
its isolation, record and lane change together, still waits for room (R115). -/
structure HeldLane where
  isolated       : Bool
  isolationWaits : Bool
  deriving DecidableEq, Repr

/-- The stage of a manual bind (R126, R127): its verify pending; its verify passed (with `t` and the stamps of that
moment) and its entry waiting for room; or ended with its reply still due. -/
inductive BindStage where
  | verifying
  | waitsForRoom (t : Nat) (frame : Nat) (temp : Int)
  | ended (r : Reply)
  deriving DecidableEq, Repr

/-- The manual bind record (R126). -/
structure Bind where
  lane  : Nat
  slot  : Nat
  die   : DieRef
  src   : Byte
  tag   : Byte
  stage : BindStage
  deriving DecidableEq, Repr

/-- The Repair Engine (state tables of chapters 7 and 8). -/
structure Repair where
  cells      : CellTable CellEntry
  lanes      : List LaneState
  slots      : List SlotState
  rows       : List RowState
  changes    : List Change
  waiting    : Option Waiting
  heldLane   : Option HeldLane
  bind       : Option Bind
  defects    : List Defect
  seqCounter : Nat
  unrecorded : Nat
  deriving DecidableEq, Repr

/-- The Repair Engine after a power-on or link reset (R129): every map at default. -/
def Repair.fresh (d : Nat) : Repair where
  cells := List.replicate d (List.replicate Config.lanes ⟨.aActive, .unknown, .unknown⟩)
  lanes := List.replicate Config.lanes .normal
  slots := List.replicate Config.spareSlots .free
  rows := List.replicate d .normal
  changes := []
  waiting := none
  heldLane := none
  bind := none
  defects := []
  seqCounter := 0
  unrecorded := 0

/-! ## The part -/

/-- The whole part. `straps` is the sampled strap value (R1); `freeUsed` counts the free values used so far and is the
model's own field (log 7); `pending` is the queue of commands that wait to be run, first in, first out (log 1). -/
structure State where
  straps   : BitVec 2
  link     : Link
  unit     : MessageUnit
  ctl      : ModeCtl
  store    : FrameStore
  comp     : Composer
  scan     : ScanDriver
  sense    : SenseUnit
  track    : Tracker
  corr     : Correlator
  repair   : Repair
  freeUsed : Nat
  pending  : List Instr
  deriving DecidableEq, Repr

/-- This model raises no fault: the manual describes no event that stops the part, and a command whose conditions do not
hold leaves the state as it is (log 2). Nobody raises one. Safe: a fault that is never raised hides no behaviour. -/
inductive Fault where
  deriving DecidableEq, Repr

/-- `notModelled` is raised by `exec` alone, for a row of the table that has no meaning yet (none has been left so). Safe:
the model stops and claims nothing. -/
inductive Refusal where
  | notModelled (mnemonic : String)
  deriving DecidableEq, Repr

/-! ## One setter for each block -/

/-- `s` with the sampled straps replaced. -/
def State.withStraps (s : State) (x : BitVec 2) : State := { s with straps := x }
/-- `s` with the Link Ports and Router replaced. -/
def State.withLink (s : State) (x : Link) : State := { s with link := x }
/-- `s` with the Message Unit replaced. -/
def State.withUnit (s : State) (x : MessageUnit) : State := { s with unit := x }
/-- `s` with the Mode Controller replaced. -/
def State.withCtl (s : State) (x : ModeCtl) : State := { s with ctl := x }
/-- `s` with the Frame Store replaced. -/
def State.withStore (s : State) (x : FrameStore) : State := { s with store := x }
/-- `s` with the Output Composer replaced. -/
def State.withComp (s : State) (x : Composer) : State := { s with comp := x }
/-- `s` with the Scan Driver replaced. -/
def State.withScan (s : State) (x : ScanDriver) : State := { s with scan := x }
/-- `s` with the Sense Unit replaced. -/
def State.withSense (s : State) (x : SenseUnit) : State := { s with sense := x }
/-- `s` with the Suspect Tracker replaced. -/
def State.withTrack (s : State) (x : Tracker) : State := { s with track := x }
/-- `s` with the Fault Correlator replaced. -/
def State.withCorr (s : State) (x : Correlator) : State := { s with corr := x }
/-- `s` with the Repair Engine replaced. -/
def State.withRepair (s : State) (x : Repair) : State := { s with repair := x }
/-- `s` with the count of free values replaced. -/
def State.withFreeUsed (s : State) (x : Nat) : State := { s with freeUsed := x }
/-- `s` with the command queue replaced. -/
def State.withPending (s : State) (x : List Instr) : State := { s with pending := x }

/-! ## Reset -/

/-- The Link Ports and Router after a power-on or link reset (R162); `inReset` says that the tile stays in a link reset
(R161). -/
def Link.fresh (inReset : Bool) : Link where
  upRx := .hunt
  downRx := .hunt
  upCounts := .zero
  downCounts := .zero
  partner := false
  address := 0
  subordinate := 0
  upBuf := []
  downBuf := []
  passBuf := []
  lastServed := .passThrough
  hold := .none
  upTx := .idle
  downBusy := false
  inLinkReset := inReset
  releaseReading := 0

/-- Every block at its value after a power-on or link reset, for the straps and the depth sampled, the temperature sample
and its fault flag, and an empty command queue. -/
def State.fresh (straps : BitVec 2) (d : Nat) (cause : ResetCause) (inReset : Bool) (sample : Int) (fault : Bool) :
    State where
  straps := straps
  link := Link.fresh inReset
  unit := { replies := [], resetWaiting := false, params := .default, notices := .all false, defectsSince := 0 }
  ctl := { mode := .standby, video := .dark, frameTimer := none, holdTimer := none, blankTimer := none, cause := cause }
  store := FrameStore.fresh d
  comp := { gains := List.replicate (288 * d) 1024, pulses := List.replicate d (List.replicate Config.lanes 0),
            clipCount := 0 }
  scan := { state := .stopped, nextRow := 0, segments := 4, phase := none, traces := restTraces }
  sense := SenseUnit.fresh sample fault
  track := { suspects := [], queue := [] }
  corr := { check := none }
  repair := Repair.fresh d
  freeUsed := 0
  pending := []

/-- The part right after a power-on reset. The straps (00, so D = 8) and the temperature sample (0 °C, no sensor fault)
come from pins: DESIGN CHOICE, log 3. -/
def State.reset : State := State.fresh 0 8 .power false 0 false

end Sys2Proof.Machine
end

