-- ==== Sys2Proof/Machine/Ops.lean ====
section
/-! DEFINITION. Machine/Ops.lean: the operations every block shares: geometry (R1 to R8), access to the tables, counts that
saturate or wrap, the parts of the state the manual reads by name, and the queue of commands. -/

namespace Sys2Proof.Machine

/-! ## Counts (R150 and the conventions of 00_scope.md) -/

/-- A 16-bit count raised by `n`, stopping at 65535 (R150). -/
def satAdd (c n : Nat) : Nat := min (c + n) Config.countLimit

/-- A number limited to `lo..hi`. -/
def clampNat (lo hi n : Nat) : Nat := max lo (min hi n)

/-- A signed number limited to `lo..hi`. -/
def clampInt (lo hi n : Int) : Int := max lo (min hi n)

/-! ## Geometry -/

/-- The scan depth that a strap value gives (R1). -/
def depthOf (straps : BitVec 2) : Nat :=
  match straps.toNat with
  | 0 => 8
  | 1 => 12
  | _ => 16

/-- The scan depth D of the tile (R1). -/
def depth (s : State) : Nat := depthOf s.straps

/-- The lane group of a lane (R4). -/
def groupOf (lane : Nat) : Nat := lane / Config.groupLanes

/-- The two spare slots of a lane's group, the lower number first (R4). -/
def slotsOf (lane : Nat) : List Nat := [2 * groupOf lane, 2 * groupOf lane + 1]

/-- The coefficient index of a die (R8). -/
def coeffIndex (r l : Nat) (d : Die) : Nat :=
  (r * Config.lanes + l) * 2 + (match d with | .a => 0 | .b => 1)

/-- The neighbours of cell (r, L) on a tile of depth `d` (R7). -/
def neighbours (d r l : Nat) : List (Nat × Nat) :=
  (if 3 ≤ l then [(r, l - 3)] else [])
    ++ (if l + 3 < Config.lanes then [(r, l + 3)] else [])
    ++ (if 1 ≤ r then [(r - 1, l)] else [])
    ++ (if r + 1 < d then [(r + 1, l)] else [])

/-- The value of a colour's parameter for lane L, by L mod 3 (R3). -/
def colourOf (c : Colours) (lane : Nat) : Nat :=
  match lane % 3 with
  | 0 => c.red
  | 1 => c.green
  | _ => c.blue

/-! ## Tables -/

/-- Entry (r, L) of a table indexed by cell. -/
def cellAt {α : Type} (t : CellTable α) (r l : Nat) (dflt : α) : α := (t.getD r []).getD l dflt

/-- A table indexed by cell with entry (r, L) replaced. -/
def cellSet {α : Type} (t : CellTable α) (r l : Nat) (v : α) : CellTable α := t.set r ((t.getD r []).set l v)

/-- A table indexed by cell of depth `d` built from its entries. -/
def cellBuild {α : Type} (d : Nat) (f : Nat → Nat → α) : CellTable α :=
  (List.range d).map fun r => (List.range Config.lanes).map fun l => f r l

/-- An entry of the Cell State Table at its default (R105). -/
def CellEntry.default : CellEntry := ⟨.aActive, .unknown, .unknown⟩

/-- The Cell State Table entry of (r, L), current. -/
def cellEntry (s : State) (r l : Nat) : CellEntry := cellAt s.repair.cells r l .default

/-- The Lane State of L, current. -/
def laneNow (s : State) (l : Nat) : LaneState := s.repair.lanes.getD l .normal

/-- The Row Table entry of r, current. -/
def rowNow (s : State) (r : Nat) : RowState := s.repair.rows.getD r .normal

/-- The Spare Slot Table record of a slot, current. -/
def slotNow (s : State) (k : Nat) : SlotState := s.repair.slots.getD k .failed

/-- The health of die d in a Cell State Table entry (R105). -/
def CellEntry.health (e : CellEntry) (d : Die) : Health :=
  match d with
  | .a => e.healthA
  | .b => e.healthB

/-- A Cell State Table entry with the health of die d replaced. -/
def CellEntry.withHealth (e : CellEntry) (d : Die) (h : Health) : CellEntry :=
  match d with
  | .a => { e with healthA := h }
  | .b => { e with healthB := h }

/-- A die is bad when its health is OPEN, SHORT or FLAKY (R106). -/
def Health.bad (h : Health) : Bool :=
  match h with
  | .openDie => true
  | .shortDie => true
  | .flaky => true
  | .unknown => false
  | .good => false

/-- The health of a die of the tile. -/
def healthOf (s : State) (x : DieRef) : Health := (cellEntry s x.row x.lane).health x.die

/-- Sets the health of a die (R106). -/
def setHealth (x : DieRef) (h : Health) (s : State) : State :=
  s.withRepair { s.repair with
    cells := cellSet s.repair.cells x.row x.lane ((cellEntry s x.row x.lane).withHealth x.die h) }

/-- The die that a cell state selects, if it selects one (R40). -/
def CellState.selected (c : CellState) : Option Die :=
  match c with
  | .aActive => some .a
  | .bActive => some .b
  | .concealed => none
  | .forcedOff => none

/-- The other die of a cell. -/
def Die.other (d : Die) : Die :=
  match d with
  | .a => .b
  | .b => .a

/-! ## Classes of cells (R40), in the current maps -/

/-- The cell is a victim: its row is LOST, its lane is DARK, or its state is CONCEALED. -/
def isVictim (s : State) (r l : Nat) : Bool :=
  rowNow s r == .lost || laneNow s l == .dark || (cellEntry s r l).state == .concealed

/-- The cell is forced off: not a victim, and FORCED_OFF. -/
def isForcedOff (s : State) (r l : Nat) : Bool :=
  !isVictim s r l && (cellEntry s r l).state == .forcedOff

/-- The cell is live: neither a victim nor forced off. -/
def isLive (s : State) (r l : Nat) : Bool := !isVictim s r l && !isForcedOff s r l

/-! ## Parts of the state read by name -/

/-- The repair policy in force (R114). -/
def policyNow (s : State) : Policy := s.unit.params.policy

/-- Drive enable (R9). -/
def driveEnable (s : State) : Bool :=
  s.ctl.mode == .run && (s.ctl.video == .live || s.ctl.video == .holding)

/-- The check is in PROBING (R88). -/
def probing (s : State) : Bool :=
  match s.corr.check with
  | some c => c.verify.isNone
  | none => false

/-- Places of the Confirmed Queue that are taken: the waiting descriptors and the one of a check in progress (R81). -/
def placesTaken (s : State) : Nat :=
  s.track.queue.length + (if s.corr.check.isSome then 1 else 0)

/-- A sense test waits for the drive lines (R53). -/
def claimWaiting (s : State) : Bool :=
  match s.sense.test with
  | some t => t.driver.isNone
  | none => false

/-- The slot is held RESERVED for some lane (R108). -/
def SlotState.isReserved (x : SlotState) : Bool :=
  match x with
  | .reserved _ => true
  | .free => false
  | .bound _ _ => false
  | .failed => false

/-- The lane a slot is held for or drives (R108). -/
def SlotState.target (x : SlotState) : Option Nat :=
  match x with
  | .reserved l => some l
  | .bound l _ => some l
  | .free => none
  | .failed => none

/-- Sets one record of the Spare Slot Table. -/
def setSlot (k : Nat) (x : SlotState) (s : State) : State :=
  s.withRepair { s.repair with slots := s.repair.slots.set k x }

/-- Lane L is the target of a spare slot in state RESERVED. -/
def laneReserved (s : State) (l : Nat) : Bool := s.repair.slots.any (· == .reserved l)

/-- Lane L is the lane of a waiting lane decision (R119) or of the held lane decision (R117). -/
def laneUndecided (s : State) (l : Nat) : Bool :=
  (match s.repair.waiting with
    | some (.lane l' _ _) => l' == l
    | _ => false)
  || (match s.repair.heldLane, s.corr.check with
    | some _, some c => c.die.lane == l
    | _, _ => false)

/-- The number of slots in state FREE (R171). -/
def freeSlots (s : State) : Nat := s.repair.slots.countP (· == .free)

/-! ## The Local Reply Queue (R165) -/

/-- The queue has a free place. -/
def replyRoom (s : State) : Bool := decide (s.unit.replies.length < Config.replyPlaces)

/-- A reply enters at the tail. -/
def pushReply (r : Reply) (s : State) : State :=
  s.withUnit { s.unit with replies := s.unit.replies ++ [r] }

/-! ## The command queue (log 1) -/

/-- `s` with command `c` put in front of its queue. -/
def enqueueFront (c : Instr) (s : State) : State := s.withPending (c :: s.pending)

end Sys2Proof.Machine
end

