-- ==== Sys2Proof/Machine/Flags.lean ====
section
/-! DEFINITION. Machine/Flags.lean: the notice pending flags and their mask (R176, R177). -/

namespace Sys2Proof.Machine

/-! ## Notices (R176) -/

/-- The flag of a kind. -/
def NoticeFlags.get (f : NoticeFlags) (k : NoticeKind) : Bool :=
  match k with
  | .wideFault => f.wideFault
  | .rowLost => f.rowLost
  | .laneEvent => f.laneEvent
  | .defect => f.defect
  | .listFull => f.listFull
  | .videoState => f.videoState
  | .linkErrors => f.linkErrors

/-- The flags with that of one kind replaced. -/
def NoticeFlags.set (f : NoticeFlags) (k : NoticeKind) (b : Bool) : NoticeFlags :=
  match k with
  | .wideFault => { f with wideFault := b }
  | .rowLost => { f with rowLost := b }
  | .laneEvent => { f with laneEvent := b }
  | .defect => { f with defect := b }
  | .listFull => { f with listFull := b }
  | .videoState => { f with videoState := b }
  | .linkErrors => { f with linkErrors := b }

/-- The flags with every kind disabled in the mask cleared (R168, R176). -/
def NoticeFlags.masked (f m : NoticeFlags) : NoticeFlags where
  wideFault := f.wideFault && m.wideFault
  rowLost := f.rowLost && m.rowLost
  laneEvent := f.laneEvent && m.laneEvent
  defect := f.defect && m.defect
  listFull := f.listFull && m.listFull
  videoState := f.videoState && m.videoState
  linkErrors := f.linkErrors && m.linkErrors

/-- The pending kind of highest priority (R177). -/
def NoticeFlags.highest (f : NoticeFlags) : Option NoticeKind :=
  if f.wideFault then some .wideFault
  else if f.rowLost then some .rowLost
  else if f.laneEvent then some .laneEvent
  else if f.defect then some .defect
  else if f.listFull then some .listFull
  else if f.videoState then some .videoState
  else if f.linkErrors then some .linkErrors
  else none

/-- An event of kind `k`: it sets the kind's pending flag when `notice_mask` enables the kind (R176). -/
def raise (k : NoticeKind) (s : State) : State :=
  if s.unit.params.noticeMask.get k then
    s.withUnit { s.unit with notices := s.unit.notices.set k true }
  else s

end Sys2Proof.Machine
end

