-- ==== Sys2Proof/Machine/Operands.lean ====
section
/-! DEFINITION. Machine/Operands.lean: how a request's payload is read (R179, 11.2): the kind codes, the length that fits
each kind, little-endian numbers, dies, modes, parameter pairs, gains, packed video codes and defect records. -/

namespace Sys2Proof.Machine

/-! ## Kinds (11.2) -/

abbrev kEnum : Byte := 0x01
abbrev kIdent : Byte := 0x02
abbrev kStatus : Byte := 0x03
abbrev kSetParam : Byte := 0x04
abbrev kGetParam : Byte := 0x05
abbrev kLoadGain : Byte := 0x06
abbrev kReadGain : Byte := 0x07
abbrev kRow : Byte := 0x08
abbrev kFrame : Byte := 0x09
abbrev kMode : Byte := 0x0A
abbrev kTest : Byte := 0x0B
abbrev kRepair : Byte := 0x0C
abbrev kReadDefects : Byte := 0x0D
abbrev kLoadDefects : Byte := 0x0E
abbrev kClearDefects : Byte := 0x0F
abbrev kReadSuspects : Byte := 0x10
abbrev kReadSpares : Byte := 0x11
abbrev kReadMap : Byte := 0x12
abbrev kClearCounts : Byte := 0x13
abbrev kReset : Byte := 0x14
abbrev kChainReset : Byte := 0x15

/-- The reply marker of a kind, bit 7 (11.1). -/
def hasReplyMarker (kind : Byte) : Bool := kind.getLsbD 7

/-- A kind code with the reply marker set (11.1). -/
def withReplyMarker (kind : Byte) : Byte := kind ||| 0x80

/-- The code is a request kind of the part (11.2). -/
def isRequestKind (kind : Byte) : Bool := decide (1 ≤ kind.toNat ∧ kind.toNat ≤ 0x15)

/-- The kinds accepted locally as a broadcast (R152). -/
def acceptsBroadcast (kind : Byte) : Bool :=
  kind == kFrame || kind == kMode || kind == kSetParam || kind == kClearCounts || kind == kReset || kind == kEnum

/-- The payload length fits the kind (11.2, R164). -/
def lengthFits (kind : Byte) (n : Nat) : Bool :=
  match kind.toNat with
  | 0x01 => n == 1
  | 0x04 => decide (3 ≤ n ∧ n ≤ 96 ∧ n % 3 = 0)
  | 0x05 => decide (1 ≤ n ∧ n ≤ 32)
  | 0x06 => decide (4 ≤ n ∧ n ≤ 512 ∧ n % 2 = 0)
  | 0x07 => n == 3
  | 0x08 => n == 217
  | 0x09 => n == 2
  | 0x0A => n == 1
  | 0x0B => n == 3
  | 0x0C => n == 4
  | 0x0D => n == 2
  | 0x0E => decide (14 ≤ n ∧ n ≤ 504 ∧ n % 14 = 0)
  | 0x10 => n == 2
  | 0x12 => n == 2
  | _ => n == 0

/-! ## Bytes of a payload (R179) -/

/-- Byte i of a payload as a number. -/
def byteAt (p : List Byte) (i : Nat) : Nat := (p.getD i 0).toNat

/-- The two-byte little-endian number at offset i. -/
def le16At (p : List Byte) (i : Nat) : Nat := byteAt p i + 256 * byteAt p (i + 1)

/-- A two-byte number read as two's complement. -/
def signed16 (n : Nat) : Int := if n < 32768 then (n : Int) else (n : Int) - 65536

/-- The code of a die: 0 die A, 1 die B; any other value names nothing. -/
def dieOfCode (n : Nat) : Option Die :=
  match n with
  | 0 => some .a
  | 1 => some .b
  | _ => none

/-- The code of a mode (11.2). -/
def modeOfCode (n : Nat) : Option Mode :=
  match n with
  | 0 => some .standby
  | 1 => some .run
  | 2 => some .blank
  | _ => none

/-- The pairs of a SET_PARAM payload, each an id and a 16-bit value (R168). -/
def paramPairs : List Byte → List (Nat × Nat)
  | i :: lo :: hi :: rest => (i.toNat, lo.toNat + 256 * hi.toNat) :: paramPairs rest
  | _ => []

/-- The little-endian numbers of two bytes each that a payload holds. -/
def words16 : List Byte → List Nat
  | lo :: hi :: rest => (lo.toNat + 256 * hi.toNat) :: words16 rest
  | _ => []

/-- The twelve-bit codes of the groups of three bytes of a ROW payload, the lower lane first (R180). -/
def unpackCodes : List Byte → List Nat
  | b0 :: b1 :: b2 :: rest =>
    (b0.toNat + 256 * (b1.toNat % 16)) :: (b1.toNat / 16 + 16 * b2.toNat) :: unpackCodes rest
  | _ => []

/-- The 14-byte records of a LOAD_DEFECTS payload. `n` bounds their number. -/
def chunks14 : Nat → List Byte → List (List Byte)
  | 0, _ => []
  | n + 1, p => if p.length < 14 then [] else p.take 14 :: chunks14 n (p.drop 14)

/-- The die that a TEST or RELEASE_DIE names, if it names one of the tile (R65, R123). -/
def dieNamed (s : State) (r l d : Nat) : Option DieRef :=
  match dieOfCode d with
  | some x => if r < depth s ∧ l < Config.lanes then some ⟨r, l, x⟩ else none
  | none => none

end Sys2Proof.Machine
end

