-- ==== Sys2Proof/Machine/Formats.lean ====
section
/-! DEFINITION. Machine/Formats.lean: the byte layouts the part writes (chapter 11) and the CRC of a message (R144). -/

namespace Sys2Proof.Machine

/-! ## Numbers and codes -/

/-- A one-byte number. -/
def byteOf (n : Nat) : Byte := BitVec.ofNat 8 n

/-- A two-byte number, least significant byte first (R179). -/
def le16 (n : Nat) : List Byte := [byteOf n, byteOf (n / 256)]

/-- A four-byte number, least significant byte first (R179). -/
def le32 (n : Nat) : List Byte := [byteOf n, byteOf (n / 256), byteOf (n / 65536), byteOf (n / 16777216)]

/-- A signed two-byte number in two's complement (R179). -/
def leSigned16 (n : Int) : List Byte := le16 (n % 65536).toNat

/-- A true/false field (R179). -/
def flagByte (b : Bool) : Byte := if b then 1 else 0

/-- A one-byte optional field, 0xFF when absent (R179). -/
def optByte (x : Option Nat) : Byte :=
  match x with
  | some n => byteOf n
  | none => 0xFF

/-- The twelve reply statuses (R179). -/
inductive ReplyStatus where
  | ok | clamped | busy | state | field | length | kind | full | duplicate | conflict | notFound | aborted
  deriving DecidableEq, Repr

/-- The status codes (R179). -/
def statusByte (x : ReplyStatus) : Byte :=
  match x with
  | .ok => 0
  | .clamped => 1
  | .busy => 2
  | .state => 3
  | .field => 4
  | .length => 5
  | .kind => 6
  | .full => 7
  | .duplicate => 8
  | .conflict => 9
  | .notFound => 10
  | .aborted => 11

def dieByte (d : Die) : Byte := match d with | .a => 0 | .b => 1
def modeByte (m : Mode) : Byte := match m with | .standby => 0 | .run => 1 | .blank => 2
def videoByte (v : VideoState) : Byte := match v with | .dark => 0 | .live => 1 | .holding => 2
def causeByte (c : ResetCause) : Byte := match c with | .power => 0 | .link => 1 | .soft => 2
def resultByte (r : TestResult) : Byte := match r with | .good => 0 | .openDie => 1 | .shortDie => 2 | .inconclusive => 3
def effectByte (e : SuspectEffect) : Byte :=
  match e with | .none => 0 | .new => 1 | .updated => 2 | .cleared => 3 | .notTracked => 4
def probeByte (r : ProbeResult) : Byte := match r with | .pending => 0 | .pass => 1 | .fail => 2
def policyByte (p : Policy) : Byte := match p with | .auto => 0 | .advise => 1 | .suspended => 2
def failKindByte (k : FailKind) : Byte := match k with | .openDie => 0 | .shortDie => 1
def faultKindByte (k : FaultKind) : Byte := match k with | .openDie => 0 | .shortDie => 1 | .intermittent => 2
def rowByte (r : RowState) : Byte := match r with | .normal => 0 | .lost => 1

/-- A die is three consecutive bytes: r, L, d (R179). -/
def dieBytes (x : DieRef) : List Byte := [byteOf x.row, byteOf x.lane, dieByte x.die]

/-! ## Records (R181) -/

def defectKindByte (k : DefectKind) : Byte :=
  match k with
  | .openDie => 0
  | .shortDie => 1
  | .intermittent => 2
  | .laneDead => 3
  | .rowDead => 4
  | .wide => 5
  | .manual => 6

def defectActionByte (a : DefectAction) : Byte :=
  match a with
  | .none => 0
  | .dieSwap => 1
  | .conceal => 2
  | .spareBound => 3
  | .laneDark => 4
  | .rowConceal => 5
  | .selectA => 6
  | .selectB => 7
  | .forceOff => 8

def originCode (o : Origin) : Nat := match o with | .sensed => 0 | .manual => 1 | .loaded => 2

/-- Bytes 2 to 5 of a defect record: target type, r, L, d (R181). -/
def targetBytes (t : Target) : List Byte :=
  match t with
  | .die r l d => [0, byteOf r, byteOf l, dieByte d]
  | .lane l => [1, 0, byteOf l, 0]
  | .row r => [2, byteOf r, 0, 0]
  | .cell r l => [3, byteOf r, byteOf l, 0]

/-- A defect record, 14 bytes (R181). -/
def defectBytes (x : Defect) : List Byte :=
  le16 x.seq ++ targetBytes x.target ++ [defectKindByte x.kind, defectActionByte x.action, optByte x.slot,
    byteOf ((if x.verifyFailed then 1 else 0) + (if x.hotSeen then 2 else 0) + 4 * originCode x.origin)]
    ++ le16 x.frame ++ leSigned16 x.temp

/-- A Suspect List entry, 20 bytes (R181). -/
def suspectBytes (x : Suspect) : List Byte :=
  dieBytes x.die
    ++ [byteOf ((if x.held.isSome then 1 else 0) + (if x.lastWindow.isSome then 2 else 0)), failKindByte x.kind,
        byteOf x.hits, byteOf x.passes, byteOf x.flips]
    ++ le32 x.createdFrame ++ le16 (x.lastWindow.getD 0)
    ++ (match x.held with
        | some h => [faultKindByte h.kind, byteOf h.order] ++ le32 h.frame
        | none => [0xFF, 0xFF] ++ le32 0)

/-- A Confirmed Queue entry, 10 bytes (R181). -/
def descriptorBytes (x : Descriptor) : List Byte :=
  dieBytes x.die ++ [faultKindByte x.kind, byteOf x.hits, byteOf x.flips] ++ le32 x.frame

/-- A slot record, 7 bytes (R181). -/
def slotBytes (x : SlotState) : List Byte :=
  match x with
  | .free => [0, 0xFF, 0xFF] ++ le32 0
  | .reserved l => [1, byteOf l, byteOf (l % 3)] ++ le32 0
  | .bound l f => [2, byteOf l, byteOf (l % 3)] ++ le32 f
  | .failed => [3, 0xFF, 0xFF] ++ le32 0

/-- The Lane State byte of READ_SPARES (R181). -/
def laneByte (x : LaneState) : Byte :=
  match x with
  | .normal => 0x00
  | .spared k => byteOf (0x10 + k)
  | .dark => 0x20

/-- One probe of the check record, 5 bytes (R181). -/
def probeBytes (x : Probe) : List Byte :=
  (match x.target with
    | some d => 1 :: dieBytes d
    | none => [0, 0, 0, 0]) ++ [probeByte x.result]

/-- The check record of READ_SPARES, 32 bytes (R104, R181). -/
def checkBytes (x : Option Check) : List Byte :=
  match x with
  | none => List.replicate 32 0
  | some c =>
    (match c.verify with
      | none => [1]
      | some _ => [2])
    ++ dieBytes c.die ++ [flagByte c.hotSeen] ++ (c.probes.map probeBytes).flatten
    ++ (match c.verify with
      | none => [0xFF, 0, 0, 0, 0, 0xFF, 0xFF]
      | some v => [byteOf v.slot] ++ dieBytes v.die
          ++ [byteOf v.tried.length, optByte v.tried[0]?, optByte v.tried[1]?])

/-- The check phase code (11.2, R88). -/
def checkPhaseByte (x : Option Check) : Byte :=
  match x with
  | none => 0
  | some c => if c.verify.isNone then 1 else 2

def cellStateCode (c : CellState) : Nat := match c with | .aActive => 0 | .bActive => 1 | .concealed => 2 | .forcedOff => 3
def healthCode (h : Health) : Nat := match h with | .unknown => 0 | .good => 1 | .openDie => 2 | .shortDie => 3 | .flaky => 4

/-- A READ_MAP cell byte: state in bits 0..1, health A in bits 2..4, health B in bits 5..7 (R181). -/
def cellByte (e : CellEntry) : Byte :=
  byteOf (cellStateCode e.state + 4 * healthCode e.healthA + 32 * healthCode e.healthB)

/-- The bytes that hold a list of bits, bit i in bit i mod 8 of byte floor(i / 8); `n` bytes (11.2). -/
def bitBytes (n : Nat) (bits : List Bool) : List Byte :=
  (List.range n).map fun j =>
    byteOf ((List.range 8).foldl (fun acc i => acc + (if bits.getD (8 * j + i) false then 2 ^ i else 0)) 0)

/-- The value of `notice_mask`: bit p − 1 enables the kind of priority p (R168). -/
def maskValue (m : NoticeFlags) : Nat :=
  (if m.wideFault then 1 else 0) + (if m.rowLost then 2 else 0) + (if m.laneEvent then 4 else 0)
    + (if m.defect then 8 else 0) + (if m.listFull then 16 else 0) + (if m.videoState then 32 else 0)
    + (if m.linkErrors then 64 else 0)

/-- The enables that the low seven bits of a value name (R168). -/
def maskOfValue (v : Nat) : NoticeFlags :=
  ⟨v.testBit 0, v.testBit 1, v.testBit 2, v.testBit 3, v.testBit 4, v.testBit 5, v.testBit 6⟩

/-- The nine link counters as LINK_ERRORS carries them (11.2). -/
def counterBytes (u d : Counters) : List Byte :=
  le16 u.crcErr ++ le16 u.framingErr ++ le16 u.poisonedRx ++ le16 u.overrun ++ le16 u.misroute
    ++ le16 d.crcErr ++ le16 d.framingErr ++ le16 d.poisonedRx ++ le16 d.overrun

/-! ## The CRC (R144) -/

/-- `n` shifts of the CRC register, polynomial x^16 + x^12 + x^5 + 1. -/
def crcShift : Nat → Word16 → Word16
  | 0, c => c
  | n + 1, c => crcShift n (if c.getLsbD 15 then (c <<< 1) ^^^ 0x1021 else c <<< 1)

/-- One byte enters the register, most significant bit first. -/
def crcByte (c : Word16) (b : Byte) : Word16 := crcShift 8 (c ^^^ (b.setWidth 16 <<< 8))

/-- The CRC over a list of bytes, initial value 0xFFFF. -/
def crcOf (bytes : List Byte) : Word16 := bytes.foldl crcByte 0xFFFF

/-- The six header bytes of a message (11.1). -/
def headerBytes (h : Header) : List Byte :=
  [h.dst, h.src, h.kind, h.tag] ++ le16 h.len.toNat

/-- The header of a message. -/
def headerOf (m : Message) : Header := ⟨m.dst, m.src, m.kind, m.tag, BitVec.ofNat 16 m.payload.length⟩

/-- The CRC of a message, over header and payload (R144). -/
def messageCrc (h : Header) (payload : List Byte) : Word16 := crcOf (headerBytes h ++ payload)

/-- The end mark of a good message (R143). -/
abbrev markGood : Byte := 0x5A

/-- The end mark of a poisoned message (R143). -/
abbrev markPoisoned : Byte := 0xA9

/-- A message that the tile forms: its CRC computed and its end mark 0x5A (R144). -/
def formed (m : Message) : Wire := ⟨m, messageCrc (headerOf m) m.payload, markGood⟩

/-- The bytes of a message on the line, start byte to end mark (R143, 11.1). -/
def wireBytes (w : Wire) : List Byte :=
  [0xC3] ++ headerBytes (headerOf w.msg) ++ w.msg.payload ++ le16 w.crc.toNat ++ [w.mark]

end Sys2Proof.Machine
end

