-- ==== Sys2Proof/Machine/Links.lean ====
section
/-! DEFINITION. Machine/Links.lean: the two receivers (R145 to R149), the counters (R150), routing and the buffers (R152 to
R156), and the go lines (R148, R161). -/

namespace Sys2Proof.Machine

/-! ## Room, go and line levels (R148, R149, R160, R161) -/

/-- The UP receiver has room: a free place in the UP receive buffer and one in the down-forward buffer (R149). -/
def upRoom (s : State) : Bool :=
  decide (s.link.upBuf.length < Config.upPlaces) && decide (s.link.downBuf.length < Config.downPlaces)

/-- The DOWN receiver has room: a free place in the pass-through buffer (R149). -/
def downRoom (s : State) : Bool := decide (s.link.passBuf.length < Config.passPlaces)

/-- UP_GO_OUT is asserted (R148, R161). -/
def upGoOut (s : State) : Bool := upRoom s && !s.link.inLinkReset

/-- DN_GO_OUT is asserted (R148, R161). -/
def downGoOut (s : State) : Bool := downRoom s && !s.link.inLinkReset

/-- A chain reset hold is in progress (R160). -/
def holding (s : State) : Bool :=
  match s.link.hold with
  | .holding _ _ _ => true
  | .none => false
  | .waiting _ _ => false
  | .due _ => false

/-- The DOWN transmitter holds its line at the reset level (R160, R161). -/
def downAtReset (s : State) : Bool := s.link.inLinkReset || holding s

/-! ## Counters (R150) -/

/-- The counters a message can be charged to (R147). -/
inductive Charge where
  | crcErr | framingErr | poisonedRx | overrun | misroute
  deriving DecidableEq, Repr

/-- A port's counters with one raised by one, stopping at 65535 (R150). -/
def Counters.charged (c : Counters) (k : Charge) : Counters :=
  match k with
  | .crcErr => { c with crcErr := satAdd c.crcErr 1 }
  | .framingErr => { c with framingErr := satAdd c.framingErr 1 }
  | .poisonedRx => { c with poisonedRx := satAdd c.poisonedRx 1 }
  | .overrun => { c with overrun := satAdd c.overrun 1 }
  | .misroute => { c with misroute := satAdd c.misroute 1 }

/-- A message is charged to a counter of a port, and LINK_ERRORS becomes pending (R150). -/
def charge (p : Port) (k : Charge) (s : State) : State :=
  raise .linkErrors
    (match p with
      | .up => s.withLink { s.link with upCounts := s.link.upCounts.charged k }
      | .down => s.withLink { s.link with downCounts := s.link.downCounts.charged k })

/-! ## Classification of a message (R147) -/

/-- The counter that a message received to its end mark is charged to, or none when it is good (R147). -/
def classifyEnd (h : Header) (payload : List Byte) (crc : Word16) (mark : Byte) : Option Charge :=
  if mark ≠ markGood ∧ mark ≠ markPoisoned then some .framingErr
  else if mark = markPoisoned then some .poisonedRx
  else if crc ≠ messageCrc h payload then some .crcErr
  else none

/-- The message a header and a payload make. -/
def messageOf (h : Header) (payload : List Byte) : Message := ⟨h.dst, h.src, h.kind, h.tag, payload⟩

/-! ## Places of the buffers -/

/-- The place in reception of the UP receive buffer is given up. -/
def dropUpPlace (xs : List RxPlace) : List RxPlace := xs.filter fun p => p != .receiving

/-- The place in reception of the UP receive buffer holds its message. -/
def fillUpPlace (m : Message) (down : Bool) (xs : List RxPlace) : List RxPlace :=
  xs.map fun p => if p = .receiving then .ready m down else p

/-- The place in reception of the down-forward buffer is given up. -/
def dropFwdPlace (xs : List FwdPlace) : List FwdPlace := xs.filter fun p => p != .receiving

/-- The place in reception of the down-forward buffer holds its message, ready to be sent. -/
def fillFwdPlace (w : Wire) (xs : List FwdPlace) : List FwdPlace :=
  xs.map fun p => if p = .receiving then .ready w else p

/-- The cut-through copy of the down-forward buffer is complete (R155). -/
def finishCut (w : Wire) (xs : List FwdPlace) : List FwdPlace :=
  xs.map fun p =>
    match p with
    | .cutting _ => .ready w
    | .receiving => p
    | .enumSlot => p
    | .ready _ => p

/-- The newest place taken for an ENUM is given up (R158). -/
def dropLastEnumSlot (xs : List FwdPlace) : List FwdPlace := (xs.reverse.erase .enumSlot).reverse

/-- The oldest place taken for an ENUM is given up (R158). -/
def dropFirstEnumSlot (xs : List FwdPlace) : List FwdPlace := xs.erase .enumSlot

/-- The oldest place taken for an ENUM receives the new ENUM, ready to be sent (R158). -/
def fillEnumSlot (w : Wire) : List FwdPlace → List FwdPlace
  | [] => []
  | .enumSlot :: xs => .ready w :: xs
  | x :: xs => x :: fillEnumSlot w xs

/-- A cut-through copy is following its arrival. -/
def cutInProgress (xs : List FwdPlace) : Bool :=
  xs.any fun p =>
    match p with
    | .cutting _ => true
    | .receiving => false
    | .enumSlot => false
    | .ready _ => false

/-- The place in reception of the pass-through buffer is given up. -/
def dropPassPlace (xs : List PassPlace) : List PassPlace := xs.filter fun p => p != .receiving

/-- The place in reception of the pass-through buffer holds its message. -/
def fillPassPlace (w : Wire) (xs : List PassPlace) : List PassPlace :=
  xs.map fun p => if p = .receiving then .ready w else p

/-! ## Start byte (R145, R149) -/

/-- A start byte at UP: in HUNT it begins a message, or an overrun followed in SKIP when there is no room. -/
def startUp (s : State) : State :=
  if s.link.inLinkReset then s
  else
    match s.link.upRx with
    | .hunt =>
      if upRoom s then s.withLink { s.link with upRx := .header, upBuf := s.link.upBuf ++ [.receiving] }
      else charge .up .overrun (s.withLink { s.link with upRx := .skip .overrun none })
    | .header => s
    | .body _ _ _ => s
    | .skip _ _ => s

/-- A start byte at DOWN; in a chain reset hold the DOWN receiver ignores its line (R160). -/
def startDown (s : State) : State :=
  if downAtReset s then s
  else
    match s.link.downRx with
    | .hunt =>
      if downRoom s then s.withLink { s.link with downRx := .header, passBuf := s.link.passBuf ++ [.receiving] }
      else charge .down .overrun (s.withLink { s.link with downRx := .skip .overrun none })
    | .header => s
    | .body _ _ _ => s
    | .skip _ _ => s

/-! ## Routing (R152, R154) -/

/-- The destination lies in the tile's subordinate range: above own and not above subordinate (R152). -/
def behind (s : State) (dst : Nat) : Bool :=
  decide (s.link.address < dst) && decide (dst ≤ s.link.subordinate)

/-- The message goes to the tile: its own address, or a broadcast of a kind accepted locally (R152). -/
def routesToTile (s : State) (h : Header) : Bool :=
  if h.dst = 255 then acceptsBroadcast h.kind
  else decide (h.dst.toNat = s.link.address) && decide (s.link.address ≠ 0)

/-- The message goes down the chain: a broadcast with DOWN partner present, or a destination behind the tile (R152). -/
def routesDown (s : State) (h : Header) : Bool :=
  if h.dst = 255 then s.link.partner else behind s h.dst.toNat

/-- How a message that goes down does so (R152, R154): a broadcast ENUM takes a place for the new ENUM; cut-through when
DOWN is idle with go asserted and nothing waits; store-and-forward otherwise. -/
def forwardWay (s : State) (h : Header) (downGo : Bool) : Forward :=
  if !routesDown s h then .none
  else if h.dst = 255 ∧ h.kind = kEnum then .enumPlace
  else if !s.link.downBusy && downGo && s.link.downBuf.isEmpty && !(h.kind == kEnum) then .cutThrough
  else .stored

/-- The place a forward copy takes at routing. -/
def forwardPlace (h : Header) (f : Forward) : List FwdPlace :=
  match f with
  | .none => []
  | .cutThrough => [.cutting h]
  | .stored => [.receiving]
  | .enumPlace => [.enumSlot]

/-- Routes a message at UP whose header is complete and valid (R152): to discard in SKIP, or onward in BODY. -/
def routeUp (h : Header) (downGo : Bool) (s : State) : State :=
  let toTile := routesToTile s h
  let fwd := forwardWay s h downGo
  if !toTile && fwd == .none && h.dst != 255 then
    s.withLink { s.link with upRx := .skip .misroute (some h), upBuf := dropUpPlace s.link.upBuf }
  else
    s.withLink { s.link with
      upRx := .body h toTile fwd
      upBuf := if toTile then s.link.upBuf else dropUpPlace s.link.upBuf
      downBuf := s.link.downBuf ++ forwardPlace h fwd
      downBusy := s.link.downBusy || fwd == .cutThrough }

/-- The declared payload length is valid (R145). -/
def lengthValid (h : Header) : Bool := decide (h.len.toNat ≤ 512)

/-- DOWN go seen asserted sets DOWN partner present, unless a hold is in progress or the tile stays in a link reset
(R148, R161). DEDUCED, log 12. -/
def noteDownGo (s : State) : State :=
  if downAtReset s then s else s.withLink { s.link with partner := true }

/-- The sixth header byte at UP (R145). A length above 512 in SKIP returns the receiver to HUNT at once with no count: R149
says so of an overrun, and the model takes the same for a message followed since a soft reset. DESIGN CHOICE, log 38. -/
def headerUp (h : Header) (downGo : Bool) (s : State) : State :=
  match s.link.upRx with
  | .header =>
    if lengthValid h then routeUp h downGo (if downGo then noteDownGo s else s)
    else charge .up .framingErr (s.withLink { s.link with upRx := .hunt, upBuf := dropUpPlace s.link.upBuf })
  | .skip why none =>
    s.withLink { s.link with upRx := if lengthValid h then .skip why (some h) else .hunt }
  | .skip _ (some _) => s
  | .hunt => s
  | .body _ _ _ => s

/-- The sixth header byte at DOWN (R145, R149). The same in SKIP as at UP: DESIGN CHOICE after a soft reset, log 38. -/
def headerDown (h : Header) (s : State) : State :=
  match s.link.downRx with
  | .header =>
    if lengthValid h then s.withLink { s.link with downRx := .body h false .none }
    else charge .down .framingErr (s.withLink { s.link with downRx := .hunt, passBuf := dropPassPlace s.link.passBuf })
  | .skip why none =>
    s.withLink { s.link with downRx := if lengthValid h then .skip why (some h) else .hunt }
  | .skip _ (some _) => s
  | .hunt => s
  | .body _ _ _ => s

/-! ## The end of a message (R146, R147, R155, R156) -/

/-- The UP receiver returns to HUNT with the buffers given. -/
def upHunt (ups : List RxPlace) (downs : List FwdPlace) (s : State) : State :=
  s.withLink { s.link with upRx := .hunt, upBuf := ups, downBuf := downs }

/-- The buffers' forward part after a bad arrival: a stored copy is discarded, an ENUM's place is given up, and a
cut-through copy is finished as `copy` (R154, R155, R158). -/
def forwardBad (f : Forward) (copy : Wire) (xs : List FwdPlace) : List FwdPlace :=
  match f with
  | .none => xs
  | .cutThrough => finishCut copy xs
  | .stored => dropFwdPlace xs
  | .enumPlace => dropLastEnumSlot xs

/-- The buffers' forward part after a good arrival. -/
def forwardGood (f : Forward) (w : Wire) (xs : List FwdPlace) : List FwdPlace :=
  match f with
  | .none => xs
  | .cutThrough => finishCut w xs
  | .stored => fillFwdPlace w xs
  | .enumPlace => xs

/-- The end mark of a message at UP (R147, R153, R155, R162). The receiver counts bytes by the declared length, so a
payload of another length ends no message. -/
def endUp (payload : List Byte) (crc : Word16) (mark : Byte) (s : State) : State :=
  match s.link.upRx with
  | .body h toTile fwd =>
    if payload.length ≠ h.len.toNat then s
    else
      let m := messageOf h payload
      match classifyEnd h payload crc mark with
      | none =>
        upHunt (if toTile then fillUpPlace m (fwd != .none) s.link.upBuf else s.link.upBuf)
          (forwardGood fwd ⟨m, crc, mark⟩ s.link.downBuf) s
      | some k =>
        charge .up k (upHunt (dropUpPlace s.link.upBuf) (forwardBad fwd ⟨m, crc, markPoisoned⟩ s.link.downBuf) s)
  | .skip .overrun (some h) =>
    if payload.length ≠ h.len.toNat then s else upHunt s.link.upBuf s.link.downBuf s
  | .skip .misroute (some h) =>
    if payload.length ≠ h.len.toNat then s
    else charge .up ((classifyEnd h payload crc mark).getD .misroute) (upHunt s.link.upBuf s.link.downBuf s)
  | .skip .softReset (some h) =>
    if payload.length ≠ h.len.toNat then s
    else
      let copyMark := if classifyEnd h payload crc mark = none then markGood else markPoisoned
      upHunt s.link.upBuf (finishCut ⟨messageOf h payload, crc, copyMark⟩ s.link.downBuf) s
  | .skip _ none => s
  | .hunt => s
  | .header => s

/-- The last field of an ENUM reply, when the message is one (R159). -/
def enumReplyLast (m : Message) : Option Nat :=
  if m.kind = withReplyMarker kEnum then m.payload[1]?.map BitVec.toNat else none

/-- An ENUM reply becoming ready in the pass-through buffer extends the subordinate address (R159). -/
def noteEnumReply (m : Message) (s : State) : State :=
  match enumReplyLast m with
  | some last =>
    if s.link.address ≠ 0 ∧ s.link.address ≤ last ∧ last ≤ 254 then s.withLink { s.link with subordinate := last } else s
  | none => s

/-- The end mark of a message at DOWN (R147, R156, R159). -/
def endDown (payload : List Byte) (crc : Word16) (mark : Byte) (s : State) : State :=
  match s.link.downRx with
  | .body h _ _ =>
    if payload.length ≠ h.len.toNat then s
    else
      let m := messageOf h payload
      match classifyEnd h payload crc mark with
      | none =>
        noteEnumReply m
          (s.withLink { s.link with downRx := .hunt, passBuf := fillPassPlace ⟨m, crc, mark⟩ s.link.passBuf })
      | some k =>
        charge .down k (s.withLink { s.link with downRx := .hunt, passBuf := dropPassPlace s.link.passBuf })
  | .skip _ (some h) =>
    if payload.length ≠ h.len.toNat then s else s.withLink { s.link with downRx := .hunt }
  | .skip _ none => s
  | .hunt => s
  | .header => s

/-- The cut-through copy of a message that a gap has ended: the bytes received, 0x00 for the rest of the declared payload,
two CRC bytes of 0x00 and the end mark 0xA9 (R155). -/
def paddedCopy (h : Header) (received : List Byte) : Wire where
  msg := messageOf h ((received ++ List.replicate h.len.toNat 0).take h.len.toNat)
  crc := 0
  mark := markPoisoned

/-- A gap inside a message at UP (R146, R155). -/
def gapUp (received : List Byte) (s : State) : State :=
  match s.link.upRx with
  | .header => charge .up .framingErr (upHunt (dropUpPlace s.link.upBuf) s.link.downBuf s)
  | .body h _ fwd =>
    charge .up .framingErr
      (upHunt (dropUpPlace s.link.upBuf) (forwardBad fwd (paddedCopy h received) s.link.downBuf) s)
  | .skip .misroute _ => charge .up .framingErr (upHunt s.link.upBuf s.link.downBuf s)
  | .skip .overrun _ => upHunt s.link.upBuf s.link.downBuf s
  | .skip .softReset (some h) =>
    upHunt s.link.upBuf (finishCut (paddedCopy h received) s.link.downBuf) s
  | .skip .softReset none => upHunt s.link.upBuf s.link.downBuf s
  | .hunt => s

/-- A gap inside a message at DOWN (R146). -/
def gapDown (s : State) : State :=
  match s.link.downRx with
  | .header =>
    charge .down .framingErr (s.withLink { s.link with downRx := .hunt, passBuf := dropPassPlace s.link.passBuf })
  | .body _ _ _ =>
    charge .down .framingErr (s.withLink { s.link with downRx := .hunt, passBuf := dropPassPlace s.link.passBuf })
  | .skip _ _ => s.withLink { s.link with downRx := .hunt }
  | .hunt => s

/-! ## The chain reset hold (R160) -/

/-- A receiver that loses its forward copy at the start of a hold follows its message to the end; what is left of the
route is the local copy. -/
def RxState.withoutForward (x : RxState) : RxState :=
  match x with
  | .body h toTile _ => .body h toTile .none
  | .hunt => .hunt
  | .header => .header
  | .skip why h => .skip why h

/-- A message waiting in the UP receive buffer that has no place in the down-forward buffer any more. -/
def RxPlace.withoutForward (x : RxPlace) : RxPlace :=
  match x with
  | .ready m _ => .ready m false
  | .receiving => .receiving

/-- The duration of the hold in ms (R160). -/
abbrev holdMs : Nat := 2

/-- The start of the hold (R160), for the request with this source and tag. DEDUCED, log 14. -/
def startHold (src tag : Byte) (s : State) : State :=
  s.withLink { s.link with
    subordinate := s.link.address
    partner := false
    downBuf := []
    upBuf := s.link.upBuf.map RxPlace.withoutForward
    upRx := s.link.upRx.withoutForward
    downRx := .hunt
    passBuf := dropPassPlace s.link.passBuf
    hold := .holding src tag holdMs }

/-- The hold that an accepted CHAIN_RESET waits for starts as soon as the DOWN transmitter is idle (R160). -/
def startHoldIfIdle (s : State) : State :=
  match s.link.hold with
  | .waiting src tag => if s.link.downBusy then s else startHold src tag s
  | .none => s
  | .holding _ _ _ => s
  | .due _ => s

/-! ## Transmission (R153, R154, R156, R157) -/

/-- The message is a broadcast RESET. -/
def isBroadcastReset (m : Message) : Bool := m.dst == 255 && m.kind == kReset

/-- The broadcast RESETs of the UP receive buffer that wait for their forward copies (R153). -/
def waitingResets (xs : List RxPlace) : Nat :=
  xs.countP fun p =>
    match p with
    | .ready m true => isBroadcastReset m
    | .ready _ false => false
    | .receiving => false

/-- The forward copies of broadcast RESETs in the down-forward buffer. Local copies and forward copies stand in the order
they were routed, and only the oldest copies can have lost their local one (a soft reset, or an arrival that ended bad), so
the local copy of the message sent still waits exactly when more local copies wait than copies are left. -/
def resetCopies (xs : List FwdPlace) : Nat :=
  xs.countP fun p =>
    match p with
    | .ready w => isBroadcastReset w.msg
    | .cutting _ => false
    | .receiving => false
    | .enumSlot => false

/-- The first broadcast RESET that waits for its forward copy is released (R153). -/
def releaseReset : List RxPlace → List RxPlace
  | [] => []
  | .ready m true :: xs => if isBroadcastReset m then .ready m false :: xs else .ready m true :: releaseReset xs
  | x :: xs => x :: releaseReset xs

/-- The oldest message of the pass-through buffer, when it is ready (R157). -/
def passReady (s : State) : Option Wire :=
  match s.link.passBuf with
  | .ready w :: _ => some w
  | .receiving :: _ => none
  | [] => none

end Sys2Proof.Machine
end

