-- ==== Sys2Proof/Machine/Maps.lean ====
section
/-! DEFINITION. Machine/Maps.lean: the planned state of the repair maps (R110), the Pending Change List and its
application (R111 to R113), the zeroing of victims outside a composition (R47), and the addition and removal of Defect
List records (R131, R132). -/

namespace Sys2Proof.Machine

/-! ## Planned state (R110) -/

/-- The planned state of cell (r, L): the latest listed cell change for it, or its current state. -/
def plannedCell (s : State) (r l : Nat) : CellState :=
  s.repair.changes.foldl (fun acc c =>
    match c with
    | .cell r' l' st => if r' = r ∧ l' = l then st else acc
    | .lane _ _ _ => acc
    | .row _ _ => acc
    | .removal _ _ => acc) (cellEntry s r l).state

/-- The planned state of lane L. -/
def plannedLane (s : State) (l : Nat) : LaneState :=
  s.repair.changes.foldl (fun acc c =>
    match c with
    | .lane l' st _ => if l' = l then st else acc
    | .cell _ _ _ => acc
    | .row _ _ => acc
    | .removal _ _ => acc) (laneNow s l)

/-- The planned state of row r. -/
def plannedRow (s : State) (r : Nat) : RowState :=
  s.repair.changes.foldl (fun acc c =>
    match c with
    | .row r' st => if r' = r then st else acc
    | .cell _ _ _ => acc
    | .lane _ _ _ => acc
    | .removal _ _ => acc) (rowNow s r)

/-- The slot a Lane State names. -/
def LaneState.slot (x : LaneState) : Option Nat :=
  match x with
  | .spared k => some k
  | .normal => none
  | .dark => none

/-- What a disposition makes of a displaced slot (R112). -/
def Disposition.toSlot (d : Disposition) : SlotState :=
  match d with
  | .failed => .failed
  | .free => .free

/-- The slot is BOUND to lane L (R108). -/
def SlotState.boundTo (x : SlotState) (l : Nat) : Bool :=
  match x with
  | .bound l' _ => l' == l
  | .free => false
  | .reserved _ => false
  | .failed => false

/-- The Spare Slot Table after a lane change of L (R112): a slot BOUND to L other than the one named is displaced, and
the named slot becomes BOUND to L with the bind frame given, whatever state it held. -/
def slotsAfter (slots : List SlotState) (l : Nat) (st : LaneState) (disp : Disposition) (frame : Nat) : List SlotState :=
  slots.mapIdx fun k x =>
    if st.slot = some k then .bound l frame
    else if x.boundTo l then disp.toSlot
    else x

/-- The Spare Slot Table after every listed lane change. -/
def slotsPlanned (s : State) : List SlotState :=
  s.repair.changes.foldl (fun acc c =>
    match c with
    | .lane l st disp => slotsAfter acc l st disp s.store.frameCount
    | .cell _ _ _ => acc
    | .row _ _ => acc
    | .removal _ _ => acc) s.repair.slots

/-- The planned state of a slot: its current state, but for a slot that would become BOUND or FAILED under a listed lane
change (R110). DEDUCED, log 20. -/
def plannedSlot (s : State) (k : Nat) : SlotState :=
  match (slotsPlanned s).getD k .failed with
  | .bound l f => .bound l f
  | .failed => .failed
  | .free => slotNow s k
  | .reserved _ => slotNow s k

/-- The lowest-numbered slot of lane L's group that is planned FREE and not among `tried` (R117). -/
def freeSlotFor (s : State) (l : Nat) (tried : List Nat) : Option Nat :=
  (slotsOf l).find? fun k => plannedSlot s k == .free && !tried.contains k

/-! ## Zeroing of victims (R47) -/

/-- Sets to 0 the pulse length of every cell that is a victim or FORCED_OFF in the current maps. -/
def zeroVictims (s : State) : State :=
  s.withComp { s.comp with
    pulses := s.comp.pulses.mapIdx fun r ps => ps.mapIdx fun l p => if isLive s r l then p else 0 }

/-! ## Application of the Pending Change List (R112, R113) -/

/-- A slot's move sets LANE_EVENT pending: it becomes BOUND, becomes FAILED, or is freed from BOUND (R113). -/
def slotMoves (old new : SlotState) : Bool :=
  match old, new with
  | .bound l f, .bound l' f' => !(l == l' && f == f')
  | .bound _ _, _ => true
  | _, .bound _ _ => true
  | .failed, .failed => false
  | _, .failed => true
  | _, _ => false

/-- A lane change sets LANE_EVENT pending: it binds a slot, moves another one, or moves the lane into or out of DARK. -/
def laneChangeShows (s : State) (l : Nat) (st : LaneState) (disp : Disposition) (frame : Nat) : Bool :=
  st.slot.isSome
    || (List.zipWith slotMoves s.repair.slots (slotsAfter s.repair.slots l st disp frame)).any id
    || ((laneNow s l == .dark) != (st == .dark))

/-- Applies one entry to the current maps; `frame` is the bind frame a slot that becomes BOUND takes. -/
def applyChange (frame : Nat) (s : State) (c : Change) : State :=
  match c with
  | .cell r l st =>
    s.withRepair { s.repair with cells := cellSet s.repair.cells r l { cellEntry s r l with state := st } }
  | .lane l st disp =>
    let shown := laneChangeShows s l st disp frame
    let s1 := s.withRepair { s.repair with
      slots := slotsAfter s.repair.slots l st disp frame
      lanes := s.repair.lanes.set l st }
    if shown then raise .laneEvent s1 else s1
  | .row r st =>
    let s1 := s.withRepair { s.repair with rows := s.repair.rows.set r st }
    if rowNow s r == st then s1 else raise .rowLost s1
  | .removal key seq =>
    s.withRepair { s.repair with
      defects := s.repair.defects.filter fun x => !(x.target == key && x.seq == seq) }

/-- Applies every entry, oldest first, and empties the list (R112). -/
def applyChangesAt (frame : Nat) (s : State) : State :=
  let s1 := s.repair.changes.foldl (applyChange frame) s
  s1.withRepair { s1.repair with changes := [] }

/-- The application at a frame boundary and in STANDBY: the bind frame is the frame count at the application (R34). In
STANDBY and in BLANK it is followed by the zeroing of victims (R47). -/
def applyChanges (s : State) : State :=
  let s1 := applyChangesAt s.store.frameCount s
  if s.ctl.mode = .run then s1 else zeroVictims s1

/-- The list has room for `n` more entries (R111). -/
def changeRoom (n : Nat) (s : State) : Bool := decide (s.repair.changes.length + n ≤ Config.changePlaces)

/-- Adds entries at the tail of the list; in STANDBY they are applied as they are added (R111, R112). -/
def addChanges (cs : List Change) (s : State) : State :=
  let s1 := s.withRepair { s.repair with changes := s.repair.changes ++ cs }
  if s.ctl.mode = .standby then applyChanges s1 else s1

/-! ## Defect List records (R131, R132, R133) -/

/-- The record of a target. -/
def recordOf (s : State) (t : Target) : Option Defect := s.repair.defects.find? fun x => x.target == t

/-- A record for the target can be added: it replaces one, or the list holds fewer than 192 (R115, R131). -/
def recordRoom (s : State) (t : Target) : Bool :=
  (recordOf s t).isSome || decide (s.repair.defects.length < Config.defectPlaces)

/-- Adds a record at the tail with the next seq, in place of any record of its target (R131, R132). -/
def addRecord (x : Defect) (s : State) : State :=
  s.withRepair { s.repair with
    defects := s.repair.defects.filter (fun y => !(y.target == x.target)) ++ [{ x with seq := s.repair.seqCounter }]
    seqCounter := (s.repair.seqCounter + 1) % 65536 }

/-- A record added by a decision or a manual action raises the defects-since count and sets DEFECT pending (R135, R178). -/
def countDefect (s : State) : State :=
  raise .defect (s.withUnit { s.unit with defectsSince := satAdd s.unit.defectsSince 1 })

/-- A record as it is stamped at this moment (R133); its seq is filled in by `addRecord`. -/
def stamped (s : State) (t : Target) (k : DefectKind) (a : DefectAction) (slot : Option Nat) (verifyFailed hotSeen : Bool)
    (o : Origin) : Defect where
  seq := 0
  target := t
  kind := k
  action := a
  slot := slot
  verifyFailed := verifyFailed
  hotSeen := hotSeen
  origin := o
  frame := s.store.frameCount % 65536
  temp := s.sense.sample

/-- A record removal naming the record of this target is listed (R123, R136). -/
def removalListed (s : State) (x : Defect) : Bool :=
  s.repair.changes.any fun c => c == .removal x.target x.seq

/-- The automatic state of a cell (R125), by its two healths. -/
def automaticState (e : CellEntry) : CellState :=
  if e.healthA.bad then (if e.healthB.bad then .concealed else .bActive) else .aActive

end Sys2Proof.Machine
end

