-- ==== Sys2Proof/Machine/Suspects.lean ====
section
/-! DEFINITION. Machine/Suspects.lean: the Suspect Tracker: applying a result (R73 to R80), the Confirmed Queue and the
held line (R81 to R83), and the removals by lane, row and die (R84 to R86). -/

namespace Sys2Proof.Machine

/-! ## The held line (R82, R83) -/

/-- The number of HELD records of a list. -/
def heldCount (xs : List Suspect) : Nat := xs.countP fun x => x.held.isSome

/-- The number of HELD records with a confirm order below `n`. -/
def heldBefore (xs : List Suspect) (n : Nat) : Nat :=
  xs.countP fun x =>
    match x.held with
    | some h => decide (h.order < n)
    | none => false

/-- Moves the confirm orders down over the records that have left, keeping their order (R83). -/
def renumber (xs : List Suspect) : List Suspect :=
  xs.map fun x =>
    match x.held with
    | some h => { x with held := some { h with order := heldBefore xs h.order + 1 } }
    | none => x

/-- The record is the one with confirm order 1. -/
def Suspect.isFirstHeld (x : Suspect) : Bool :=
  match x.held with
  | some h => h.order == 1
  | none => false

/-- The descriptor a HELD record is handed on with (R83). -/
def Suspect.descriptor (x : Suspect) (h : Held) : Descriptor := ⟨x.die, h.kind, x.hits, x.flips, h.frame⟩

/-- One move of the held line: while a place of the Confirmed Queue is free, the record with confirm order 1 leaves the
list and its descriptor joins the tail of the queue (R83). -/
def fillOnce (s : State) : State :=
  if placesTaken s < Config.confirmedPlaces then
    match s.track.suspects.find? Suspect.isFirstHeld with
    | some x =>
      match x.held with
      | some h =>
        s.withTrack
          { suspects := renumber (s.track.suspects.filter fun y => !y.isFirstHeld)
            queue := s.track.queue ++ [x.descriptor h] }
      | none => s
    | none => s
  else s

/-- Repeats the move while places are free and HELD records remain (R83): at most one for each place. -/
def fillHeld (s : State) : State := (List.range Config.confirmedPlaces).foldl (fun t _ => fillOnce t) s

/-! ## Removals (R84 to R86) -/

/-- Removes every suspect record and every waiting descriptor whose die satisfies `p`, then fills the freed places. -/
def removeDies (p : DieRef → Bool) (s : State) : State :=
  fillHeld (s.withTrack
    { suspects := renumber (s.track.suspects.filter fun x => !p x.die)
      queue := s.track.queue.filter fun x => !p x.die })

/-- A lane removal (R84). -/
def laneRemoval (l : Nat) (s : State) : State := removeDies (fun x => x.lane == l) s

/-- A row removal (R85). -/
def rowRemoval (r : Nat) (s : State) : State := removeDies (fun x => x.row == r) s

/-- A die removal (R86). -/
def dieRemoval (d : DieRef) (s : State) : State := removeDies (fun x => x == d) s

/-! ## Applying a result (R73 to R80) -/

/-- The Suspect List record of a die. -/
def suspectOf (s : State) (d : DieRef) : Option Suspect := s.track.suspects.find? fun x => x.die == d

/-- Replaces the record of a die. -/
def setSuspect (x : Suspect) (s : State) : State :=
  s.withTrack { s.track with suspects := s.track.suspects.map fun y => if y.die == x.die then x else y }

/-- The failing result as a kind, if the result is failing (R55). -/
def TestResult.failing (r : TestResult) : Option FailKind :=
  match r with
  | .openDie => some .openDie
  | .shortDie => some .shortDie
  | .good => none
  | .inconclusive => none

/-- The fault kind a record's own kind confirms with (R78). -/
def FailKind.fault (k : FailKind) : FaultKind :=
  match k with
  | .openDie => .openDie
  | .shortDie => .shortDie

/-- The conditions of R74 other than room in the list: the die may gain a record. -/
def trackable (s : State) (d : DieRef) : Bool :=
  !(healthOf s d).bad
    && !(plannedLane s d.lane == .dark) && !(plannedRow s d.row == .lost)
    && !laneReserved s d.lane && !laneUndecided s d.lane
    && !(s.track.queue.any fun x => x.die == d)
    && !(match s.corr.check with
        | some c => c.die == d
        | none => false)

/-- The kind with which a record confirms against the thresholds in force, if it does (R78). -/
def confirmsAs (p : Params) (x : Suspect) : Option FaultKind :=
  if p.flipLimit ≤ x.flips then some .intermittent
  else if p.confirmHits ≤ x.hits then some x.kind.fault
  else none

/-- A confirmed record: its descriptor joins the queue and it leaves the list, or it turns HELD and LIST_FULL becomes
pending (R78, R82). -/
def confirm (x : Suspect) (k : FaultKind) (s : State) : State :=
  if placesTaken s < Config.confirmedPlaces then
    s.withTrack
      { suspects := s.track.suspects.filter fun y => !(y.die == x.die)
        queue := s.track.queue ++ [⟨x.die, k, x.hits, x.flips, s.store.frameCount⟩] }
  else
    raise .listFull
      (setSuspect { x with held := some ⟨k, s.store.frameCount, heldCount s.track.suspects + 1⟩ } s)

/-- A record in WATCH after a failing result (R75). -/
def Suspect.failed (x : Suspect) (k : FailKind) (window : Nat) : Suspect :=
  { x with
    flips := if 0 < x.passes then x.flips + 1 else x.flips
    passes := 0
    hits := x.hits + 1
    kind := k
    lastWindow := some window }

/-- A record in WATCH after a passing result (R76). -/
def Suspect.passed (x : Suspect) (window : Nat) : Suspect :=
  { x with passes := x.passes + 1, hits := 0, lastWindow := some window }

/-- Applies the result of a walk, retest or spot test granted in window `window`, and returns the suspect effect (R73).
DEDUCED, log 13. -/
def applyResult (d : DieRef) (r : TestResult) (window : Nat) (s : State) : State × SuspectEffect :=
  match suspectOf s d with
  | none =>
    match r.failing with
    | none => (s, .none)
    | some k =>
      if Config.suspectPlaces ≤ s.track.suspects.length then (raise .listFull s, .notTracked)
      else if trackable s d then
        (s.withTrack { s.track with
          suspects := s.track.suspects ++ [⟨d, k, 1, 0, 0, s.store.frameCount, some window, none⟩] }, .new)
      else (s, .notTracked)
  | some x =>
    if x.held.isSome then (setSuspect { x with lastWindow := some window } s, .none)
    else
      match r with
      | .inconclusive => (setSuspect { x with lastWindow := some window } s, .none)
      | .good =>
        let y := x.passed window
        if s.unit.params.confirmHits ≤ y.passes then
          (s.withTrack { s.track with suspects := s.track.suspects.filter fun z => !(z.die == d) }, .cleared)
        else (setSuspect y s, .updated)
      | .openDie =>
        let y := x.failed .openDie window
        match confirmsAs s.unit.params y with
        | some k => (confirm y k s, .updated)
        | none => (setSuspect y s, .updated)
      | .shortDie =>
        let y := x.failed .shortDie window
        match confirmsAs s.unit.params y with
        | some k => (confirm y k s, .updated)
        | none => (setSuspect y s, .updated)

/-- A passing result handed to the Repair Engine: UNKNOWN health becomes GOOD (R56, R106). -/
def notePass (d : DieRef) (s : State) : State :=
  if healthOf s d = .unknown then setHealth d .good s else s

/-- At a window opening, the new window number leaves every record that still holds it (R49, R73). -/
def forgetWindow (n : Nat) (s : State) : State :=
  s.withTrack { s.track with
    suspects := s.track.suspects.map fun x => if x.lastWindow = some n then { x with lastWindow := none } else x }

end Sys2Proof.Machine
end

