-- ==== Sys2Proof/Machine/Decisions.lean ====
section
/-! DEFINITION. Machine/Decisions.lean: the Repair Engine's decisions (R115 to R121), the Correlation Check from the take
of a descriptor to its end (R88 to R100), the held lane decision (R117), the manual bind's completion (R127), and what
comes due when an application makes room (R115, R117, R127). -/

namespace Sys2Proof.Machine

/-! ## A decision's record (R115, R133) -/

/-- A decision left unrecorded: the unrecorded count rises and LIST_FULL becomes pending (R115). -/
def leaveUnrecorded (s : State) : State :=
  raise .listFull (s.withRepair { s.repair with unrecorded := satAdd s.repair.unrecorded 1 })

/-- The record of a decision is added, stamped SENSED (R115). -/
def decisionRecord (t : Target) (k : DefectKind) (a : DefectAction) (slot : Option Nat) (verifyFailed hotSeen : Bool)
    (s : State) : State :=
  countDefect (addRecord (stamped s t k a slot verifyFailed hotSeen .sensed) s)

/-- The decision becomes the waiting decision (R115). -/
def wait (w : Waiting) (s : State) : State := s.withRepair { s.repair with waiting := some w }

/-! ## CELL, ROW and WIDE decisions -/

/-- The health a CELL decision sets (R116). -/
def FaultKind.health (k : FaultKind) : Health :=
  match k with
  | .openDie => .openDie
  | .shortDie => .shortDie
  | .intermittent => .flaky

/-- The kind of a CELL decision's record (R116). -/
def FaultKind.defect (k : FaultKind) : DefectKind :=
  match k with
  | .openDie => .openDie
  | .shortDie => .shortDie
  | .intermittent => .intermittent

/-- The action of a CELL decision under AUTO and the cell's new state, by the planned state of the cell, the die, and
whether the other die is bad (R116). -/
def cellAction (planned : CellState) (d : Die) (otherBad : Bool) : DefectAction × Option CellState :=
  match planned, d with
  | .aActive, .a => if otherBad then (.conceal, some .concealed) else (.dieSwap, some .bActive)
  | .bActive, .b => if otherBad then (.conceal, some .concealed) else (.dieSwap, some .aActive)
  | .aActive, .b => (.none, none)
  | .bActive, .a => (.none, none)
  | .concealed, _ => (.none, none)
  | .forcedOff, _ => (.none, none)

/-- The action of a CELL decision as the maps stand; under ADVISE and SUSPENDED it is NONE (R114, R116). -/
def cellChoice (auto : Bool) (x : DieRef) (s : State) : DefectAction × Option CellState :=
  if auto then
    cellAction (plannedCell s x.row x.lane) x.die ((cellEntry s x.row x.lane).health x.die.other).bad
  else (.none, none)

/-- The effects of a CELL decision that has its record and its room: health, record, die removal, entry (R116). -/
def cellEffects (x : DieRef) (k : FaultKind) (hotSeen : Bool) (choice : DefectAction × Option CellState) (s : State) :
    State :=
  let s1 := dieRemoval x
    (decisionRecord (.die x.row x.lane x.die) k.defect choice.1 none false hotSeen (setHealth x k.health s))
  match choice.2 with
  | some st => addChanges [.cell x.row x.lane st] s1
  | none => s1

/-- A CELL decision on die x (R116), with the tests of R115 for its record and its entry. -/
def decideCell (auto : Bool) (x : DieRef) (k : FaultKind) (hotSeen : Bool) (s : State) : State :=
  if !recordRoom s (.die x.row x.lane x.die) then leaveUnrecorded s
  else if (cellChoice auto x s).2.isSome && !changeRoom 1 s then wait (.cell x k hotSeen) s
  else cellEffects x k hotSeen (cellChoice auto x s) s

/-- A ROW decision on row r (R120). -/
def decideRow (auto : Bool) (r : Nat) (hotSeen : Bool) (s : State) : State :=
  if !recordRoom s (.row r) then leaveUnrecorded s
  else if auto then
    if changeRoom 1 s then
      addChanges [.row r .lost] (rowRemoval r (decisionRecord (.row r) .rowDead .rowConceal none false hotSeen s))
    else wait (.row r hotSeen) s
  else rowRemoval r (decisionRecord (.row r) .rowDead .none none false hotSeen s)

/-- The policy becomes SUSPENDED (R121). -/
def suspendPolicy (s : State) : State :=
  s.withUnit { s.unit with params := { s.unit.params with policy := .suspended } }

/-- A WIDE decision at the original die (R121). -/
def decideWide (x : DieRef) (hotSeen : Bool) (s : State) : State :=
  if !recordRoom s (.die x.row x.lane x.die) then leaveUnrecorded s
  else raise .wideFault (suspendPolicy (dieRemoval x
    (decisionRecord (.die x.row x.lane x.die) .wide .none none false hotSeen s)))

/-! ## LANE decisions (R117 to R119) -/

/-- A LANE decision under ADVISE or SUSPENDED: its record alone (R117). -/
def adviseLane (l : Nat) (hotSeen : Bool) (s : State) : State :=
  if recordRoom s (.lane l) then decisionRecord (.lane l) .laneDead .none none false hotSeen s else leaveUnrecorded s

/-- The slots a completion has tried (R118). -/
def LaneFinish.slots (f : LaneFinish) : List Nat :=
  match f with
  | .sparedBy _ tried => tried
  | .allFailed tried => tried
  | .noSlot => []

/-- The slots among `ks` that are RESERVED to lane L return to FREE (R118, R119). -/
def freeReserved (l : Nat) (ks : List Nat) (s : State) : State :=
  s.withRepair { s.repair with
    slots := s.repair.slots.mapIdx fun k x => if ks.contains k && x == .reserved l then .free else x }

/-- Slot k is one that a blame of the slots `ks` sets FAILED: it is FREE, as R118 leaves every slot tried and failed. One
that has since been reserved for a BIND is held for another use (R108) and stays. DEDUCED, log 19. -/
def blamed (ks : List Nat) (k : Nat) (x : SlotState) : Bool := ks.contains k && x == .free

/-- Blames slots: each becomes FAILED, and LANE_EVENT becomes pending when one is blamed (R113, R118). -/
def blame (ks : List Nat) (s : State) : State :=
  let s1 := s.withRepair { s.repair with
    slots := s.repair.slots.mapIdx fun k x => if blamed ks k x then .failed else x }
  if ks.any fun k => blamed ks k (slotNow s k) then raise .laneEvent s1 else s1

/-- The completion needs a Pending Change List entry (R119). -/
def finishEntry (l : Nat) (f : LaneFinish) (isolated : Bool) : Option Change :=
  match f with
  | .sparedBy k _ => some (.lane l (.spared k) .failed)
  | .allFailed _ => if isolated then none else some (.lane l .dark .failed)
  | .noSlot => some (.lane l .dark .failed)

/-- The record and slot effects of a completion (R119). -/
def finishRecord (l : Nat) (hotSeen : Bool) (f : LaneFinish) (s : State) : State :=
  match f with
  | .sparedBy k tried =>
    blame (tried.filter fun j => j != k)
      (decisionRecord (.lane l) .laneDead .spareBound (some k) (decide (1 < tried.length)) hotSeen s)
  | .allFailed tried =>
    freeReserved l tried (decisionRecord (.lane l) .laneDead .laneDark none true hotSeen s)
  | .noSlot => decisionRecord (.lane l) .laneDead .laneDark none false hotSeen s

/-- A lane decision completes (R119): a no-slot completion after an isolation changes nothing further; a full Defect List
without a record for L leaves it unrecorded with its slots FREE; a full Pending Change List makes it wait.
DEDUCED, log 19. -/
def finishLane (l : Nat) (hotSeen : Bool) (f : LaneFinish) (isolated : Bool) (s : State) : State :=
  if f = .noSlot ∧ isolated = true then s
  else if !recordRoom s (.lane l) then leaveUnrecorded (freeReserved l f.slots s)
  else
    match finishEntry l f isolated with
    | none => finishRecord l hotSeen f s
    | some c => if changeRoom 1 s then addChanges [c] (finishRecord l hotSeen f s) else wait (.lane l hotSeen f) s

/-- A check ends (R100, steps 1 to 3): its record is removed, the tried marks are cleared, its place is given up and
refilled. A held lane decision ends with it. -/
def endCheck (s : State) : State :=
  fillHeld (((s.withCorr { check := none }).withSense { s.sense with tried := .clear }).withRepair
    { s.repair with heldLane := none })

/-- The die a verify of the check drives: the original cell with the die its planned state selects (R98). Where the
planned state selects none, which die is a free value (log 7). -/
def verifyDie (x : DieRef) (s : State) : DieRef × State :=
  match (plannedCell s x.row x.lane).selected with
  | some d => ({ x with die := d }, s)
  | none => ({ x with die := if Config.freeBit s.freeUsed then .b else .a }, s.withFreeUsed (s.freeUsed + 1))

/-- The engine reserves slot k to the check's lane and the check enters, or stays in, VERIFYING with its verify pending
(R98, R99, R117). -/
def startVerify (c : Check) (x : DieRef) (k : Nat) (tried : List Nat) (isolated : Bool) (s : State) : State :=
  let s1 := setSlot k (.reserved c.die.lane) s
  (s1.withCorr { check := some { c with verify := some ⟨k, x, tried ++ [k], isolated⟩ } }).withSense
    { s1.sense with tried := { s1.sense.tried with verify := false } }

/-- The engine looks for a slot for the check's lane (R117): it reserves the one it finds, or completes the decision with
none and the check ends. -/
def searchSlot (c : Check) (isolated : Bool) (s : State) : State :=
  match freeSlotFor s c.die.lane [] with
  | some k =>
    let (x, s1) := verifyDie c.die s
    startVerify c x k [] isolated s1
  | none => endCheck (finishLane c.die.lane c.hotSeen .noSlot isolated s)

/-- Some slot is RESERVED (R117). -/
def anyReserved (s : State) : Bool := s.repair.slots.any SlotState.isReserved

/-- Lane L is SPARED in the current maps (R117). -/
def laneSpared (s : State) (l : Nat) : Bool := (laneNow s l).slot.isSome

/-- The isolation of a failed bound spare (R117): the record for L is replaced and the lane change to DARK is added. With no
room for the entry the whole isolation waits, as R115 gives: its record is made when it is taken. With no place for the
record it is left unrecorded and the check ends. DEDUCED, log 16. -/
def isolate (l : Nat) (hotSeen : Bool) (s : State) : State :=
  if !recordRoom s (.lane l) then endCheck (leaveUnrecorded s)
  else if changeRoom 1 s then
    let s1 := decisionRecord (.lane l) .laneDead .laneDark none false hotSeen s
    addChanges [.lane l .dark .failed] (s1.withRepair { s1.repair with heldLane := some ⟨true, false⟩ })
  else s.withRepair { s.repair with heldLane := some ⟨false, true⟩ }

/-- A LANE decision under AUTO (R117): held, with the isolation of a failed bound spare, or searched for at once. -/
def autoLane (c : Check) (s : State) : State :=
  if laneSpared s c.die.lane then isolate c.die.lane c.hotSeen s
  else if anyReserved s then s.withRepair { s.repair with heldLane := some ⟨false, false⟩ }
  else searchSlot c false s

/-- The end of the hold (R117): when no slot is RESERVED, the lane is no longer SPARED and no isolation waits, the engine
searches for a slot. A lane that becomes SPARED while its decision is held for another reason is not isolated: the check
stays held while the lane stays SPARED. DESIGN CHOICE, log 34. -/
def releaseHold (s : State) : State :=
  match s.corr.check, s.repair.heldLane with
  | some c, some h =>
    if h.isolationWaits || anyReserved s || laneSpared s c.die.lane then s
    else searchSlot c h.isolated (s.withRepair { s.repair with heldLane := none })
  | _, _ => s

/-! ## The outcome of a check (R96 to R98) -/

/-- The result of probe i. -/
def probeResult (c : Check) (i : Nat) : ProbeResult :=
  match c.probes[i]? with
  | some p => p.result
  | none => .pass

/-- Every probe has its result. -/
def allProbed (c : Check) : Bool := c.probes.all fun p => !(p.result == .pending)

/-- Both lane probes failed. -/
def laneFails (c : Check) : Bool := probeResult c 0 == .fail && probeResult c 1 == .fail

/-- Both row probes failed. -/
def rowFails (c : Check) : Bool := probeResult c 2 == .fail && probeResult c 3 == .fail

/-- The outcome is decided and handed on (R96, R97, R98). -/
def handOutcome (c : Check) (s : State) : State :=
  match laneFails c, rowFails c with
  | true, true => endCheck (decideWide c.die c.hotSeen s)
  | false, true => endCheck (decideRow (policyNow s == .auto) c.die.row c.hotSeen s)
  | false, false => endCheck (decideCell (policyNow s == .auto) c.die .openDie c.hotSeen s)
  | true, false =>
    let s1 := laneRemoval c.die.lane s
    if policyNow s1 = .auto then autoLane c s1 else endCheck (adviseLane c.die.lane c.hotSeen s1)

/-! ## Choosing probes (R93, R94) and taking descriptors (R89 to R92) -/

/-- The die with which cell (r, L) qualifies as a probe in the planned state, if it does (R93, R94). -/
def probeAt (s : State) (r l : Nat) : Option DieRef :=
  if plannedRow s r = .lost ∨ plannedLane s l = .dark then none
  else
    match (plannedCell s r l).selected with
    | none => none
    | some d => if ((cellEntry s r l).health d).bad then none else some ⟨r, l, d⟩

/-- The candidates of the lane probes, in order (R93). -/
def laneCandidates (s : State) (x : DieRef) : List (Nat × Nat) :=
  (List.range (depth s - 1)).map fun i => ((x.row + 1 + i) % depth s, x.lane)

/-- The candidates of the row probes, in order (R94). -/
def rowCandidates (x : DieRef) : List (Nat × Nat) :=
  (List.range 5).map fun i => (x.row, (x.lane + Config.groupLanes * (i + 1)) % Config.lanes)

/-- A probe as the check starts: PENDING, or PASS at once when no cell is eligible (R92). -/
def startProbe (x : Option DieRef) : Probe := ⟨x, if x.isSome then .pending else .pass⟩

/-- The first two qualifying candidates as two probes. -/
def twoProbes (s : State) (cands : List (Nat × Nat)) : List Probe :=
  let found := cands.filterMap fun p => probeAt s p.1 p.2
  [startProbe found[0]?, startProbe found[1]?]

/-- The check that an OPEN descriptor starts (R92). -/
def newCheck (d : Descriptor) (s : State) : Check where
  die := d.die
  hits := d.hits
  flips := d.flips
  frame := d.frame
  hotSeen := false
  probes := twoProbes s (laneCandidates s d.die) ++ twoProbes s (rowCandidates d.die)
  verify := none

/-- An OPEN descriptor starts a Correlation Check; with no eligible cell at all its outcome is decided at once (R92). -/
def startCheck (d : Descriptor) (s : State) : State :=
  let c := newCheck d s
  let s1 := (s.withCorr { check := some c }).withSense { s.sense with tried := .clear }
  if allProbed c then handOutcome c s1 else s1

/-- The Correlator may take the head descriptor (R89). -/
def canTake (s : State) : Bool :=
  s.corr.check.isNone && !(s.ctl.mode == .standby) && s.repair.waiting.isNone && !s.track.queue.isEmpty

/-- One take (R90 to R92): a descriptor explained by the planned state is discarded; SHORT and INTERMITTENT are decided
CELL; OPEN starts a check. -/
def takeOne (s : State) : State :=
  match s.track.queue with
  | [] => s
  | d :: rest =>
    let s1 := s.withTrack { s.track with queue := rest }
    if plannedLane s d.die.lane = .dark ∨ plannedRow s d.die.row = .lost then fillHeld s1
    else
      match d.kind with
      | .openDie => startCheck d s1
      | .shortDie => fillHeld (decideCell (policyNow s1 == .auto) d.die .shortDie false s1)
      | .intermittent => fillHeld (decideCell (policyNow s1 == .auto) d.die .intermittent false s1)

/-- Takes follow one another while the conditions of R89 hold; `n` bounds their number. -/
def takeLoop : Nat → State → State
  | 0, s => s
  | n + 1, s => if canTake s then takeLoop n (takeOne s) else s

/-- Every take that R89 allows now. Each takes one of the descriptors waiting or of the records that may still join
them, so their number bounds the takes. -/
def takeAll (s : State) : State := takeLoop (s.track.queue.length + s.track.suspects.length) s

/-- What follows at once from a change in the fault path: the end of a hold (R117) and the takes (R89).
DEDUCED, log 6. -/
def settle (s : State) : State := takeAll (releaseHold s)

/-! ## Results of probes and verifies (R95, R99, R118) -/

/-- A probe's result recorded (R95). -/
def recordProbe (n : Nat) (r : TestResult) (c : Check) : Check :=
  match r with
  | .good => { c with probes := c.probes.mapIdx fun i p => if i = n then { p with result := .pass } else p }
  | .openDie => { c with probes := c.probes.mapIdx fun i p => if i = n then { p with result := .fail } else p }
  | .shortDie => { c with probes := c.probes.mapIdx fun i p => if i = n then { p with result := .fail } else p }
  | .inconclusive => { c with hotSeen := true }

/-- The result of a probe reaches the Correlator; the last one decides the outcome (R95, R96). -/
def probeDone (n : Nat) (r : TestResult) (s : State) : State :=
  match s.corr.check with
  | none => s
  | some c =>
    let c1 := recordProbe n r c
    let s1 := s.withCorr { check := some c1 }
    if r ≠ .inconclusive ∧ allProbed c1 = true then handOutcome c1 s1 else s1

/-- The result of a check's verify (R118). -/
def verifyDone (c : Check) (v : Verify) (r : TestResult) (s : State) : State :=
  let failedSlot (s : State) : State :=
    let s1 := setSlot v.slot .free s
    match freeSlotFor s1 c.die.lane v.tried with
    | some k => startVerify c v.die k v.tried v.isolated s1
    | none => endCheck (finishLane c.die.lane c.hotSeen (.allFailed v.tried) v.isolated s)
  match r with
  | .inconclusive => s
  | .good => endCheck (finishLane c.die.lane c.hotSeen (.sparedBy v.slot v.tried) v.isolated s)
  | .openDie => failedSlot s
  | .shortDie => failedSlot s

/-! ## The manual bind (R126, R127) -/

/-- A reply of the tile: the request's tag and its kind with the reply marker, one status byte and the content (R165). -/
def replyTo (kind : Byte) (src tag : Byte) (status : ReplyStatus) (content : List Byte) : Reply where
  dst := src
  kind := withReplyMarker kind
  tag := tag
  payload := statusByte status :: content
  isReset := false

/-- The BIND reply with a result (11.2): result, t, bound. -/
def bindReply (b : Bind) (r : TestResult) (t : Nat) (bound : Bool) : Reply :=
  replyTo kRepair b.src b.tag .ok [resultByte r, byteOf t, flagByte bound]

/-- The bind ends and its record keeps only its reply (R127). -/
def endBind (b : Bind) (r : Reply) (s : State) : State :=
  s.withRepair { s.repair with bind := some { b with stage := .ended r } }

/-- A bind whose verify passed completes: the MANUAL record and the lane change, or FULL with its slot FREE where the
Defect List has no place for the record (R127, R135). That a bind which has waited for room is judged again, and ends with
FULL where the list has filled since its GOOD, is a DESIGN CHOICE, log 33. -/
def completeBind (b : Bind) (t frame : Nat) (temp : Int) (s : State) : State :=
  if recordRoom s (.lane b.lane) then
    let x : Defect := { seq := 0, target := .lane b.lane, kind := .manual, action := .spareBound, slot := some b.slot,
                        verifyFailed := false, hotSeen := false, origin := .manual, frame := frame, temp := temp }
    endBind b (bindReply b .good t true)
      (addChanges [.lane b.lane (.spared b.slot) .free] (countDefect (addRecord x s)))
  else
    endBind b (replyTo kRepair b.src b.tag .full []) (setSlot b.slot .free s)

/-- The result of a BIND verify (R127). At GOOD the bind waits only where its record has a place and the Pending Change
List has no room; with no place for the record it ends at once with FULL, whatever that room is (R135). -/
def bindDone (b : Bind) (r : TestResult) (t : Nat) (s : State) : State :=
  match r with
  | .inconclusive => s
  | .openDie => endBind b (bindReply b r t false) (setSlot b.slot .free s)
  | .shortDie => endBind b (bindReply b r t false) (setSlot b.slot .free s)
  | .good =>
    if recordRoom s (.lane b.lane) && !changeRoom 1 s then
      s.withRepair { s.repair with
        bind := some { b with stage := .waitsForRoom t (s.store.frameCount % 65536) s.sense.sample } }
    else completeBind b t (s.store.frameCount % 65536) s.sense.sample s

/-- A bind that waits for room completes when there is room (R127). -/
def bindRoom (s : State) : State :=
  match s.repair.bind with
  | some b =>
    match b.stage with
    | .waitsForRoom t frame temp => if changeRoom 1 s then completeBind b t frame temp s else s
    | .verifying => s
    | .ended _ => s
  | none => s

/-! ## What an application makes room for -/

/-- The waiting decision is taken, under the policy it was handed with, AUTO (R114, R115). DEDUCED, log 21. -/
def takeWaiting (s : State) : State :=
  match s.repair.waiting with
  | none => s
  | some w =>
    let s1 := s.withRepair { s.repair with waiting := none }
    match w with
    | .cell x k hot => decideCell true x k hot s1
    | .row r hot => decideRow true r hot s1
    | .lane l hot f => finishLane l hot f false s1

/-- An isolation that waited for room is taken as soon as there is room (R115, R117). -/
def addIsolation (s : State) : State :=
  match s.corr.check, s.repair.heldLane with
  | some c, some h =>
    if h.isolationWaits && changeRoom 1 s then isolate c.die.lane c.hotSeen s else s
  | _, _ => s

/-- A bind waits for room. -/
def bindWaits (s : State) : Bool :=
  match s.repair.bind with
  | some b =>
    match b.stage with
    | .waitsForRoom _ _ _ => true
    | .verifying => false
    | .ended _ => false
  | none => false

/-- An isolation waits for room. -/
def isolationWaits (s : State) : Bool :=
  match s.repair.heldLane with
  | some h => h.isolationWaits
  | none => false

/-- Everything that waited for room in the Pending Change List, after an application has made it (R115, R117, R127). A
bind and one of the others may enter in either order (R127): which is a free value (log 7). DEDUCED, log 6. -/
def useRoom (s : State) : State :=
  if bindWaits s && (s.repair.waiting.isSome || isolationWaits s) then
    let s1 := s.withFreeUsed (s.freeUsed + 1)
    if Config.freeBit s.freeUsed then addIsolation (takeWaiting (bindRoom s1))
    else bindRoom (addIsolation (takeWaiting s1))
  else bindRoom (addIsolation (takeWaiting s))

/-- After an application: what waited for room, then the end of a hold and the takes it allows (R89, R115, R117). -/
def afterApplication (s : State) : State := settle (useRoom s)

end Sys2Proof.Machine
end

