-- ==== Sys2Proof/Machine/Composer.lean ====
section
/-! DEFINITION. Machine/Composer.lean: the stages of a composition (R39 to R46). -/

namespace Sys2Proof.Machine

/-- The code of cell (r, L) in the display buffer (R34). -/
def videoCode (s : State) (r l : Nat) : Nat := cellAt s.store.display r l 0

/-- The number of live neighbours of a cell (R41). -/
def liveNeighbours (s : State) (r l : Nat) : Nat :=
  (neighbours (depth s) r l).countP fun p => isLive s p.1 p.2

/-- Stage 1: the share that victim (r, L) lends to each live neighbour (R41). -/
def shareOf (s : State) (r l : Nat) : Nat :=
  let n := liveNeighbours s r l
  if n = 0 then 0 else videoCode s r l * s.unit.params.concealShare / (256 * n)

/-- Stage 1: the effective code of a live cell, its own code and the shares of its victim neighbours (R41). -/
def effectiveCode (s : State) (r l : Nat) : Nat :=
  videoCode s r l
    + (((neighbours (depth s) r l).filter fun p => isVictim s p.1 p.2).map fun p => shareOf s p.1 p.2).sum

/-- The gain of the die that cell (r, L) selects (R43). -/
def gainInUse (s : State) (r l : Nat) : Nat :=
  match (cellEntry s r l).state with
  | .bActive => s.comp.gains.getD (coeffIndex r l .b) 1024
  | .aActive => s.comp.gains.getD (coeffIndex r l .a) 1024
  | .concealed => 1024
  | .forcedOff => 1024

/-- Stage 2: gain, rounding half up (R43). -/
def gainedCode (e g : Nat) : Nat := (e * g + 512) / 1024

/-- Stage 3: brightness, rounding toward zero (R44). -/
def scaledCode (x b : Nat) : Nat := x * (b + 1) / 256

/-- Stages 1 to 3 for cell (r, L): its scaled code y, 0 for a cell that is not live (R40 to R44). -/
def composedCode (s : State) (r l : Nat) : Nat :=
  if isLive s r l then
    scaledCode (gainedCode (effectiveCode s r l) (gainInUse s r l)) s.unit.params.brightness
  else 0

/-- Stage 4: the limit at 4095 (R45). -/
def limitedCode (y : Nat) : Nat := min y Config.maxCode

/-- A composition, taken whole: a new Output Table and a new clip count (R39, R45). -/
def compose (s : State) : State :=
  let ys := cellBuild (depth s) fun r l => composedCode s r l
  s.withComp { s.comp with
    pulses := ys.map fun row => row.map limitedCode
    clipCount := (ys.map fun row => row.countP fun y => decide (Config.maxCode < y)).sum }

end Sys2Proof.Machine
end

