-- ==== Sys2Proof/Machine/Scan.lean ====
section
/-! DEFINITION. Machine/Scan.lean: the Scan Driver's row phases (R11 to R14) and its answer to the events of R10 that do
not concern a test's claim. -/

namespace Sys2Proof.Machine

/-- What is latched at the boundary before row r (R12). -/
def latchRow (s : State) (r : Nat) : RowPhase where
  row := r
  entry := rowNow s r
  lanes := (List.range Config.lanes).map fun l => ⟨laneNow s l, (cellEntry s r l).state, cellAt s.comp.pulses r l 0⟩

/-- The trace that a cell state takes in a row phase; a cell that selects no die leaves it at rest, the A trace (R6). -/
def CellState.trace (c : CellState) : Die := c.selected.getD .a

/-- A new phase starts at the next row (R10, R11, R12); a phase of row 0 starts a scan cycle, which latches `repeat`. -/
def startPhase (s : State) : State :=
  let latched := latchRow s s.scan.nextRow
  s.withScan
    { state := .scanning
      nextRow := (s.scan.nextRow + 1) % depth s
      segments := if s.scan.nextRow = 0 then s.unit.params.repeats else s.scan.segments
      phase := some latched
      traces := latched.lanes.map fun x => x.cell.trace }

/-- The drive lines return to the Scan Driver at the end of a test (R10). -/
def releaseLines (s : State) : State :=
  match s.scan.state with
  | .yielded => startPhase s
  | .lent => s.withScan { s.scan with state := .stopped, phase := none }
  | .stopped => s
  | .scanning => s

/-- Drive enable rises (R10). -/
def driveRises (s : State) : State :=
  match s.scan.state with
  | .stopped => startPhase (s.withScan { s.scan with nextRow := 0 })
  | .lent => s.withScan { s.scan with nextRow := 0, state := .yielded }
  | .scanning => s
  | .yielded => s

/-- The pulse of segment i of a lane with pulse length P, in R segments (R14). -/
def segmentPulse (p segs i : Nat) : Nat := p / segs + (if i < p % segs then 1 else 0)

/-- The grey slots of a row phase (R11). -/
abbrev greySlots : Nat := 4096

end Sys2Proof.Machine
end

