-- ==== Sys2Proof/Machine/Sense.lean ====
section
/-! DEFINITION. Machine/Sense.lean: the Sense Unit: temperature and windows (R49 to R51), the arbiter and its five sources
(R52, R59 to R64), the claim of the drive lines (R15, R16, R53), classification (R55), the Spot Test Queue's replies (R66),
and abandoning a test (R58). -/

namespace Sys2Proof.Machine

/-! ## Temperature (R50) -/

/-- The sample that a converter reading gives (R50). -/
def sampleOf (reading : Int) : Int := clampInt (-40) 125 reading

/-- The sensor fault flag that a converter reading gives (R50). -/
def faultOf (reading : Int) : Bool := decide (reading < -40) || decide (125 < reading)

/-! ## The walk (R62, R63) -/

/-- The position after `p` in the walk order, and whether it passes an end of lap (R62). -/
def walkNext (both : Bool) (d : Nat) (p : WalkPos) : WalkPos × Bool :=
  if p.lane + 1 < Config.lanes then ({ p with lane := p.lane + 1 }, false)
  else if p.row + 1 < d then ({ p with row := p.row + 1, lane := 0 }, false)
  else
    match p.pass with
    | .a => if both then (⟨.b, 0, 0⟩, false) else (⟨.a, 0, 0⟩, true)
    | .b => (⟨.a, 0, 0⟩, true)

/-- The die at a walk position. -/
def WalkPos.target (p : WalkPos) : DieRef := ⟨p.row, p.lane, p.pass⟩

/-- The walk skips the die (R63), in the current maps. -/
def walkSkips (s : State) (x : DieRef) : Bool :=
  rowNow s x.row == .lost
    || laneNow s x.lane == .dark
    || (cellEntry s x.row x.lane).state == .concealed
    || (cellEntry s x.row x.lane).state == .forcedOff
    || (healthOf s x).bad
    || (s.track.suspects.any fun y => y.die == x)
    || laneReserved s x.lane
    || laneUndecided s x.lane

/-- What a walk search finds: the position whose die is tested, the cursor after it, and the ends of lap passed. -/
structure WalkFound where
  at_    : WalkPos
  cursor : WalkPos
  laps   : Nat
  deriving DecidableEq, Repr

/-- Searches `n` positions of the walk order from `p` (R62). -/
def walkSearch (s : State) : Nat → WalkPos → Nat → Option WalkFound
  | 0, _, _ => none
  | n + 1, p, laps =>
    let nxt := walkNext s.unit.params.walkBoth (depth s) p
    let laps1 := if nxt.2 then laps + 1 else laps
    if walkSkips s p.target then walkSearch s n nxt.1 laps1 else some ⟨p, nxt.1, laps1⟩

/-- The walk search from the cursor; in pass B under A_ONLY the rest of pass B is passed first (R62). DEDUCED, log 22. -/
def walkFind (s : State) : Option WalkFound :=
  if s.unit.params.walkBoth then walkSearch s (288 * depth s) s.sense.cursor 0
  else
    match s.sense.cursor.pass with
    | .a => walkSearch s (144 * depth s) s.sense.cursor 0
    | .b => walkSearch s (144 * depth s) ⟨.a, 0, 0⟩ 1

/-! ## The arbiter (R59 to R61) -/

/-- The tried mark of a probe (R60). -/
def Tried.probe (t : Tried) (n : Nat) : Bool :=
  match n with
  | 0 => t.probe0
  | 1 => t.probe1
  | 2 => t.probe2
  | 3 => t.probe3
  | _ => true

/-- Sets the tried mark of a probe (R60). -/
def Tried.setProbe (t : Tried) (n : Nat) : Tried :=
  match n with
  | 0 => { t with probe0 := true }
  | 1 => { t with probe1 := true }
  | 2 => { t with probe2 := true }
  | 3 => { t with probe3 := true }
  | _ => t

/-- What the arbiter grants: the source, the die, and for the walk what its search found. -/
structure Grant where
  source : TestSource
  die    : DieRef
  walk   : Option WalkFound
  deriving DecidableEq, Repr

/-- First level: the pending bind verify, of the check in VERIFYING or of a manual BIND (R59). -/
def grantVerify (s : State) : Option Grant :=
  if s.sense.tried.verify then none
  else
    match s.corr.check.bind Check.verify with
    | some v => some ⟨.verify v.slot, v.die, none⟩
    | none =>
      match s.repair.bind with
      | some b => if b.stage = .verifying then some ⟨.verify b.slot, b.die, none⟩ else none
      | none => none

/-- Second level: the lowest-numbered PENDING probe whose tried mark is clear (R59). -/
def grantProbe (s : State) : Option Grant :=
  match s.corr.check with
  | none => none
  | some c =>
    if c.verify.isSome then none
    else
      (List.range 4).findSome? fun n =>
        match c.probes[n]? with
        | some p =>
          if p.result = .pending ∧ s.sense.tried.probe n = false then p.target.map fun x => ⟨.probe n, x, none⟩ else none
        | none => none

/-- Third level: the oldest WAITING entry of the Spot Test Queue (R59). -/
def grantSpot (s : State) : Option Grant :=
  (s.sense.spots.find? fun e => e.status == .waiting).map fun e => ⟨.spot, e.die, none⟩

/-- The record may be retested in the current window (R61). -/
def retestable (s : State) (x : Suspect) : Bool :=
  x.held.isNone && !(x.lastWindow == some s.sense.windowNumber)
    && !(rowNow s x.die.row == .lost) && !(laneNow s x.die.lane == .dark)

/-- Fourth level: the oldest-created record that may be retested (R59, R61). -/
def grantRetest (s : State) : Option Grant :=
  (s.track.suspects.find? fun x => retestable s x).map fun x => ⟨.retest, x.die, none⟩

/-- Fifth level: the background walk (R59). -/
def grantWalk (s : State) : Option Grant :=
  if s.unit.params.walkEnable && !s.sense.hot && decide (s.track.suspects.length < Config.suspectPlaces) then
    (walkFind s).map fun w => ⟨.walk, w.at_.target, some w⟩
  else none

/-- The first eligible source (R59). -/
def pickGrant (s : State) : Option Grant :=
  (grantVerify s).or ((grantProbe s).or ((grantSpot s).or ((grantRetest s).or (grantWalk s))))

/-- The tried marks after a grant (R60). -/
def markTried (t : Tried) (x : TestSource) : Tried :=
  match x with
  | .probe n => t.setProbe n
  | .verify _ => { t with verify := true }
  | .walk => t
  | .retest => t
  | .spot => t

/-- The test record formed at a grant, its claim waiting (R53). -/
def formTest (s : State) (g : Grant) : TestRecord where
  source := g.source
  die := g.die
  shortLimit := colourOf s.unit.params.shortLimit g.die.lane
  openLimit := colourOf s.unit.params.openLimit g.die.lane
  hot := s.sense.hot
  grantWindow := s.sense.windowNumber
  driver := none

/-- A grant: used rises by one, the test is in flight, its mark is set, and the walk's cursor and sweep count advance;
the grant that spends the budget closes the window (R51, R52, R60, R62). -/
def takeGrant (g : Grant) (s : State) : State :=
  let spent := decide (s.sense.budget ≤ s.sense.used + 1)
  s.withSense { s.sense with
    used := s.sense.used + 1
    windowOpen := !spent
    hot := if spent then false else s.sense.hot
    test := some (formTest s g)
    tried := markTried s.sense.tried g.source
    cursor := match g.walk with
      | some w => w.cursor
      | none => s.sense.cursor
    sweeps := match g.walk with
      | some w => satAdd s.sense.sweeps w.laps
      | none => s.sense.sweeps }

/-- The window closes; while none is open hot is false (R50, R51). -/
def closeWindow (s : State) : State := s.withSense { s.sense with windowOpen := false, hot := false }

/-! ## The claim of the drive lines (R15, R16, R53) -/

/-- The driver a test connects, by its kind and the Lane State of its lane; none when the test is withdrawn (R16, R53). -/
def driverFor (x : TestSource) (l : LaneState) : Option TestDriver :=
  match x, l with
  | .verify k, _ => some (.slot k)
  | _, .normal => some .own
  | _, .spared k => some (.slot k)
  | .spot, .dark => some .own
  | .walk, .dark => none
  | .retest, .dark => none
  | .probe _, .dark => none

/-- The test in flight drives through the driver given, with its lane's trace switch set to its die (R15). -/
def connect (t : TestRecord) (d : TestDriver) (s : State) : State :=
  (s.withSense { s.sense with test := some { t with driver := some d } }).withScan
    { s.scan with traces := s.scan.traces.set t.die.lane t.die.die }

/-- The claim of test t is taken and the scan state becomes `st` (YIELDED or LENT): the test drives, or, on a DARK lane,
is withdrawn with no result and the lines return at once (R10, R53). The flag says that it was withdrawn. -/
def takeClaim (t : TestRecord) (st : ScanState) (s : State) : State × Bool :=
  let s1 := s.withScan { s.scan with state := st, phase := none }
  match driverFor t.source (laneNow s1 t.die.lane) with
  | some d => (connect t d s1, false)
  | none => (releaseLines (s1.withSense { s1.sense with test := none }), true)

/-- A grant decision (R52), when a window is open with slots left and no test is in flight: a grant, or the window closes.
Where the Scan Driver is STOPPED the claim is taken at once; a test withdrawn there completes, and the next decision
follows. `n` bounds the decisions: only a probe can be withdrawn so, and each has its tried mark set. -/
def grantDecision : Nat → State → State
  | 0, s => s
  | n + 1, s =>
    if s.sense.windowOpen && decide (s.sense.used < s.sense.budget) && s.sense.test.isNone then
      match pickGrant s with
      | none => closeWindow s
      | some g =>
        let s1 := takeGrant g s
        if s1.scan.state = .stopped then
          match takeClaim (formTest s g) .lent s1 with
          | (s2, true) => grantDecision n s2
          | (s2, false) => s2
        else s1
    else s

/-- The number of grant decisions that can follow one another in one event: one for each probe withdrawn and one more. -/
abbrev maxGrants : Nat := 5

/-- A grant decision and what follows from it. -/
def decideGrant (s : State) : State := grantDecision maxGrants s

/-- A waiting claim is taken as a phase ends, and the scan state becomes `st`; a test withdrawn there completes, and a
grant decision follows (R10, R52, R53). -/
def claimAtPhaseEnd (st : ScanState) (s : State) : State :=
  match s.sense.test with
  | none => s
  | some t =>
    match takeClaim t st s with
    | (s1, true) => decideGrant s1
    | (s1, false) => s1

/-- Drive enable falls (R10). -/
def driveFalls (s : State) : State :=
  match s.scan.state with
  | .scanning =>
    if claimWaiting s then claimAtPhaseEnd .lent s
    else s.withScan { s.scan with state := .stopped, phase := none }
  | .yielded => s.withScan { s.scan with state := .lent }
  | .stopped => s
  | .lent => s

/-- A composition reaches the Scan Driver (R10, R11). -/
def scanComposed (s : State) : State :=
  let s1 := s.withScan { s.scan with nextRow := 0 }
  match s.scan.state with
  | .scanning => if claimWaiting s then claimAtPhaseEnd .yielded s1 else startPhase s1
  | .stopped => s1
  | .yielded => s1
  | .lent => s1

/-! ## Sense windows (R49) -/

/-- A sense window opens with the budget given (R49, R50). -/
def openWindow (budget : Nat) (reading : Int) (s : State) : State :=
  let n := (s.sense.windowNumber + 1) % 65536
  let s1 := forgetWindow n s
  decideGrant (s1.withSense { s1.sense with
    windowOpen := true
    windowNumber := n
    budget := budget
    used := 0
    tried := .clear
    sample := sampleOf reading
    sensorFault := faultOf reading
    hot := decide (s1.unit.params.senseTempMax < sampleOf reading) || faultOf reading })

/-! ## Classification and replies (R55, R66) -/

/-- The t a test reports: the knee tick, or the open limit when no knee is seen by then (R54). -/
def reportedT (t : TestRecord) (knee : Option (Fin 255)) : Nat :=
  match knee with
  | some k => min (k.val + 1) t.openLimit
  | none => t.openLimit

/-- The knee is seen by the open limit (R54). Tick numbers count from 1. -/
def kneeSeen (t : TestRecord) (knee : Option (Fin 255)) : Bool :=
  match knee with
  | some k => decide (k.val + 1 ≤ t.openLimit)
  | none => false

/-- The result of a test (R55). DEDUCED, log 26. -/
def classify (t : TestRecord) (knee : Option (Fin 255)) : TestResult :=
  if kneeSeen t knee then
    if reportedT t knee ≤ t.shortLimit then (if t.hot then .inconclusive else .shortDie) else .good
  else if t.hot then .inconclusive else .openDie

/-- The oldest WAITING entry of the Spot Test Queue becomes DONE (R66). -/
def spotDone (r : TestResult) (t : Nat) (hot : Bool) (e : SuspectEffect) : List SpotEntry → List SpotEntry
  | [] => []
  | x :: xs =>
    if x.status = .waiting then { x with status := .done r t hot e } :: xs else x :: spotDone r t hot e xs

/-- The reply of a DONE or ABORTED entry (R66). -/
def spotReply (e : SpotEntry) : Option Reply :=
  match e.status with
  | .waiting => none
  | .done r t hot x =>
    some (replyTo kTest e.src e.tag .ok (dieBytes e.die ++ [resultByte r, byteOf t, flagByte hot, effectByte x]))
  | .aborted => some (replyTo kTest e.src e.tag .aborted (dieBytes e.die ++ [0, 0, 0, 0]))

/-- The head entry of the Spot Test Queue leaves when its reply is due and the Local Reply Queue has a free place (R66). -/
def enterSpot (s : State) : State :=
  match s.sense.spots with
  | [] => s
  | e :: rest =>
    match spotReply e with
    | some r => if replyRoom s then pushReply r (s.withSense { s.sense with spots := rest }) else s
    | none => s

/-- Each entry that comes to the head with its reply due is offered at once (R66): at most one for each place. -/
def enterSpots (s : State) : State := (List.range Config.spotPlaces).foldl (fun t _ => enterSpot t) s

/-- The reply of an ended bind enters when the Local Reply Queue has a free place, and its record is gone (R127, R166). -/
def enterBind (s : State) : State :=
  match s.repair.bind with
  | some b =>
    match b.stage with
    | .ended r => if replyRoom s then pushReply r (s.withRepair { s.repair with bind := none }) else s
    | .verifying => s
    | .waitsForRoom _ _ _ => s
  | none => s

/-- The deferred replies of the Spot Test Queue and the manual bind are offered as they become due (R166).
DEDUCED, log 8. -/
def offerReplies (s : State) : State := enterBind (enterSpots s)

/-! ## Abandoning a test (R58, R20) -/

/-- The test in flight is abandoned and the window closes (R51, R58). -/
def abandonTest (s : State) : State :=
  s.withSense { s.sense with test := none, windowOpen := false, hot := false }

/-- The Scan Driver stops with all outputs off and no phase starts (R10). -/
def stopScan (s : State) : State := s.withScan { s.scan with state := .stopped, phase := none }

end Sys2Proof.Machine
end

