-- ==== Sys2Proof/Machine/Requests.lean ====
section
/-! DEFINITION. Machine/Requests.lean: how the Message Unit takes a local message and answers it (R153, R163 to R165), and
how a request that a command presents reaches the UP receive buffer (log 4). -/

namespace Sys2Proof.Machine

/-- The three outcomes of a command in this model. -/
abbrev Result := Host.Outcome State Fault Refusal

/-! ## The message a request row names -/

/-- The message that request q of a kind is, when it is presented without the link (log 4): a broadcast has destination
255, any other the tile address. -/
def requestMessage (kind : Byte) (q : Request) (s : State) : Message :=
  ⟨if q.broadcast then 255 else byteOf s.link.address, q.src, kind, q.tag, q.payload⟩

/-- A message of the UP receive buffer is request q of that kind. The tile address may have changed since the message was
routed, so an addressed message need not carry the present one. -/
def isRequest (kind : Byte) (q : Request) (m : Message) : Bool :=
  (m.dst == 255) == q.broadcast && m.src == q.src && m.kind == kind && m.tag == q.tag && m.payload == q.payload

/-- The message at the head of the UP receive buffer is request q of that kind. -/
def headIs (kind : Byte) (q : Request) (s : State) : Bool :=
  match s.link.upBuf with
  | .ready m _ :: _ => isRequest kind q m
  | .receiving :: _ => false
  | [] => false

/-- A request presented by a command that is not the message at the head of the UP receive buffer arrives now (log 4): the
UP receiver is in HUNT with go asserted. -/
def arrivesNow (kind : Byte) (q : Request) (s : State) : Bool :=
  !headIs kind q s && upGoOut s && s.link.upRx == .hunt

/-- An unassigned tile has no route for an addressed request: it goes to discard (R152). -/
def routesNowhere (q : Request) (s : State) : Bool := !q.broadcast && s.link.address == 0

/-- The state with a request that arrives now in the UP receive buffer, as R152 routes it: an addressed one is local where
the tile has an address, and a broadcast is local for the kinds accepted locally, its forward copy stored. -/
def present (kind : Byte) (q : Request) (s : State) : State :=
  if !arrivesNow kind q s || routesNowhere q s then s
  else
    let m := requestMessage kind q s
    let goesDown := q.broadcast && s.link.partner
    s.withLink { s.link with
      upBuf := if !q.broadcast || acceptsBroadcast kind then s.link.upBuf ++ [.ready m goesDown] else s.link.upBuf
      downBuf := if goesDown then s.link.downBuf ++ [if kind = kEnum then .enumSlot else .ready (formed m)]
        else s.link.downBuf }

/-- The state a request leaves when it is not taken: it stands in its buffer, or, where it is routed to discard, it is
charged to misroute (R147, R152). -/
def untaken (kind : Byte) (q : Request) (s : State) : State :=
  if arrivesNow kind q s && routesNowhere q s then charge .up .misroute s else present kind q s

/-! ## The take (R153, R163) -/

/-- An ENUM with this payload and this place will reply (R158, R163). -/
def enumReplies (payload : List Byte) (down : Bool) : Bool :=
  byteAt payload 0 == 0 || byteAt payload 0 == 255 || !down

/-- The message may be answered, so that it needs a free place of the Local Reply Queue (R163). -/
def mayBeAnswered (kind : Byte) (q : Request) (down : Bool) : Bool :=
  if q.broadcast then kind == kEnum && lengthFits kind q.payload.length && enumReplies q.payload down
  else if hasReplyMarker kind then false
  else if kind = kRow ∨ kind = kFrame then !lengthFits kind q.payload.length
  else true

/-- The Message Unit may take the message now (R153, R163). -/
def takeable (kind : Byte) (q : Request) (down : Bool) (s : State) : Bool :=
  !s.unit.resetWaiting && !s.link.inLinkReset
    && (!mayBeAnswered kind q down || replyRoom s)
    && !(kind == kReset && q.broadcast && down)

/-- The state once the head message has given up its receive place (R153). -/
def takeHead (s : State) : State := s.withLink { s.link with upBuf := s.link.upBuf.tail }

/-- The head message still has a place in the down-forward buffer. -/
def headDown (s : State) : Bool :=
  match s.link.upBuf with
  | .ready _ down :: _ => down
  | .receiving :: _ => false
  | [] => false

/-- The request is at the head of the UP receive buffer, once presented, and may be taken. -/
def taken (kind : Byte) (q : Request) (s : State) : Bool :=
  headIs kind q (present kind q s) && takeable kind q (headDown (present kind q s)) (present kind q s)

/-- The state in which the owner finds the part at the take: the request presented and its receive place given up. -/
def atTake (kind : Byte) (q : Request) (s : State) : State := takeHead (present kind q s)

/-! ## Answers (R164, R165, R179) -/

/-- The reply of a request enters the Local Reply Queue; a broadcast has none. -/
def answer (kind : Byte) (q : Request) (x : ReplyStatus) (content : List Byte) (s : State) : State :=
  if q.broadcast then s else pushReply (replyTo kind q.src q.tag x content) s

/-- A refusal, with the status alone (R179). -/
def refuse (kind : Byte) (q : Request) (x : ReplyStatus) (s : State) : State := answer kind q x [] s

/-- A payload length that does not fit: LENGTH, addressed only; a dropped ENUM gives up its place (R158, R164). -/
def refuseLength (kind : Byte) (q : Request) (down : Bool) (s : State) : State :=
  refuse kind q .length
    (if kind = kEnum ∧ down = true then s.withLink { s.link with downBuf := dropFirstEnumSlot s.link.downBuf } else s)

/-- The judgement of R164 on a taken request of a request kind: a broadcast not accepted locally is dropped, a length that
does not fit is answered LENGTH, and any other is dispatched to its owner. -/
def judge (kind : Byte) (q : Request) (down : Bool) (owner : State → State) (s : State) : State :=
  if q.broadcast && !acceptsBroadcast kind then s
  else if !lengthFits kind q.payload.length then refuseLength kind q down s
  else owner s

/-- The whole of a request row: the request is presented, and, if the Message Unit may take it, taken and judged. -/
def request (kind : Byte) (q : Request) (owner : Bool → State → State) (s : State) : Result :=
  if taken kind q s then
    let down := headDown (present kind q s)
    .next (judge kind q down (owner down) (atTake kind q s))
  else .next (untaken kind q s)

end Sys2Proof.Machine
end

