-- ==== Sys2Proof/Machine/Resets.lean ====
section
/-! DEFINITION. Machine/Resets.lean: the three resets (R17, R18, R30, R70, R72, R103, R129, R142, R161, R162, R175) and the
rows that bring them about. -/

namespace Sys2Proof.Machine

/-- A power-on or link reset: every block at its value, D and the straps sampled (R1, R18), with the temperature sample
and its fault flag that the caller gives. The command queue and the model's count of free values are not the part's. -/
def hardReset (straps : BitVec 2) (cause : ResetCause) (inReset : Bool) (sample : Int) (fault : Bool) (s : State) : State :=
  { State.fresh straps (depthOf straps) cause inReset sample fault with
    freeUsed := s.freeUsed
    pending := s.pending }

/-- POWER_ON_RESET (R18): its end takes the temperature sample (R50, R70). -/
def execPowerOnReset (straps : BitVec 2) (reading : Int) (s : State) : Result :=
  .next (hardReset straps .power false (sampleOf reading) (faultOf reading) s)

/-- LINK_RESET (R161): every block takes its value at the recognition, and the tile stays in reset until the signalling
ends. The sample is taken at that end (R50, R70), of the reading given here (DESIGN CHOICE, log 37); until then the sample
and its fault flag stand as they were. DEDUCED, log 27. -/
def execLinkReset (straps : BitVec 2) (reading : Int) (s : State) : Result :=
  let t := hardReset straps .link true s.sense.sample s.sense.sensorFault s
  .next (t.withLink { t.link with releaseReading := reading })

/-- The end of a link reset (R50, R70, R161): the tile releases DOWN, asserts go on both ports and takes its sample. -/
def linkResetEnd (s : State) : State :=
  (s.withLink { s.link with inLinkReset := false }).withSense
    { s.sense with sample := sampleOf s.link.releaseReading, sensorFault := faultOf s.link.releaseReading }

/-- LINK_RESET_RELEASE (R161): the signalling ends, which it does only in a link reset (log 2). -/
def execLinkResetRelease (s : State) : Result :=
  .next (if s.link.inLinkReset then linkResetEnd s else s)

/-! ## The soft reset -/

/-- A message in reception at a soft reset is followed to its end in SKIP (R162). -/
def RxState.softReset (x : RxState) : RxState :=
  match x with
  | .hunt => .hunt
  | .header => .skip .softReset none
  | .body h _ _ => .skip .softReset (some h)
  | .skip .overrun h => .skip .overrun h
  | .skip .misroute h => .skip .softReset h
  | .skip .softReset h => .skip .softReset h

/-- The UP transmitter sends a message of the pass-through buffer. -/
def sendingPass (s : State) : Bool :=
  match s.link.upTx with
  | .pass _ => true
  | .idle => false
  | .own _ _ => false

/-- The Link Ports and Router at a soft reset (R162): the addresses and the messages being sent are kept. An accepted
CHAIN_RESET that still waits for the DOWN transmitter ends with no hold and no reply. DESIGN CHOICE, log 35. -/
def softLink (s : State) : Link :=
  { s.link with
    upRx := s.link.upRx.softReset
    downRx := s.link.downRx.softReset
    upCounts := .zero
    downCounts := .zero
    partner := false
    upBuf := []
    downBuf := if s.link.downBusy then s.link.downBuf.take 1 else []
    passBuf := if sendingPass s then s.link.passBuf.take 1 else []
    lastServed := .passThrough
    hold := .none }

/-- The Repair Engine at a soft reset, after the application (R129). -/
def softRepair (r : Repair) : Repair :=
  { r with
    waiting := none
    heldLane := none
    bind := none
    slots := r.slots.map fun x => if x.isReserved then .free else x }

/-- A soft reset in every block at once (R174): the Pending Change List is applied with bind frame 0, and each block takes
the values its chapter gives. -/
def softReset (reading : Int) (s : State) : State :=
  let s1 := applyChangesAt 0 s
  { s1 with
    link := softLink s1
    unit := { s1.unit with replies := [], resetWaiting := false, notices := .all false, defectsSince := 0 }
    ctl := { mode := .standby, video := .dark, frameTimer := none, holdTimer := none, blankTimer := none, cause := .soft }
    store := FrameStore.fresh (depth s1)
    comp := { s1.comp with pulses := List.replicate (depth s1) (List.replicate Config.lanes 0), clipCount := 0 }
    scan := { state := .stopped, nextRow := 0, segments := s1.unit.params.repeats, phase := none,
              traces := restTraces }
    sense := SenseUnit.fresh (sampleOf reading) (faultOf reading)
    track := { suspects := [], queue := [] }
    corr := { check := none }
    repair := softRepair s1.repair }

/-- RESET taken (R174): an addressed one queues its reply OK and sets reset waiting; a broadcast one soft-resets the tile. -/
def resetTaken (q : Request) (reading : Int) (s : State) : State :=
  if q.broadcast then softReset reading s
  else
    let s1 := pushReply { replyTo kReset q.src q.tag .ok [] with isReset := true } s
    s1.withUnit { s1.unit with resetWaiting := true }

/-- RESET (R174). -/
def execReset (q : Request) (reading : Int) (s : State) : Result :=
  request kReset q (fun _ => resetTaken q reading) s

end Sys2Proof.Machine
end

