-- ==== Sys2Proof/Machine/LinkEvents.lean ====
section
/-! DEFINITION. Machine/LinkEvents.lean: the rows of the link ports and the Router: reception (R145 to R149), transmission
with its arbiter and notices (R154, R157, R177), ENUM (R158) and the chain reset (R160). -/

namespace Sys2Proof.Machine

/-! ## Reception -/

/-- START_BYTE_RECEIVED (R145, R149). -/
def execStartByteReceived (p : Port) (s : State) : Result :=
  .next (match p with
    | .up => startUp s
    | .down => startDown s)

/-- HEADER_COMPLETE (R145, R152, R154). -/
def execHeaderComplete (p : Port) (h : Header) (downGo : Bool) (s : State) : Result :=
  .next (match p with
    | .up => headerUp h downGo s
    | .down => headerDown h s)

/-- MESSAGE_RECEIVED (R147). DESIGN CHOICE, log 25. -/
def execMessageReceived (p : Port) (payload : List Byte) (crc : Word16) (mark : Byte) (s : State) : Result :=
  .next (match p with
    | .up => endUp payload crc mark s
    | .down => endDown payload crc mark s)

/-- GAP_TIMEOUT (R146, R155). -/
def execGapTimeout (p : Port) (received : List Byte) (s : State) : Result :=
  .next (match p with
    | .up => gapUp received s
    | .down => gapDown s)

/-- DOWN_GO_ASSERTED (R148). -/
def execDownGoAsserted (s : State) : Result := .next (noteDownGo s)

/-! ## Notices (R177) -/

/-- The Defect List record nearest the tail, as a notice carries it: present, and its 14 bytes (11.2). -/
def recordField (x : Option Defect) : List Byte :=
  match x with
  | some d => 1 :: defectBytes d
  | none => 0 :: List.replicate 14 0

/-- The full flags of LIST_FULL (R177). -/
def fullFlags (s : State) : Byte :=
  byteOf ((if Config.suspectPlaces ≤ s.track.suspects.length then 1 else 0)
    + (if Config.confirmedPlaces ≤ placesTaken s then 2 else 0)
    + (if Config.changePlaces ≤ s.repair.changes.length then 4 else 0)
    + (if Config.defectPlaces ≤ s.repair.defects.length then 8 else 0))

/-- The video state as it is reported: DARK outside RUN (R25). -/
def reportedVideo (s : State) : VideoState :=
  match s.ctl.mode with
  | .run => s.ctl.video
  | .standby => .dark
  | .blank => .dark

/-- The payload of a notice, from the state as it stands (R177, 11.2). -/
def noticePayload (k : NoticeKind) (s : State) : List Byte :=
  match k with
  | .wideFault => policyByte (policyNow s) :: recordField (s.repair.defects.reverse.find? fun x => x.kind == .wide)
  | .rowLost => bitBytes 2 (s.repair.rows.map fun r => r == .lost)
  | .laneEvent => (s.repair.slots.map slotBytes).flatten ++ bitBytes 18 (s.repair.lanes.map fun x => x == .dark)
  | .defect => le16 s.unit.defectsSince ++ recordField s.repair.defects.getLast?
  | .listFull => fullFlags s :: le16 s.repair.unrecorded
  | .videoState => [modeByte s.ctl.mode, videoByte (reportedVideo s)]
  | .linkErrors => counterBytes s.link.upCounts s.link.downCounts

/-- The notice codes (11.2). -/
def noticeCode (k : NoticeKind) : Byte :=
  match k with
  | .wideFault => 0x40
  | .rowLost => 0x41
  | .laneEvent => 0x42
  | .defect => 0x43
  | .listFull => 0x44
  | .videoState => 0x45
  | .linkErrors => 0x46

/-- The notice as it is sent: destination 0, tag 0, its kind with the reply marker (R177). -/
def noticeWire (k : NoticeKind) (s : State) : Wire :=
  formed ⟨0, byteOf s.link.address, withReplyMarker (noticeCode k), 0, noticePayload k s⟩

/-- The flag of a notice being sent is cleared; a DEFECT notice also clears the defects-since count (R177, R178). -/
def noticeSent (k : NoticeKind) (s : State) : State :=
  s.withUnit { s.unit with
    notices := s.unit.notices.set k false
    defectsSince := if k = .defect then 0 else s.unit.defectsSince }

/-! ## The UP transmitter (R157, R165) -/

/-- A reply as it is sent: its source is the tile address at that moment (R165). -/
def replyWire (r : Reply) (s : State) : Wire := formed ⟨r.dst, byteOf s.link.address, r.kind, r.tag, r.payload⟩

/-- The local source is ready: a reply waits, or a notice is pending (R157). -/
def ownReady (s : State) : Bool := !s.unit.replies.isEmpty || s.unit.notices.highest.isSome

/-- The UP transmitter begins message w of the source given. -/
def beginUp (x : UpTx) (served : Served) (s : State) : State :=
  s.withLink { s.link with upTx := x, lastServed := served }

/-- The local source is served: the oldest reply, or, if there is none, the notice of highest priority (R157, R177). -/
def serveOwn (s : State) : State :=
  match s.unit.replies with
  | r :: rest =>
    beginUp (.own (replyWire r s) r.isReset) .ownTraffic (s.withUnit { s.unit with replies := rest })
  | [] =>
    match s.unit.notices.highest with
    | some k => beginUp (.own (noticeWire k s) false) .ownTraffic (noticeSent k s)
    | none => s

/-- The pass-through source is served (R157). -/
def servePass (w : Wire) (s : State) : State := beginUp (.pass w) .passThrough s

/-- The arbiter over the UP transmitter (R157). -/
def arbitrateUp (s : State) : State :=
  match passReady s with
  | none => if ownReady s then serveOwn s else s
  | some w =>
    if ownReady s then (if s.link.lastServed = .passThrough then serveOwn s else servePass w s) else servePass w s

/-- UP_TRANSMIT_START (R157): with UP idle and go from the partner ahead asserted. -/
def execUpTransmitStart (go : Bool) (s : State) : Result :=
  .next (if s.link.upTx = .idle ∧ go = true ∧ s.link.inLinkReset = false then arbitrateUp s else s)

/-- UP_TRANSMIT_END (R156, R165, R174): the transmitter becomes idle; a pass-through message gives up its place, and the
end of an addressed RESET's reply brings the soft reset. -/
def execUpTransmitEnd (reading : Int) (s : State) : Result :=
  .next (match s.link.upTx with
    | .idle => s
    | .own _ false => s.withLink { s.link with upTx := .idle }
    | .own _ true => softReset reading (s.withLink { s.link with upTx := .idle })
    | .pass _ => s.withLink { s.link with upTx := .idle, passBuf := s.link.passBuf.tail })

/-! ## The DOWN transmitter (R154) -/

/-- The oldest message of the down-forward buffer is ready (R154). -/
def downReady (s : State) : Bool :=
  match s.link.downBuf with
  | .ready _ :: _ => true
  | .cutting _ :: _ => false
  | .receiving :: _ => false
  | .enumSlot :: _ => false
  | [] => false

/-- DOWN_TRANSMIT_START (R154): with DOWN idle and go asserted the oldest message is begun if it is ready. -/
def execDownTransmitStart (go : Bool) (s : State) : Result :=
  .next (
    let s1 := if go then noteDownGo s else s
    if s1.link.downBusy || !go || downAtReset s1 || !downReady s1 then s1
    else s1.withLink { s1.link with downBusy := true })

/-- The place of the message sent down is given up, and the broadcast RESET whose forward copy it is, where that local copy
still waits, is released (R153, R154). -/
def downSent (w : Wire) (rest : List FwdPlace) (s : State) : State :=
  s.withLink { s.link with
    downBusy := false
    downBuf := rest
    upBuf := if isBroadcastReset w.msg && decide (resetCopies rest < waitingResets s.link.upBuf) then
        releaseReset s.link.upBuf
      else s.link.upBuf }

/-- DOWN_TRANSMIT_END (R154): a message reaches its end mark; an accepted chain reset that waited for it starts (R160). -/
def execDownTransmitEnd (s : State) : Result :=
  .next (
    if s.link.downBusy then
      match s.link.downBuf with
      | .ready w :: rest => startHoldIfIdle (downSent w rest s)
      | .cutting _ :: _ => s
      | .receiving :: _ => s
      | .enumSlot :: _ => s
      | [] => s
    else s)

/-! ## Enumeration (R158) -/

/-- Both addresses become n. -/
def setAddress (n : Nat) (s : State) : State := s.withLink { s.link with address := n, subordinate := n }

/-- The ENUM that the tile sends on (R158). -/
def nextEnum (q : Request) (n : Nat) : Wire := formed ⟨255, byteOf n, kEnum, q.tag, [byteOf (n + 1)]⟩

/-- The ENUM reply enters the Local Reply Queue (R158, R165). -/
def enumReply (q : Request) (x : ReplyStatus) (last : Nat) (s : State) : State :=
  pushReply (replyTo kEnum q.src q.tag x [byteOf last]) s

/-- The place an ENUM that replies may still hold is given up (R158). -/
def giveUpEnumPlace (down : Bool) (s : State) : State :=
  if down then s.withLink { s.link with downBuf := dropFirstEnumSlot s.link.downBuf } else s

/-- ENUM taken (R158); `down` says that it holds a down-forward place. -/
def enumTaken (q : Request) (down : Bool) (s : State) : State :=
  if !q.broadcast then enumReply q .field s.link.address s
  else
    let n := byteAt q.payload 0
    if n = 0 then enumReply q .field 0 (giveUpEnumPlace down (setAddress 0 s))
    else if n = 255 then enumReply q .field 254 (giveUpEnumPlace down (setAddress 0 s))
    else if down then
      let s1 := setAddress n s
      s1.withLink { s1.link with downBuf := fillEnumSlot (nextEnum q n) s1.link.downBuf }
    else enumReply q .ok n (setAddress n s)

/-- ENUM (R158). -/
def execEnum (q : Request) (s : State) : Result := request kEnum q (enumTaken q) s

/-! ## Chain reset (R160) -/

/-- No hold is in progress and no ended hold's reply waits (R160). -/
def holdFree (s : State) : Bool := s.link.hold == .none

/-- CHAIN_RESET taken (R160): the hold begins as soon as the DOWN transmitter is idle. -/
def chainResetTaken (q : Request) (s : State) : State :=
  if holdFree s then startHoldIfIdle (s.withLink { s.link with hold := .waiting q.src q.tag })
  else refuse kChainReset q .busy s

/-- CHAIN_RESET (R160). -/
def execChainReset (q : Request) (s : State) : Result := request kChainReset q (fun _ => chainResetTaken q) s

/-- CHAIN_RESET_HOLD_START (R160). -/
def execChainResetHoldStart (s : State) : Result := .next (startHoldIfIdle s)

/-- The reply of an ended hold enters when the Local Reply Queue has a free place (R160, R166). -/
def enterHold (s : State) : State :=
  match s.link.hold with
  | .due r => if replyRoom s then pushReply r (s.withLink { s.link with hold := .none }) else s
  | .none => s
  | .waiting _ _ => s
  | .holding _ _ _ => s

/-- CHAIN_RESET_HOLD_END (R160): the line returns to idle and the reply OK becomes due. -/
def execChainResetHoldEnd (s : State) : Result :=
  .next (match s.link.hold with
    | .holding src tag _ => enterHold (s.withLink { s.link with hold := .due (replyTo kChainReset src tag .ok []) })
    | .none => s
    | .waiting _ _ => s
    | .due _ => s)

/-- DEFERRED_REPLY_ENTER (R166): a holder's due reply enters the Local Reply Queue when a place is free. -/
def execDeferredReplyEnter (x : ReplyHolder) (s : State) : Result :=
  .next (match x with
    | .spotTest => enterSpots s
    | .manualBind => enterBind s
    | .chainHold => enterHold s)

/-- KIND_REFUSAL taken (R164): answered KIND when addressed. -/
def kindRefused (kind : Byte) (q : Request) (s : State) : State := refuse kind q .kind s

/-- KIND_REFUSAL (R164): a taken message of a kind that is not a request kind. -/
def execKindRefusal (kind : Byte) (q : Request) (s : State) : Result :=
  if isRequestKind kind || hasReplyMarker kind then .next s
  else .next (if taken kind q s then kindRefused kind q (atTake kind q s) else untaken kind q s)

/-- REPLY_MARKED_DROP (R164): a taken message whose kind carries the reply marker is dropped. -/
def execReplyMarkedDrop (kind : Byte) (q : Request) (s : State) : Result :=
  if hasReplyMarker kind then .next (if taken kind q s then atTake kind q s else untaken kind q s) else .next s

/-! ## Link counters (R150, R173) -/

/-- CLEAR_COUNTS taken (R150). -/
def countsCleared (q : Request) (s : State) : State :=
  answer kClearCounts q .ok [] (s.withLink { s.link with upCounts := .zero, downCounts := .zero })

/-- CLEAR_COUNTS (R150, R173). -/
def execClearCounts (q : Request) (s : State) : Result := request kClearCounts q (fun _ => countsCleared q) s

end Sys2Proof.Machine
end

