-- ==== Sys2Proof/Machine/Loads.lean ====
section
/-! DEFINITION. Machine/Loads.lean: LOAD_DEFECTS (R137 to R140) and CLEAR_DEFECTS (R141). -/

namespace Sys2Proof.Machine

/-! ## Reading a record (R181) -/

/-- The target a loaded record names, none when it is out of range (R138, R181). -/
def loadTarget (s : State) (b : List Byte) : Option Target :=
  let r := byteAt b 3
  let l := byteAt b 4
  match byteAt b 2 with
  | 0 =>
    match dieNamed s r l (byteAt b 5) with
    | some x => some (.die x.row x.lane x.die)
    | none => none
  | 1 => if l < Config.lanes then some (.lane l) else none
  | 2 => if r < depth s then some (.row r) else none
  | 3 => if r < depth s ∧ l < Config.lanes then some (.cell r l) else none
  | _ => none

/-- The kind of a code (R181). -/
def kindOfCode (n : Nat) : Option DefectKind :=
  match n with
  | 0 => some .openDie
  | 1 => some .shortDie
  | 2 => some .intermittent
  | 3 => some .laneDead
  | 4 => some .rowDead
  | 5 => some .wide
  | 6 => some .manual
  | _ => none

/-- The action of a code (R181). -/
def actionOfCode (n : Nat) : Option DefectAction :=
  match n with
  | 0 => some .none
  | 1 => some .dieSwap
  | 2 => some .conceal
  | 3 => some .spareBound
  | 4 => some .laneDark
  | 5 => some .rowConceal
  | 6 => some .selectA
  | 7 => some .selectB
  | 8 => some .forceOff
  | _ => none

/-- The actions that R130 allows for a target and a kind. WIDE is among them, and refused by its own check in R138. -/
def actionsOf (t : Target) (k : DefectKind) : List DefectAction :=
  match t, k with
  | .die _ _ _, .openDie => [.dieSwap, .conceal, .none]
  | .die _ _ _, .shortDie => [.dieSwap, .conceal, .none]
  | .die _ _ _, .intermittent => [.dieSwap, .conceal, .none]
  | .die _ _ _, .wide => [.none]
  | .lane _, .laneDead => [.spareBound, .laneDark, .none]
  | .lane _, .manual => [.spareBound]
  | .row _, .rowDead => [.rowConceal, .none]
  | .cell _ _, .manual => [.selectA, .selectB, .conceal, .forceOff]
  | _, _ => []

/-- The target, kind and action are a combination of R130. -/
def combination (t : Target) (k : DefectKind) (a : DefectAction) : Bool := (actionsOf t k).contains a

/-- The slot byte of a record: absent at 0xFF (R179, R181). -/
def slotOfByte (n : Nat) : Option Nat := if n = 255 then none else some n

/-- A record as the payload gives it, with origin LOADED (R138); its seq is given when it is added. -/
def loadedDefect (b : List Byte) (t : Target) (k : DefectKind) (a : DefectAction) : Defect where
  seq := 0
  target := t
  kind := k
  action := a
  slot := slotOfByte (byteAt b 8)
  verifyFailed := (byteAt b 9).testBit 0
  hotSeen := (byteAt b 9).testBit 1
  origin := .loaded
  frame := le16At b 10
  temp := signed16 (le16At b 12)

/-- The target is a lane. -/
def Target.isLane (t : Target) : Bool :=
  match t with
  | .lane _ => true
  | .die _ _ _ => false
  | .row _ => false
  | .cell _ _ => false

/-- The field checks of R138 that follow the target, kind and action. -/
def loadFieldsFit (x : Defect) : Bool :=
  combination x.target x.kind x.action
    && x.kind != .wide
    && (if x.action = .spareBound then
          (match x.slot with
            | some k => decide (k < Config.spareSlots)
            | none => false)
        else x.slot.isNone)
    && (!x.verifyFailed || x.target.isLane)
    && (!x.hotSeen || x.kind != .manual)
    && decide (-40 ≤ x.temp ∧ x.temp ≤ 125)

/-- The record that 14 bytes give, none when a check of the first row of R138 refuses it FIELD. -/
def loadRecord (s : State) (b : List Byte) : Option Defect :=
  match loadTarget s b, kindOfCode (byteAt b 6), actionOfCode (byteAt b 7) with
  | some t, some k, some a =>
    if loadFieldsFit (loadedDefect b t k a) then some (loadedDefect b t k a) else none
  | _, _, _ => none

/-! ## Judging and applying a record (R138, R139) -/

/-- The slot of a SPARE_BOUND record lies outside its lane's group or is not FREE (R138). -/
def slotConflict (s : State) (x : Defect) : Bool :=
  match x.target, x.slot with
  | .lane l, some k => !(slotsOf l).contains k || !(slotNow s k == .free)
  | _, _ => false

/-- The target is a lane that a RESERVED slot is held for (R138). -/
def laneConflict (s : State) (x : Defect) : Bool :=
  match x.target with
  | .lane l => laneReserved s l
  | .die _ _ _ => false
  | .row _ => false
  | .cell _ _ => false

/-- The first check of R138 after the fields that refuses the record, if one does. -/
def loadRefusal (s : State) (x : Defect) : Option ReplyStatus :=
  if (recordOf s x.target).isSome then some .duplicate
  else if slotConflict s x then some .conflict
  else if laneConflict s x then some .conflict
  else if Config.defectPlaces ≤ s.repair.defects.length then some .full
  else none

/-- The health a loaded DIE record sets (R139). -/
def loadedHealth (k : DefectKind) : Health :=
  match k with
  | .openDie => .openDie
  | .shortDie => .shortDie
  | .intermittent => .flaky
  | .laneDead => .unknown
  | .rowDead => .unknown
  | .wide => .unknown
  | .manual => .unknown

/-- The cell state that the action of a loaded CELL record names (R139). -/
def cellStateOf (a : DefectAction) : Option CellState :=
  match a with
  | .selectA => some .aActive
  | .selectB => some .bActive
  | .conceal => some .concealed
  | .forceOff => some .forcedOff
  | .none => none
  | .dieSwap => none
  | .spareBound => none
  | .laneDark => none
  | .rowConceal => none

/-- Sets the state of a cell in the current maps, with no Pending Change List entry (R139). -/
def setCellState (r l : Nat) (st : CellState) (s : State) : State :=
  s.withRepair { s.repair with cells := cellSet s.repair.cells r l { cellEntry s r l with state := st } }

/-- Sets a Lane State and its slots in the current maps (R139). -/
def setLane (l : Nat) (st : LaneState) (s : State) : State :=
  s.withRepair { s.repair with
    slots := slotsAfter s.repair.slots l st .free s.store.frameCount
    lanes := s.repair.lanes.set l st }

/-- The effect of an accepted record on the maps and on the Suspect Tracker (R139). -/
def loadEffect (x : Defect) (s : State) : State :=
  match x.target, x.action with
  | .die r l d, .none => dieRemoval ⟨r, l, d⟩ (setHealth ⟨r, l, d⟩ (loadedHealth x.kind) s)
  | .die r l d, _ =>
    let s1 := setHealth ⟨r, l, d⟩ (loadedHealth x.kind) s
    dieRemoval ⟨r, l, d⟩ (setCellState r l (automaticState (cellEntry s1 r l)) s1)
  | .lane l, .spareBound =>
    match x.slot with
    | some k => setLane l (.spared k) s
    | none => s
  | .lane l, .laneDark => laneRemoval l (setLane l .dark s)
  | .row r, .rowConceal => rowRemoval r (s.withRepair { s.repair with rows := s.repair.rows.set r .lost })
  | .cell r l, a =>
    match cellStateOf a with
    | some st => setCellState r l st s
    | none => s
  | _, _ => s

/-- An accepted record joins the list and is applied, and the victims are zeroed (R139, R47). -/
def loadAccepted (x : Defect) (s : State) : State := zeroVictims (loadEffect x (addRecord x s))

/-- One record judged, and applied if it is accepted (R137): the status it is refused with, and the state after it. -/
def loadOne (b : List Byte) (s : State) : Option ReplyStatus × State :=
  match loadRecord s b with
  | none => (some .field, s)
  | some x =>
    match loadRefusal s x with
    | some st => (some st, s)
    | none => (none, loadAccepted x s)

/-- The outcome of a list of records: the state, how many were accepted, and the first refused index with its status. -/
structure LoadResult where
  state    : State
  accepted : Nat
  refused  : Option (Nat × ReplyStatus)
  deriving DecidableEq, Repr

/-- The records taken one at a time, the first having index i (R137, R140). -/
def loadAll : List (List Byte) → Nat → State → LoadResult
  | [], _, s => ⟨s, 0, none⟩
  | b :: bs, i, s =>
    match loadOne b s with
    | (some x, _) =>
      let r := loadAll bs (i + 1) s
      { r with refused := some (i, x) }
    | (none, s1) =>
      let r := loadAll bs (i + 1) s1
      { r with accepted := r.accepted + 1 }

/-- The reply status of a LOAD_DEFECTS: OK, or that of the first refused record (R140). -/
def LoadResult.status (r : LoadResult) : ReplyStatus :=
  match r.refused with
  | some x => x.2
  | none => .ok

/-- LOAD_DEFECTS taken (R137, R140): refused STATE outside STANDBY. -/
def defectsLoaded (q : Request) (s : State) : State :=
  if s.ctl.mode = .standby then
    let r := loadAll (chunks14 36 q.payload) 0 s
    answer kLoadDefects q r.status [byteOf r.accepted, optByte (r.refused.map Prod.fst)] r.state
  else refuse kLoadDefects q .state s

/-- LOAD_DEFECTS (R137). -/
def execLoadDefects (q : Request) (s : State) : Result := request kLoadDefects q (fun _ => defectsLoaded q) s

/-! ## CLEAR_DEFECTS (R141) -/

/-- A manual bind in progress ends with its reply ABORTED; an ended one keeps the reply it has (R141). -/
def abortBind (b : Bind) : Bind :=
  match b.stage with
  | .verifying => { b with stage := .ended (replyTo kRepair b.src b.tag .aborted []) }
  | .waitsForRoom _ _ _ => { b with stage := .ended (replyTo kRepair b.src b.tag .aborted []) }
  | .ended _ => b

/-- The Repair Engine after CLEAR_DEFECTS: the list empty, its counts 0, every map and slot at default (R141). -/
def clearedRepair (d : Nat) (r : Repair) : Repair :=
  { Repair.fresh d with
    changes := r.changes
    waiting := r.waiting
    heldLane := r.heldLane
    bind := r.bind.map abortBind }

/-- CLEAR_DEFECTS taken (R141): refused STATE outside STANDBY. -/
def defectsCleared (q : Request) (s : State) : State :=
  if s.ctl.mode = .standby then
    offerReplies (answer kClearDefects q .ok [] (zeroVictims (s.withRepair (clearedRepair (depth s) s.repair))))
  else refuse kClearDefects q .state s

/-- CLEAR_DEFECTS (R141). -/
def execClearDefects (q : Request) (s : State) : Result := request kClearDefects q (fun _ => defectsCleared q) s

end Sys2Proof.Machine
end

