-- ==== Sys2Proof/Machine/Manual.lean ====
section
/-! DEFINITION. Machine/Manual.lean: manual repair: the ten REPAIR operations (R123 to R128). -/

namespace Sys2Proof.Machine

/-! ## Judging a REPAIR (R123) -/

/-- The status of the first check that applies, if one does (R123). -/
def firstRefusal (checks : List (Bool × ReplyStatus)) : Option ReplyStatus := (checks.find? Prod.fst).map Prod.snd

/-- A REPAIR judged by its checks in order: refused with the first that applies, or accepted (R123). -/
def judged (q : Request) (checks : List (Bool × ReplyStatus)) (accept : State → State) (s : State) : State :=
  match firstRefusal checks with
  | some x => refuse kRepair q x s
  | none => accept s

/-- The payload is a REPAIR that names another known operation than number `op` (11.2): another row of the table. -/
def namesAnother (op : Nat) (q : Request) : Bool :=
  q.payload.length == 4 && decide (1 ≤ byteAt q.payload 0 ∧ byteAt q.payload 0 ≤ 10) && byteAt q.payload 0 != op

/-- A REPAIR row: a payload that names another operation is not this row; an unknown operation is refused FIELD (R123).
DESIGN CHOICE, log 29. -/
def repairRow (op : Nat) (q : Request) (owner : State → State) (s : State) : Result :=
  if namesAnother op q then .next s
  else request kRepair q (fun _ t => if byteAt q.payload 0 = op then owner t else refuse kRepair q .field t) s

/-- The fields a, b and c of a REPAIR payload (11.2). -/
def repA (q : Request) : Nat := byteAt q.payload 1
def repB (q : Request) : Nat := byteAt q.payload 2
def repC (q : Request) : Nat := byteAt q.payload 3

/-- r or L names nothing (R123). -/
def badCell (s : State) (r l : Nat) : Bool := decide (depth s ≤ r) || decide (Config.lanes ≤ l)

/-- A check is in progress and the cell is its original cell or a cell of its lane or row (R101). -/
def checkHasCell (s : State) (r l : Nat) : Bool :=
  match s.corr.check with
  | some c => c.die.row == r || c.die.lane == l
  | none => false

/-- A check is in progress on lane L (R101). -/
def checkHasLane (s : State) (l : Nat) : Bool :=
  match s.corr.check with
  | some c => c.die.lane == l
  | none => false

/-- A check is in progress on row r (R101). -/
def checkHasRow (s : State) (r : Nat) : Bool :=
  match s.corr.check with
  | some c => c.die.row == r
  | none => false

/-- A manual bind of lane L is in progress (R123): its record is present and not ended. -/
def bindOn (s : State) (l : Nat) : Bool :=
  match s.repair.bind with
  | some b =>
    b.lane == l &&
      match b.stage with
      | .verifying => true
      | .waitsForRoom _ _ _ => true
      | .ended _ => false
  | none => false

/-- The record of a target, unless its removal is listed already (R123). -/
def standingRecord (s : State) (t : Target) : Option Defect := (recordOf s t).filter fun x => !removalListed s x

/-- The removal entry of a record (R125). -/
def removalOf (x : Defect) : Change := .removal x.target x.seq

/-- A MANUAL record is added, stamped at the acceptance (R133), counted and noticed (R135). -/
def manualRecord (t : Target) (a : DefectAction) (s : State) : State :=
  countDefect (addRecord (stamped s t .manual a none false false .manual) s)

/-- An accepted REPAIR is answered OK (R123). -/
def repairOk (q : Request) (s : State) : State := answer kRepair q .ok [] s

/-! ## SELECT_A, SELECT_B, CONCEAL, FORCE_OFF (R124) -/

/-- The checks of a manual cell action (R123); `badDie` says that the operation selects a bad die. -/
def cellChecks (r l : Nat) (badDie : Bool) (s : State) : List (Bool × ReplyStatus) :=
  [(badCell s r l, .field), (checkHasCell s r l, .busy), (!changeRoom 1 s, .busy), (badDie, .state),
    (!recordRoom s (.cell r l), .full)]

/-- A manual cell action: the MANUAL record, then the cell change (R124, R134). -/
def cellManual (q : Request) (st : CellState) (a : DefectAction) (s : State) : State :=
  repairOk q (addChanges [.cell (repA q) (repB q) st] (manualRecord (.cell (repA q) (repB q)) a s))

/-- The die of the named cell is bad. -/
def namedBad (q : Request) (d : Die) (s : State) : Bool := ((cellEntry s (repA q) (repB q)).health d).bad

/-- SELECT_A (R124). -/
def execSelectA (q : Request) (s : State) : Result :=
  repairRow 1 q
    (fun t => judged q (cellChecks (repA q) (repB q) (namedBad q .a t) t) (cellManual q .aActive .selectA) t) s

/-- SELECT_B (R124). -/
def execSelectB (q : Request) (s : State) : Result :=
  repairRow 2 q
    (fun t => judged q (cellChecks (repA q) (repB q) (namedBad q .b t) t) (cellManual q .bActive .selectB) t) s

/-- CONCEAL (R124). -/
def execConceal (q : Request) (s : State) : Result :=
  repairRow 3 q
    (fun t => judged q (cellChecks (repA q) (repB q) false t) (cellManual q .concealed .conceal) t) s

/-- FORCE_OFF (R124). -/
def execForceOff (q : Request) (s : State) : Result :=
  repairRow 4 q
    (fun t => judged q (cellChecks (repA q) (repB q) false t) (cellManual q .forcedOff .forceOff) t) s

/-! ## RELEASE_CELL, RELEASE_DIE, RELEASE_ROW (R125) -/

/-- The removal of the record of a target, as a list. -/
def removalEntries (s : State) (t : Target) : List Change :=
  match standingRecord s t with
  | some x => [removalOf x]
  | none => []

/-- RELEASE_CELL accepted (R125). -/
def cellReleased (q : Request) (s : State) : State :=
  repairOk q (addChanges
    (.cell (repA q) (repB q) (automaticState (cellEntry s (repA q) (repB q)))
      :: removalEntries s (.cell (repA q) (repB q))) s)

/-- RELEASE_CELL (R125). -/
def execReleaseCell (q : Request) (s : State) : Result :=
  repairRow 5 q
    (fun t => judged q
      [(badCell t (repA q) (repB q), .field), (checkHasCell t (repA q) (repB q), .busy), (!changeRoom 2 t, .busy),
        ((standingRecord t (.cell (repA q) (repB q))).isNone, .notFound)]
      (cellReleased q) t) s

/-- A RELEASE_DIE adds its cell change: the cell has no CELL record, or only one whose removal is listed (R125, log 17). -/
def dieReleaseMoves (s : State) (r l : Nat) : Bool := (standingRecord s (.cell r l)).isNone

/-- RELEASE_DIE accepted (R125): the health of the die becomes UNKNOWN, and the automatic state is judged after it. -/
def dieReleased (q : Request) (x : DieRef) (s : State) : State :=
  let s1 := setHealth x .unknown s
  repairOk q (addChanges
    ((if dieReleaseMoves s1 x.row x.lane then [.cell x.row x.lane (automaticState (cellEntry s1 x.row x.lane))] else [])
      ++ removalEntries s1 (.die x.row x.lane x.die)) s1)

/-- RELEASE_DIE taken (R125). A d byte that names neither die names nothing and is answered FIELD (R179, log 18). -/
def dieRelease (q : Request) (s : State) : State :=
  match dieNamed s (repA q) (repB q) (repC q) with
  | none => refuse kRepair q .field s
  | some x =>
    judged q
      [(checkHasCell s x.row x.lane, .busy), (!changeRoom (if dieReleaseMoves s x.row x.lane then 2 else 1) s, .busy),
        ((standingRecord s (.die x.row x.lane x.die)).isNone, .notFound)]
      (dieReleased q x) s

/-- RELEASE_DIE (R125). -/
def execReleaseDie (q : Request) (s : State) : Result := repairRow 6 q (dieRelease q) s

/-- RELEASE_ROW accepted (R125). -/
def rowReleased (q : Request) (s : State) : State :=
  repairOk q (addChanges (.row (repA q) .normal :: removalEntries s (.row (repA q))) s)

/-- RELEASE_ROW (R125). -/
def execReleaseRow (q : Request) (s : State) : Result :=
  repairRow 10 q
    (fun t => judged q
      [(decide (depth t ≤ repA q), .field), (checkHasRow t (repA q), .busy), (!changeRoom 2 t, .busy),
        ((standingRecord t (.row (repA q))).isNone, .notFound)]
      (rowReleased q) t) s

/-! ## BIND (R126) -/

/-- Row r qualifies for the verify of a bind of lane L, with the die its planned state selects (R126). -/
def bindDieAt (s : State) (l r : Nat) : Option DieRef :=
  if plannedRow s r = .lost then none
  else
    match (plannedCell s r l).selected with
    | none => none
    | some d => if ((cellEntry s r l).health d).bad then none else some ⟨r, l, d⟩

/-- The verify die of a bind of lane L: that of the first row that qualifies, counting up from row 0 (R126). -/
def bindDie (s : State) (l : Nat) : Option DieRef := (List.range (depth s)).findSome? (bindDieAt s l)

/-- Lane L is planned SPARED, or the target of a slot RESERVED or BOUND in the current maps (R123). -/
def laneHeld (s : State) (l : Nat) : Bool :=
  (plannedLane s l).slot.isSome || s.repair.slots.any fun x => x.target == some l

/-- BIND accepted (R126, R60): the slot is RESERVED, the bind recorded, its verify pending with the tried marks clear. -/
def bindAccepted (q : Request) (x : DieRef) (s : State) : State :=
  let s1 := setSlot (repC q) (.reserved (repB q)) s
  (s1.withRepair { s1.repair with bind := some ⟨repB q, repC q, x, q.src, q.tag, .verifying⟩ }).withSense
    { s1.sense with tried := .clear }

/-- The checks of a BIND, in order (R123). DEDUCED, log 30. -/
def bindChecks (q : Request) (s : State) : List (Bool × ReplyStatus) :=
  [(decide (Config.lanes ≤ repB q) || decide (Config.spareSlots ≤ repC q), .field),
    (!(slotsOf (repB q)).contains (repC q), .field),
    (s.corr.check.isSome, .busy),
    (s.repair.bind.isSome, .busy),
    ((bindDie s (repB q)).isNone, .state),
    (!(plannedSlot s (repC q) == .free) || laneHeld s (repB q), .conflict),
    (!recordRoom s (.lane (repB q)), .full)]

/-- BIND (R126). -/
def execBind (q : Request) (s : State) : Result :=
  repairRow 7 q
    (fun t => judged q (bindChecks q t)
      (fun u => match bindDie u (repB q) with
        | some x => bindAccepted q x u
        | none => u) t) s

/-! ## UNBIND (R128) -/

/-- An UNBIND of lane L adds a lane change: L is planned SPARED or DARK (R128). -/
def unbindMoves (s : State) (l : Nat) : Bool := !(plannedLane s l == .normal)

/-- UNBIND of a lane accepted (R128). -/
def laneUnbound (q : Request) (s : State) : State :=
  repairOk q (addChanges
    ((if unbindMoves s (repB q) then [.lane (repB q) .normal .free] else []) ++ removalEntries s (.lane (repB q))) s)

/-- UNBIND_LANE (R128). -/
def execUnbindLane (q : Request) (s : State) : Result :=
  repairRow 8 q
    (fun t => judged q
      [(decide (Config.lanes ≤ repB q), .field), (checkHasLane t (repB q), .busy), (bindOn t (repB q), .busy),
        (!changeRoom (if unbindMoves t (repB q) then 2 else 1) t, .busy),
        ((standingRecord t (.lane (repB q))).isNone, .notFound)]
      (laneUnbound q) t) s

/-- UNBIND of a FAILED slot accepted (R128): FREE at once, with LANE_EVENT pending (R113). -/
def slotUnbound (q : Request) (s : State) : State := repairOk q (raise .laneEvent (setSlot (repC q) .free s))

/-- UNBIND_SLOT (R128). -/
def execUnbindSlot (q : Request) (s : State) : Result :=
  repairRow 9 q
    (fun t => judged q
      [(decide (Config.spareSlots ≤ repC q), .field), (!(slotNow t (repC q) == .failed), .state)]
      (slotUnbound q) t) s

end Sys2Proof.Machine
end

