-- ==== Sys2Proof/Machine/Params.lean ====
section
/-! DEFINITION. Machine/Params.lean: the parameter set as SET_PARAM writes it and GET_PARAM reads it (R68, R167 to R169). -/

namespace Sys2Proof.Machine

/-! ## One pair (R168) -/

/-- What becomes of a SET_PARAM pair: refused FIELD, or stored, with whether the value was clamped. -/
inductive PairResult where
  | refused
  | stored (p : Params) (clamped : Bool)
  deriving DecidableEq, Repr

/-- A numeric parameter of range `lo..hi`, stored as the nearer end when the value lies outside it (R168). -/
def storeNat (lo hi v : Nat) (set : Nat → Params) : PairResult :=
  .stored (set (clampNat lo hi v)) (decide (clampNat lo hi v ≠ v))

/-- A signed numeric parameter (R168). -/
def storeInt (lo hi v : Int) (set : Int → Params) : PairResult :=
  .stored (set (clampInt lo hi v)) (decide (clampInt lo hi v ≠ v))

/-- The largest of 1, 2, 4, 8 not above a value, and 1 for 0 (R168). -/
def repeatValue (v : Nat) : Nat :=
  if 8 ≤ v then 8 else if 4 ≤ v then 4 else if 2 ≤ v then 2 else 1

/-- A `short_limit` pair of one colour: clamped to 0..254, then refused unless it lies below the open limit (R68). -/
def storeShort (v openLim : Nat) (set : Nat → Params) : PairResult :=
  if openLim ≤ clampNat 0 254 v then .refused else storeNat 0 254 v set

/-- An `open_limit` pair of one colour: clamped to 1..255, then refused unless it lies above the short limit (R68). -/
def storeOpen (v shortLim : Nat) (set : Nat → Params) : PairResult :=
  if clampNat 1 255 v ≤ shortLim then .refused else storeNat 1 255 v set

/-- One pair applied to the parameter set (R168; the ids of 11.5). -/
def setPair (p : Params) (id v : Nat) : PairResult :=
  match id with
  | 0x01 => storeNat 0 255 v fun x => { p with brightness := x }
  | 0x02 => .stored { p with repeats := repeatValue v } (decide (repeatValue v ≠ v))
  | 0x03 => storeNat 1 32 v fun x => { p with senseBudget := x }
  | 0x04 => storeNat 1 255 v fun x => { p with blankBudget := x }
  | 0x05 => storeShort v p.openLimit.red fun x => { p with shortLimit := { p.shortLimit with red := x } }
  | 0x06 => storeShort v p.openLimit.green fun x => { p with shortLimit := { p.shortLimit with green := x } }
  | 0x07 => storeShort v p.openLimit.blue fun x => { p with shortLimit := { p.shortLimit with blue := x } }
  | 0x08 => storeOpen v p.shortLimit.red fun x => { p with openLimit := { p.openLimit with red := x } }
  | 0x09 => storeOpen v p.shortLimit.green fun x => { p with openLimit := { p.openLimit with green := x } }
  | 0x0A => storeOpen v p.shortLimit.blue fun x => { p with openLimit := { p.openLimit with blue := x } }
  | 0x0B => storeNat 2 15 v fun x => { p with confirmHits := x }
  | 0x0C => storeNat 2 15 v fun x => { p with flipLimit := x }
  | 0x0D => storeNat 0 255 v fun x => { p with concealShare := x }
  | 0x0E => storeNat 5 250 v fun x => { p with frameTimeout := x }
  | 0x0F => storeNat 1 255 v fun x => { p with holdTime := x }
  | 0x10 => storeInt (-20) 110 (signed16 v) fun x => { p with senseTempMax := x }
  | 0x11 =>
    match v with
    | 0 => .stored { p with walkEnable := false } false
    | 1 => .stored { p with walkEnable := true } false
    | _ => .refused
  | 0x12 =>
    match v with
    | 0 => .stored { p with walkBoth := true } false
    | 1 => .stored { p with walkBoth := false } false
    | _ => .refused
  | 0x13 =>
    match v with
    | 0 => .stored { p with policy := .auto } false
    | 1 => .stored { p with policy := .advise } false
    | _ => .refused
  | 0x14 => .stored { p with noticeMask := maskOfValue v } (decide (128 ≤ v))
  | _ => .refused

/-! ## A whole request (R168) -/

/-- The Message Unit after a stored pair; a `notice_mask` clears the pending flags of the kinds it disables (R176). -/
def unitStored (u : MessageUnit) (id : Nat) (p : Params) : MessageUnit :=
  { u with
    params := p
    notices := if id = 0x14 then u.notices.masked p.noticeMask else u.notices }

/-- The outcome of a list of pairs: the Message Unit, the index of the first refused pair, and whether any was clamped. -/
structure PairsResult where
  unit    : MessageUnit
  refused : Option Nat
  clamped : Bool
  deriving DecidableEq, Repr

/-- The pairs applied in the order they stand, the first having index i (R168). -/
def setPairs : List (Nat × Nat) → Nat → MessageUnit → PairsResult
  | [], _, u => ⟨u, none, false⟩
  | (id, v) :: rest, i, u =>
    match setPair u.params id v with
    | .refused =>
      let r := setPairs rest (i + 1) u
      { r with refused := some i }
    | .stored p c =>
      let r := setPairs rest (i + 1) (unitStored u id p)
      { r with clamped := c || r.clamped }

/-- The reply status of a SET_PARAM: FIELD over CLAMPED over OK (R168). -/
def PairsResult.status (r : PairsResult) : ReplyStatus :=
  if r.refused.isSome then .field else if r.clamped then .clamped else .ok

/-- SET_PARAM taken (R168). -/
def paramsSet (q : Request) (s : State) : State :=
  let r := setPairs (paramPairs q.payload) 0 s.unit
  answer kSetParam q r.status [optByte r.refused] (s.withUnit r.unit)

/-- SET_PARAM (R168). -/
def execSetParam (q : Request) (s : State) : Result := request kSetParam q (fun _ => paramsSet q) s

/-! ## Reading (R169) -/

/-- The stored value of a parameter as its 16-bit code, none for an unknown id (R169, 11.5). -/
def paramValue (p : Params) (id : Nat) : Option Nat :=
  match id with
  | 0x01 => some p.brightness
  | 0x02 => some p.repeats
  | 0x03 => some p.senseBudget
  | 0x04 => some p.blankBudget
  | 0x05 => some p.shortLimit.red
  | 0x06 => some p.shortLimit.green
  | 0x07 => some p.shortLimit.blue
  | 0x08 => some p.openLimit.red
  | 0x09 => some p.openLimit.green
  | 0x0A => some p.openLimit.blue
  | 0x0B => some p.confirmHits
  | 0x0C => some p.flipLimit
  | 0x0D => some p.concealShare
  | 0x0E => some p.frameTimeout
  | 0x0F => some p.holdTime
  | 0x10 => some (p.senseTempMax % 65536).toNat
  | 0x11 => some (if p.walkEnable then 1 else 0)
  | 0x12 => some (if p.walkBoth then 0 else 1)
  | 0x13 => some (policyByte p.policy).toNat
  | 0x14 => some (maskValue p.noticeMask)
  | _ => none

/-- The content of a GET_PARAM reply: the index of the first unknown id, and one value for each id (R169). -/
def paramContent (p : Params) (ids : List Byte) : List Byte :=
  optByte (ids.findIdx? fun i => (paramValue p i.toNat).isNone)
    :: (ids.map fun i => le16 ((paramValue p i.toNat).getD 0)).flatten

/-- GET_PARAM taken (R169). -/
def paramsGot (q : Request) (s : State) : State :=
  let unknown := q.payload.any fun i => (paramValue s.unit.params i.toNat).isNone
  answer kGetParam q (if unknown then .field else .ok) (paramContent s.unit.params q.payload) s

/-- GET_PARAM (R169). -/
def execGetParam (q : Request) (s : State) : Result := request kGetParam q (fun _ => paramsGot q) s

end Sys2Proof.Machine
end

