-- ==== Sys2Proof/Machine/Reads.lean ====
section
/-! DEFINITION. Machine/Reads.lean: the requests that read the part (R38, R87, R136, R170 to R173) and LOAD_GAIN (R37). -/

namespace Sys2Proof.Machine

/-! ## IDENT and STATUS -/

/-- The IDENT reply after its status byte (R170, 11.5). -/
def identContent (s : State) : List Byte :=
  le16 0x0860 ++ [1, byteOf s.straps.toNat, byteOf (depth s), byteOf s.link.address, byteOf s.link.subordinate,
    causeByte s.ctl.cause]

/-- IDENT (R170). -/
def execIdent (q : Request) (s : State) : Result :=
  request kIdent q (fun _ t => answer kIdent q .ok (identContent t) t) s

/-- The STATUS reply after its status byte, offsets 1 to 35 (R171, 11.5). -/
def statusContent (s : State) : List Byte :=
  [modeByte s.ctl.mode, videoByte (reportedVideo s), causeByte s.ctl.cause, byteOf s.link.address,
    byteOf s.link.subordinate, byteOf (depth s)]
    ++ leSigned16 s.sense.sample ++ [flagByte s.sense.sensorFault]
    ++ le32 s.store.frameCount ++ le16 s.store.incomplete ++ le16 s.store.skipped ++ le16 s.store.badRow
    ++ le16 s.comp.clipCount
    ++ [byteOf s.track.suspects.length, byteOf s.track.queue.length, checkPhaseByte s.corr.check,
        byteOf s.repair.changes.length, byteOf s.repair.defects.length, byteOf (freeSlots s), policyByte (policyNow s)]
    ++ le16 s.repair.unrecorded ++ le16 s.sense.sweeps
    ++ [dieByte s.sense.cursor.pass, byteOf s.sense.cursor.row, byteOf s.sense.cursor.lane]

/-- STATUS (R171). -/
def execStatus (q : Request) (s : State) : Result :=
  request kStatus q (fun _ t => answer kStatus q .ok (statusContent t) t) s

/-! ## Gains (R37, R38) -/

/-- A gain as it is stored: limited to 256..2047 (R37). -/
def storedGain (v : Nat) : Nat := clampNat 256 2047 v

/-- The Coefficient Table with consecutive gains replaced from index i on. -/
def putGains (gains : List Nat) (i : Nat) (vs : List Nat) : List Nat :=
  gains.take i ++ vs ++ gains.drop (i + vs.length)

/-- LOAD_GAIN taken (R37): a load past the end of the table writes nothing. -/
def gainsLoaded (q : Request) (s : State) : State :=
  let start := le16At q.payload 0
  let vs := words16 (q.payload.drop 2)
  if 288 * depth s < start + vs.length then refuse kLoadGain q .field s
  else
    let clamped := vs.countP fun v => decide (storedGain v ≠ v)
    answer kLoadGain q (if clamped = 0 then .ok else .clamped) [byteOf vs.length, byteOf clamped]
      (s.withComp { s.comp with gains := putGains s.comp.gains start (vs.map storedGain) })

/-- LOAD_GAIN (R37). -/
def execLoadGain (q : Request) (s : State) : Result := request kLoadGain q (fun _ => gainsLoaded q) s

/-- READ_GAIN taken (R38). -/
def gainsRead (q : Request) (s : State) : State :=
  let start := le16At q.payload 0
  let n := byteAt q.payload 2
  if n = 0 ∨ 288 * depth s < start + n then refuse kReadGain q .field s
  else answer kReadGain q .ok (byteOf n :: (((s.comp.gains.drop start).take n).map le16).flatten) s

/-- READ_GAIN (R38, R173). -/
def execReadGain (q : Request) (s : State) : Result := request kReadGain q (fun _ => gainsRead q) s

/-! ## Lists and maps -/

/-- A page of a list: up to `n` entries from index `start` on. -/
def pageOf {α : Type} (xs : List α) (start n : Nat) : List α := (xs.drop start).take n

/-- READ_DEFECTS taken (R136, 11.2). -/
def defectsRead (q : Request) (s : State) : State :=
  let n := byteAt q.payload 1
  if n = 0 ∨ 32 < n then refuse kReadDefects q .field s
  else
    let page := pageOf s.repair.defects (byteAt q.payload 0) n
    answer kReadDefects q .ok
      ([byteOf s.repair.defects.length] ++ le16 s.repair.seqCounter ++ [byteOf page.length]
        ++ bitBytes 4 (page.map (removalListed s)) ++ (page.map defectBytes).flatten) s

/-- READ_DEFECTS (R136). -/
def execReadDefects (q : Request) (s : State) : Result := request kReadDefects q (fun _ => defectsRead q) s

/-- READ_SUSPECTS taken (R87, 11.2). -/
def suspectsRead (q : Request) (s : State) : State :=
  let start := byteAt q.payload 1
  match byteAt q.payload 0 with
  | 0 =>
    let page := pageOf s.track.suspects start 16
    answer kReadSuspects q .ok
      ([0, byteOf s.track.suspects.length, byteOf page.length] ++ (page.map suspectBytes).flatten) s
  | 1 =>
    let page := pageOf s.track.queue start 8
    answer kReadSuspects q .ok
      ([1, byteOf s.track.queue.length, byteOf page.length] ++ (page.map descriptorBytes).flatten) s
  | _ => refuse kReadSuspects q .field s

/-- READ_SUSPECTS (R87). -/
def execReadSuspects (q : Request) (s : State) : Result := request kReadSuspects q (fun _ => suspectsRead q) s

/-- The READ_SPARES reply after its status byte (R104, R173, R181). -/
def sparesContent (s : State) : List Byte :=
  (s.repair.slots.map slotBytes).flatten ++ s.repair.lanes.map laneByte ++ checkBytes s.corr.check

/-- READ_SPARES (R173). -/
def execReadSpares (q : Request) (s : State) : Result :=
  request kReadSpares q (fun _ t => answer kReadSpares q .ok (sparesContent t) t) s

/-- One row of a READ_MAP reply: its Row Table entry and its 144 cell bytes, current (R172). -/
def mapRow (s : State) (r : Nat) : List Byte :=
  rowByte (rowNow s r) :: (List.range Config.lanes).map fun l => cellByte (cellEntry s r l)

/-- READ_MAP taken (R172). -/
def mapRead (q : Request) (s : State) : State :=
  let start := byteAt q.payload 0
  let n := byteAt q.payload 1
  if n = 0 ∨ 3 < n ∨ depth s < start + n then refuse kReadMap q .field s
  else
    answer kReadMap q .ok
      ([byteOf start, byteOf n] ++ ((List.range n).map fun i => mapRow s (start + i)).flatten) s

/-- READ_MAP (R172). -/
def execReadMap (q : Request) (s : State) : Result := request kReadMap q (fun _ => mapRead q) s

end Sys2Proof.Machine
end

