-- ==== Sys2Proof/Machine/Tests.lean ====
section
/-! DEFINITION. Machine/Tests.lean: the rows of scanning, sensing and the fault path: the end of a row phase (R10, R11),
the end of a test (R54 to R56), TEST (R65), and what the fault path does when its conditions come about (R89, R115, R117,
R127). -/

namespace Sys2Proof.Machine

/-! ## ROW_PHASE_END -/

/-- A row phase ends while the Scan Driver is SCANNING: a waiting claim is taken, or the next row's phase starts (R10,
R11). -/
def phaseEnd (s : State) : State := if claimWaiting s then claimAtPhaseEnd .yielded s else startPhase s

/-- ROW_PHASE_END (R11). -/
def execRowPhaseEnd (s : State) : Result :=
  .next (if s.scan.state = .scanning then phaseEnd s else s)

/-! ## TEST_COMPLETION (R54 to R56) -/

/-- A walk, retest or spot result is applied by the Suspect Tracker, and a passing one is noted by the Repair Engine (R56,
R73). The effect is what the Tracker returns. -/
def handSuspect (t : TestRecord) (r : TestResult) (s : State) : State × SuspectEffect :=
  let applied := applyResult t.die r t.grantWindow s
  (if r = .good then notePass t.die applied.1 else applied.1, applied.2)

/-- A check in VERIFYING with its verify fields (R88); a check in PROBING has none, and a manual bind's verify may then be
in flight (R117). -/
def verifying? (c : Check) : Option (Check × Verify) := c.verify.map fun v => (c, v)

/-- The result is handed to the blocks that the source names (R56). DEDUCED, log 31. -/
def handResult (t : TestRecord) (r : TestResult) (tick : Nat) (s : State) : State :=
  match t.source with
  | .walk => (handSuspect t r s).1
  | .retest => (handSuspect t r s).1
  | .spot =>
    let h := handSuspect t r s
    h.1.withSense { h.1.sense with
      spots := spotDone r tick t.hot (if r = .inconclusive then .none else h.2) h.1.sense.spots }
  | .probe n => probeDone n r s
  | .verify _ =>
    match s.corr.check.bind verifying? with
    | some cv => verifyDone cv.1 cv.2 r s
    | none =>
      match s.repair.bind with
      | some b => if b.stage = .verifying then bindDone b r tick s else s
      | none => s

/-- The test in flight ends: the drive lines return, the result is handed on with what follows from it, and the grant
decision comes last (R10, R54, R56). -/
def testEnd (t : TestRecord) (knee : Option (Fin 255)) (s : State) : State :=
  let s1 := releaseLines (s.withSense { s.sense with test := none })
  decideGrant (offerReplies (settle (handResult t (classify t knee) (reportedT t knee) s1)))

/-- TEST_COMPLETION (R54): a test that drives completes; `knee` is the tick, less one, at which the comparator first
showed conduction, none when it never did. -/
def execTestCompletion (knee : Option (Fin 255)) (s : State) : Result :=
  .next (match s.sense.test with
    | some t => if t.driver.isSome then testEnd t knee s else s
    | none => s)

/-! ## The fault path (R89, R115, R117, R127) -/

/-- DESCRIPTOR_TAKE (R89). -/
def execDescriptorTake (s : State) : Result := .next (takeAll s)

/-- WAITING_DECISION_TAKEN (R115): as soon as an application has made room. -/
def execWaitingDecisionTaken (s : State) : Result :=
  .next (if s.repair.waiting.isSome && changeRoom 1 s then settle (takeWaiting s) else s)

/-- ISOLATION_ENTRY_ADDED (R117). -/
def execIsolationEntryAdded (s : State) : Result := .next (settle (addIsolation s))

/-- LANE_HOLD_RELEASE (R117). -/
def execLaneHoldRelease (s : State) : Result := .next (settle s)

/-- BIND_WAIT_COMPLETE (R127). -/
def execBindWaitComplete (s : State) : Result := .next (offerReplies (settle (bindRoom s)))

/-! ## TEST (R65) -/

/-- A new WAITING entry (R65). -/
def newSpot (q : Request) (x : DieRef) : SpotEntry := ⟨q.src, q.tag, x, .waiting⟩

/-- TEST taken (R65). -/
def testTaken (q : Request) (s : State) : State :=
  if s.ctl.mode = .standby then refuse kTest q .state s
  else
    match dieNamed s (byteAt q.payload 0) (byteAt q.payload 1) (byteAt q.payload 2) with
    | none => refuse kTest q .field s
    | some x =>
      if Config.spotPlaces ≤ s.sense.spots.length then refuse kTest q .busy s
      else s.withSense { s.sense with spots := s.sense.spots ++ [newSpot q x] }

/-- TEST (R65). -/
def execTest (q : Request) (s : State) : Result := request kTest q (fun _ => testTaken q) s

end Sys2Proof.Machine
end

