-- ==== Sys2Proof/Machine/Video.lean ====
section
/-! DEFINITION. Machine/Video.lean: the Frame Store's arrivals (R30 to R35), the frame boundaries (R24), the Mode
Controller with its timers (R18 to R29) and MODE. -/

namespace Sys2Proof.Machine

/-! ## ROW (R31) -/

/-- A ROW arrival at the Frame Store: row index r and the codes of its lanes (R31). -/
def storeRow (r : Nat) (codes : List Nat) (s : State) : State :=
  if r < depth s then
    s.withStore { s.store with fill := s.store.fill.set r codes, rowFlags := s.store.rowFlags.set r true }
  else s.withStore { s.store with badRow := satAdd s.store.badRow 1 }

/-- ROW taken (R31, R180). -/
def rowTaken (q : Request) (s : State) : State := storeRow (byteAt q.payload 0) (unpackCodes (q.payload.drop 1)) s

/-- ROW (R31). -/
def execRow (q : Request) (s : State) : Result := request kRow q (fun _ => rowTaken q) s

/-! ## The Frame Store at a FRAME arrival (R32) -/

/-- The next frame count (R32). -/
def nextFrameCount (n : Nat) : Nat := (n + 1) % 4294967296

/-- The frames that a FRAME arrival with this number finds skipped (R32). -/
def skippedBy (f : FrameStore) (number : Nat) : Nat :=
  if f.frameSeen = true ∧ number ≠ (f.lastNumber + 1) % 65536 then (number + 2 * 65536 - f.lastNumber - 1) % 65536 else 0

/-- All row-received flags are set, so that the arrival swaps the buffers (R32). -/
def frameComplete (f : FrameStore) : Bool := f.rowFlags.all id

/-- The Frame Store after a FRAME arrival (R32). -/
def FrameStore.arrival (f : FrameStore) (number : Nat) : FrameStore where
  fill := if frameComplete f then f.display else f.fill
  display := if frameComplete f then f.fill else f.display
  rowFlags := f.rowFlags.map fun _ => false
  frameCount := nextFrameCount f.frameCount
  lastNumber := number
  frameSeen := true
  skipped := satAdd f.skipped (skippedBy f number)
  incomplete := if frameComplete f then f.incomplete else satAdd f.incomplete 1
  badRow := f.badRow

/-! ## The video state (R25, R26) -/

/-- The video state becomes v; a state other than the one held sets VIDEO_STATE pending (R25). -/
def enterVideo (v : VideoState) (s : State) : State :=
  let s1 := s.withCtl { s.ctl with video := v }
  if s.ctl.video = v then s1 else raise .videoState s1

/-- The video state after a FRAME arrival in RUN (R26). -/
def videoAfter (v : VideoState) (swapped : Bool) : VideoState := if swapped then .live else v

/-- The Mode Controller at a FRAME arrival in RUN (R26, R29): the frame timer restarts, and a swap stops the hold timer. -/
def moveVideo (swapped : Bool) (s : State) : State :=
  enterVideo (videoAfter s.ctl.video swapped)
    (s.withCtl { s.ctl with
      frameTimer := some s.unit.params.frameTimeout
      holdTimer := if swapped then none else s.ctl.holdTimer })

/-! ## Frame boundaries (R24) -/

/-- The first half of a frame boundary: the Pending Change List is applied, and what that makes room for follows (R24,
R112, R115). -/
def boundaryApply (s : State) : State := afterApplication (applyChanges s)

/-- The composition of a FRAME arrival in RUN and its scan cycle; drive enable rises when the video state has entered LIVE
from DARK (R9, R10, R39). -/
def boundaryCompose (wasEnabled : Bool) (s : State) : State :=
  let s1 := compose s
  scanComposed (if driveEnable s1 && !wasEnabled then driveRises s1 else s1)

/-- A FRAME arrival in RUN, after the Frame Store (R24, R26, R34). DEDUCED, log 9. -/
def frameInRun (swapped : Bool) (reading : Int) (s : State) : State :=
  let s1 := moveVideo swapped s
  let s2 := boundaryCompose (driveEnable s) (boundaryApply s1)
  offerReplies (openWindow s2.unit.params.senseBudget reading s2)

/-- FRAME taken (R32, R24). -/
def frameTaken (q : Request) (reading : Int) (s : State) : State :=
  let swapped := frameComplete s.store
  let s1 := s.withStore (s.store.arrival (le16At q.payload 0))
  match s.ctl.mode with
  | .run => frameInRun swapped reading s1
  | .standby => s1
  | .blank => s1

/-- FRAME (R32); `reading` is the converter reading the window of a frame boundary in RUN samples (R50). -/
def execFrame (q : Request) (reading : Int) (s : State) : Result :=
  request kFrame q (fun _ => frameTaken q reading) s

/-! ## Timers (R27, R28, R23) -/

/-- The frame timer runs out (R27). -/
def frameTimerOut (s : State) : State :=
  let s1 := s.withCtl { s.ctl with frameTimer := none }
  match s.ctl.video with
  | .live => enterVideo .holding (s1.withCtl { s1.ctl with holdTimer := some (s.unit.params.holdTime * 10) })
  | .dark => s1
  | .holding => s1

/-- FRAME_TIMER_EXPIRY (R27): the timer runs only in RUN. DESIGN CHOICE, log 11. -/
def execFrameTimerExpiry (s : State) : Result :=
  .next (if s.ctl.frameTimer.isSome then frameTimerOut s else s)

/-- The hold timer runs out (R28): the video state becomes DARK and drive enable falls. -/
def holdTimerOut (s : State) : State :=
  driveFalls (enterVideo .dark (s.withCtl { s.ctl with holdTimer := none }))

/-- HOLD_TIMER_EXPIRY (R28): the timer runs only in HOLDING. -/
def execHoldTimerExpiry (s : State) : Result :=
  .next (if s.ctl.holdTimer.isSome && s.ctl.video == .holding then holdTimerOut s else s)

/-- The blank window timer's period in ms (R23). -/
abbrev blankMs : Nat := 10

/-- The blank window timer expires (R23, R24): it starts again, and the boundary applies and opens a blank window. -/
def blankTimerOut (reading : Int) (s : State) : State :=
  let s1 := boundaryApply (s.withCtl { s.ctl with blankTimer := some blankMs })
  offerReplies (openWindow s1.unit.params.blankBudget reading s1)

/-- BLANK_WINDOW_TIMER_EXPIRY (R23): the timer runs only in BLANK. -/
def execBlankWindowTimerExpiry (reading : Int) (s : State) : Result :=
  .next (if s.ctl.blankTimer.isSome && s.ctl.mode == .blank then blankTimerOut reading s else s)

/-! ## MODE (R19 to R23) -/

/-- Every WAITING entry of the Spot Test Queue becomes ABORTED (R67). -/
def abortSpots (s : State) : State :=
  s.withSense { s.sense with
    spots := s.sense.spots.map fun e => if e.status = .waiting then { e with status := .aborted } else e }

/-- The slot reserved for a verify of the check in progress, if any (R102). -/
def checkSlot (s : State) : Option Nat := (s.corr.check.bind Check.verify).map Verify.slot

/-- The check in progress is dropped (R102): its descriptor returns to the head of the queue, its slot to FREE, the tried
marks are cleared, and a held lane decision is discarded (R122). -/
def dropCheck (s : State) : State :=
  match s.corr.check with
  | none => s
  | some c =>
    let s1 := match checkSlot s with
      | some k => setSlot k .free s
      | none => s
    ((((s1.withCorr { check := none }).withTrack
        { s1.track with queue := ⟨c.die, .openDie, c.hits, c.flips, c.frame⟩ :: s1.track.queue }).withSense
        { s1.sense with tried := .clear })).withRepair { s1.repair with heldLane := none }

/-- A BIND verify abandoned on entry to STANDBY is made pending again, with the tried marks clear (R60, R122). Where the
verify was pending already and none was in flight, no rule names a clearing; the marks are cleared there too, and the next
window opening clears them in any case. DESIGN CHOICE, log 36. -/
def rependBind (s : State) : State :=
  match s.repair.bind with
  | some b => if b.stage = .verifying then s.withSense { s.sense with tried := .clear } else s
  | none => s

/-- What leaving a mode stops (R21): the frame and hold timers and the video state, or the blank window timer; outside RUN
the video field stands at DARK (R25). DESIGN CHOICE, log 23. -/
def leaveMode (target : Mode) (s : State) : State :=
  s.withCtl { s.ctl with mode := target, video := .dark, frameTimer := none, holdTimer := none, blankTimer := none }

/-- Entry to STANDBY from RUN or BLANK (R20, R58, R67, R102, R122). -/
def enterStandby (s : State) : State :=
  boundaryApply (leaveMode .standby (rependBind (dropCheck (stopScan (abandonTest (abortSpots s))))))

/-- Entry to RUN: the video state is DARK, and VIDEO_STATE becomes pending (R22). -/
def enterRun (s : State) : State := raise .videoState (leaveMode .run s)

/-- Entry to BLANK: the blank window timer starts; drive enable has fallen if it was true (R9, R21, R23). -/
def enterBlank (s : State) : State :=
  let s1 := leaveMode .blank s
  let s2 := s1.withCtl { s1.ctl with blankTimer := some blankMs }
  if driveEnable s then driveFalls s2 else s2

/-- The tile moves to a mode other than its own; the takes that R89 held back in STANDBY follow on leaving it. -/
def changeMode (target : Mode) (s : State) : State :=
  match target with
  | .standby => enterStandby s
  | .run => settle (enterRun s)
  | .blank => settle (enterBlank s)

/-- MODE taken (R19): the reply reports the mode entered, and the change is made at the take. -/
def modeTaken (q : Request) (s : State) : State :=
  match modeOfCode (byteAt q.payload 0) with
  | none => refuse kMode q .field s
  | some m =>
    let s1 := answer kMode q .ok [modeByte m] s
    if m = s.ctl.mode then s1 else offerReplies (changeMode m s1)

/-- MODE (R19). -/
def execMode (q : Request) (s : State) : Result := request kMode q (fun _ => modeTaken q) s

end Sys2Proof.Machine
end

