-- ==== Sys2Proof/Machine/Dispatch.lean ====
section
/-! DEFINITION. Machine/Dispatch.lean: one arm for each command of the table. -/

namespace Sys2Proof.Machine

/-- The effect of a command on everything but the command queue (log 1). -/
def exec (i : Instr) (s : State) : Host.Outcome State Fault Refusal :=
  match i with
  | .powerOnReset straps reading => Sys2Proof.Machine.execPowerOnReset straps reading s
  | .linkReset straps reading => Sys2Proof.Machine.execLinkReset straps reading s
  | .linkResetRelease => Sys2Proof.Machine.execLinkResetRelease s
  | .startByteReceived port => Sys2Proof.Machine.execStartByteReceived port s
  | .headerComplete port h downGo => Sys2Proof.Machine.execHeaderComplete port h downGo s
  | .messageReceived port payload crc mark => Sys2Proof.Machine.execMessageReceived port payload crc mark s
  | .gapTimeout port received => Sys2Proof.Machine.execGapTimeout port received s
  | .downGoAsserted => Sys2Proof.Machine.execDownGoAsserted s
  | .upTransmitStart go => Sys2Proof.Machine.execUpTransmitStart go s
  | .upTransmitEnd reading => Sys2Proof.Machine.execUpTransmitEnd reading s
  | .downTransmitStart go => Sys2Proof.Machine.execDownTransmitStart go s
  | .downTransmitEnd => Sys2Proof.Machine.execDownTransmitEnd s
  | .enum q => Sys2Proof.Machine.execEnum q s
  | .ident q => Sys2Proof.Machine.execIdent q s
  | .status q => Sys2Proof.Machine.execStatus q s
  | .setParam q => Sys2Proof.Machine.execSetParam q s
  | .getParam q => Sys2Proof.Machine.execGetParam q s
  | .loadGain q => Sys2Proof.Machine.execLoadGain q s
  | .readGain q => Sys2Proof.Machine.execReadGain q s
  | .row q => Sys2Proof.Machine.execRow q s
  | .frame q reading => Sys2Proof.Machine.execFrame q reading s
  | .mode q => Sys2Proof.Machine.execMode q s
  | .frameTimerExpiry => Sys2Proof.Machine.execFrameTimerExpiry s
  | .holdTimerExpiry => Sys2Proof.Machine.execHoldTimerExpiry s
  | .blankWindowTimerExpiry reading => Sys2Proof.Machine.execBlankWindowTimerExpiry reading s
  | .rowPhaseEnd => Sys2Proof.Machine.execRowPhaseEnd s
  | .testCompletion knee => Sys2Proof.Machine.execTestCompletion knee s
  | .descriptorTake => Sys2Proof.Machine.execDescriptorTake s
  | .waitingDecisionTaken => Sys2Proof.Machine.execWaitingDecisionTaken s
  | .isolationEntryAdded => Sys2Proof.Machine.execIsolationEntryAdded s
  | .laneHoldRelease => Sys2Proof.Machine.execLaneHoldRelease s
  | .bindWaitComplete => Sys2Proof.Machine.execBindWaitComplete s
  | .deferredReplyEnter holder => Sys2Proof.Machine.execDeferredReplyEnter holder s
  | .test q => Sys2Proof.Machine.execTest q s
  | .selectA q => Sys2Proof.Machine.execSelectA q s
  | .selectB q => Sys2Proof.Machine.execSelectB q s
  | .conceal q => Sys2Proof.Machine.execConceal q s
  | .forceOff q => Sys2Proof.Machine.execForceOff q s
  | .releaseCell q => Sys2Proof.Machine.execReleaseCell q s
  | .releaseDie q => Sys2Proof.Machine.execReleaseDie q s
  | .releaseRow q => Sys2Proof.Machine.execReleaseRow q s
  | .bind q => Sys2Proof.Machine.execBind q s
  | .unbindLane q => Sys2Proof.Machine.execUnbindLane q s
  | .unbindSlot q => Sys2Proof.Machine.execUnbindSlot q s
  | .readDefects q => Sys2Proof.Machine.execReadDefects q s
  | .loadDefects q => Sys2Proof.Machine.execLoadDefects q s
  | .clearDefects q => Sys2Proof.Machine.execClearDefects q s
  | .readSuspects q => Sys2Proof.Machine.execReadSuspects q s
  | .readSpares q => Sys2Proof.Machine.execReadSpares q s
  | .readMap q => Sys2Proof.Machine.execReadMap q s
  | .clearCounts q => Sys2Proof.Machine.execClearCounts q s
  | .reset q reading => Sys2Proof.Machine.execReset q reading s
  | .chainReset q => Sys2Proof.Machine.execChainReset q s
  | .chainResetHoldStart => Sys2Proof.Machine.execChainResetHoldStart s
  | .chainResetHoldEnd => Sys2Proof.Machine.execChainResetHoldEnd s
  | .kindRefusal kind q => Sys2Proof.Machine.execKindRefusal kind q s
  | .replyMarkedDrop kind q => Sys2Proof.Machine.execReplyMarkedDrop kind q s

end Sys2Proof.Machine
end

