-- ==== Sys2Proof/Machine/Outputs.lean ====
section
/-! DEFINITION. Machine/Outputs.lean: what the drive pins show, as functions of the state (R2, R5, R6, R9, R13 to R17).
The boundary interval of a phase and the settling time of a test are timing and are not told apart here (log 15). -/

namespace Sys2Proof.Machine

/-- The row phase in progress: there is one only in SCANNING (R10). -/
def phaseNow (s : State) : Option RowPhase := if s.scan.state = .scanning then s.scan.phase else none

/-- The test that holds the drive lines, with its driver (R15). -/
def testDriving (s : State) : Option (TestRecord × TestDriver) :=
  s.sense.test.bind fun t => t.driver.map fun d => (t, d)

/-- What drives a lane's drive node (R5). -/
inductive NodeDriver where
  | nothing | own | slot (k : Nat)
  deriving DecidableEq, Repr

/-- The driver of a test as a node's driver (R16). -/
def TestDriver.node (d : TestDriver) : NodeDriver :=
  match d with
  | .own => .own
  | .slot k => .slot k

/-- The driver that a Lane State connects (R5). -/
def LaneState.node (x : LaneState) : NodeDriver :=
  match x with
  | .normal => .own
  | .spared k => .slot k
  | .dark => .nothing

/-- What is latched for lane L in a phase (R12). -/
def RowPhase.latch (p : RowPhase) (l : Nat) : LaneLatch := p.lanes.getD l ⟨.dark, .forcedOff, 0⟩

/-- What is connected to the drive node of lane L: the test's driver on its lane and nothing on the others, or in a row
phase what the latched Lane State names; nothing otherwise (R5, R9, R15). -/
def nodeDriver (s : State) (l : Nat) : NodeDriver :=
  match testDriving s with
  | some (t, d) => if t.die.lane = l then d.node else .nothing
  | none =>
    match phaseNow s with
    | some p => (p.latch l).lane.node
    | none => .nothing

/-- The own-driver switch of lane L is closed (R5). -/
def ownSwitchClosed (s : State) (l : Nat) : Bool := nodeDriver s l == .own

/-- The slot that the crosspoint connects to lane L (R4, R5). -/
def crosspoint (s : State) (l : Nat) : Option Nat :=
  match nodeDriver s l with
  | .slot k => some k
  | .own => none
  | .nothing => none

/-- The row-select output ROW r is on: the test's row, or the row of the phase in progress unless it is LOST (R2, R13). -/
def rowSelected (s : State) (r : Nat) : Bool :=
  match testDriving s with
  | some (t, _) => t.die.row == r
  | none =>
    match phaseNow s with
    | some p => p.row == r && p.entry == .normal
    | none => false

/-- The trace that TRSEL of lane L selects: where it was last set, by a phase, a test or a reset (R6, R15, R17).
DEDUCED, log 28. -/
def traceSelected (s : State) (l : Nat) : Die := s.scan.traces.getD l .a

/-- The pulse length that a phase gives lane L: 0 in a LOST row, on a DARK lane and for a cell that selects no die, whatever
the Output Table holds (R6, R13). -/
def phasePulse (p : RowPhase) (l : Nat) : Nat :=
  if p.entry = .lost ∨ (p.latch l).lane = .dark ∨ (p.latch l).cell.selected = none then 0 else (p.latch l).pulse

/-- A lane with pulse length P is on in grey slot j of a phase of R segments (R14). -/
def pulseOn (pulse segs j : Nat) : Bool :=
  decide (j % (greySlots / segs) < segmentPulse pulse segs (j / (greySlots / segs)))

/-- The node of lane L sinks its colour current in grey slot j of the phase in progress, or for the length of a test on the
lane (R9, R14, R15). -/
def laneLit (s : State) (l j : Nat) : Bool :=
  match testDriving s with
  | some (t, _) => t.die.lane == l
  | none =>
    match phaseNow s with
    | some p => decide (j < greySlots) && pulseOn (phasePulse p l) s.scan.segments j
    | none => false

end Sys2Proof.Machine
end

