-- ==== Sys2Proof/Safety.lean ====
section
/-! DEFINITION. Safety.lean: the words the statements use: when a request reaches its owner and how it is refused, when a
grant or a result comes, what a composition and a check look at, how loaded records are judged, and the laws the manual makes
of the part's state. -/

namespace Sys2Proof.Machine

/-! ## Requests -/

/-- Request q of a kind is taken now and reaches its owner: the Message Unit may take it, its length fits, and a broadcast
is of a kind accepted locally (R163, R164). -/
def Dispatched (kind : Byte) (q : Request) (s : State) : Prop :=
  taken kind q s = true ∧ lengthFits kind q.payload.length = true ∧ (q.broadcast = true → acceptsBroadcast kind = true)

/-- A REPAIR of operation `op` is taken now and reaches the Repair Engine (R123, R163). -/
def RepairDispatched (op : Nat) (q : Request) (s : State) : Prop :=
  Dispatched kRepair q s ∧ byteAt q.payload 0 = op

/-- The reply of request q, as R165 makes it: its tag, its kind with the reply marker, one status and the content, to the
source of the request. -/
def replyOf (kind : Byte) (q : Request) (status : Byte) (content : List Byte) : Reply :=
  ⟨q.src, kind ||| 0x80, q.tag, status :: content, false⟩

/-- `s` with one reply at the tail of the Local Reply Queue (R165). -/
def State.replying (s : State) (r : Reply) : State :=
  s.withUnit { s.unit with replies := s.unit.replies ++ [r] }

/-- The outcome of a request that is refused by the first check that applies: each check is a condition and the status it
refuses with. Nothing is said of a request that no check refuses. -/
def RefusedInOrder (run : Host.Outcome State Fault Refusal) (no : Byte → Host.Outcome State Fault Refusal) :
    List (Prop × Byte) → Prop
  | [] => True
  | check :: rest => (check.1 → run = no check.2) ∧ (¬ check.1 → RefusedInOrder run no rest)

/-- The two states agree in every block but the link ports, the Router and the Message Unit. -/
structure SameTile (s t : State) : Prop where
  straps : t.straps = s.straps
  ctl    : t.ctl = s.ctl
  store  : t.store = s.store
  comp   : t.comp = s.comp
  scan   : t.scan = s.scan
  sense  : t.sense = s.sense
  track  : t.track = s.track
  corr   : t.corr = s.corr
  repair : t.repair = s.repair

/-- The two states agree in every block but the Repair Engine and the Message Unit. -/
structure SameButRepair (s t : State) : Prop where
  straps : t.straps = s.straps
  link   : t.link = s.link
  ctl    : t.ctl = s.ctl
  store  : t.store = s.store
  scan   : t.scan = s.scan
  sense  : t.sense = s.sense
  track  : t.track = s.track
  corr   : t.corr = s.corr

/-- A port's counters once a message that ended bad has been charged (R147): an end mark that is neither 0x5A nor 0xA9 is a
framing error, 0xA9 a poisoned message, and 0x5A with a CRC that differs a CRC error. -/
def chargedBad (mark : Byte) (c : Counters) : Counters :=
  if mark = 0xA9 then { c with poisonedRx := min (c.poisonedRx + 1) 65535 }
  else if mark = 0x5A then { c with crcErr := min (c.crcErr + 1) 65535 }
  else { c with framingErr := min (c.framingErr + 1) 65535 }

/-- Nothing waits that an event of the fault path could set going: the Confirmed Queue and the held line are empty, and no
lane decision is held (R83, R89, R117). -/
structure FaultPathQuiet (s : State) : Prop where
  queue    : s.track.queue = []
  held     : ∀ x ∈ s.track.suspects, x.held = none
  heldLane : s.repair.heldLane = none

/-- The tables hold an entry for cell (r, L). -/
def HasCell (s : State) (r l : Nat) : Prop :=
  r < s.repair.cells.length ∧ l < (s.repair.cells.getD r []).length

/-- The Defect List with the record of a target replaced by one at the tail (R131, R132). -/
def listWith (s : State) (x : Defect) : List Defect :=
  s.repair.defects.filter (fun y => y.target != x.target) ++ [{ x with seq := s.repair.seqCounter }]

/-- A record as R133 stamps it at this moment. -/
def record (s : State) (t : Target) (k : DefectKind) (a : DefectAction) (slot : Option Nat) (verifyFailed hotSeen : Bool)
    (o : Origin) : Defect :=
  ⟨0, t, k, a, slot, verifyFailed, hotSeen, o, s.store.frameCount % 65536, s.sense.sample⟩

/-- The Message Unit once a record has been added (R135, R176, R178): it is counted, and DEFECT is pending where that kind is
enabled. -/
def unitNoted (s : State) : MessageUnit :=
  { s.unit with
    notices := { s.unit.notices with defect := s.unit.notices.defect || s.unit.params.noticeMask.defect }
    defectsSince := min (s.unit.defectsSince + 1) 65535 }

/-- The Message Unit once a list was found full (R115, R176): LIST_FULL is pending where that kind is enabled. -/
def unitFull (s : State) : MessageUnit :=
  { s.unit with notices := { s.unit.notices with
      listFull := s.unit.notices.listFull || s.unit.params.noticeMask.listFull } }

/-- What R130 and R138 ask of the fields of a record that a tile of depth D may load: a target of the tile, a combination of
target, kind and action other than WIDE, a slot 0..11 exactly with SPARE_BOUND, VERIFY_FAILED on LANE records alone, HOT_SEEN
on no MANUAL record, and a temp in -40..125. -/
def RecordFits (d : Nat) (x : Defect) : Prop :=
  (match x.target, x.kind with
    | .die r l _, .openDie => r < d ∧ l < 144 ∧ (x.action = .dieSwap ∨ x.action = .conceal ∨ x.action = .none)
    | .die r l _, .shortDie => r < d ∧ l < 144 ∧ (x.action = .dieSwap ∨ x.action = .conceal ∨ x.action = .none)
    | .die r l _, .intermittent => r < d ∧ l < 144 ∧ (x.action = .dieSwap ∨ x.action = .conceal ∨ x.action = .none)
    | .lane l, .laneDead => l < 144 ∧ (x.action = .spareBound ∨ x.action = .laneDark ∨ x.action = .none)
    | .lane l, .manual => l < 144 ∧ x.action = .spareBound
    | .row r, .rowDead => r < d ∧ (x.action = .rowConceal ∨ x.action = .none)
    | .cell r l, .manual => r < d ∧ l < 144
        ∧ (x.action = .selectA ∨ x.action = .selectB ∨ x.action = .conceal ∨ x.action = .forceOff)
    | _, _ => False)
  ∧ (if x.action = .spareBound then ∃ k, x.slot = some k ∧ k < 12 else x.slot = none)
  ∧ (x.verifyFailed = true → ∃ l, x.target = .lane l)
  ∧ (x.hotSeen = true → x.kind ≠ .manual)
  ∧ -40 ≤ x.temp ∧ x.temp ≤ 125

/-- A manual cell action on cell (r, L) is accepted (R123): the cell is of the tile, no check holds it, and both lists have
room. In STANDBY nothing waits in the Pending Change List, as in every state that keeps `StandbyQuiet`. -/
def CellActionFits (q : Request) (s : State) : Prop :=
  byteAt q.payload 1 < depth s ∧ byteAt q.payload 2 < 144
    ∧ (∀ c, s.corr.check = some c → c.die.row ≠ byteAt q.payload 1 ∧ c.die.lane ≠ byteAt q.payload 2)
    ∧ s.repair.changes.length < 16
    ∧ (s.repair.defects.length < 192 ∨ ∃ x ∈ s.repair.defects, x.target = .cell (byteAt q.payload 1) (byteAt q.payload 2))
    ∧ (s.ctl.mode = .standby → s.repair.changes = [])

/-- A manual cell action carried out (R124, R133, R135): its MANUAL record joins the Defect List, is counted and sets DEFECT
pending where that kind is enabled; it is answered OK, and its entry waits at the tail of the Pending Change List, or in
STANDBY is applied at once. -/
def CellActionDone (q : Request) (st : CellState) (a : DefectAction) (s t : State) : Prop :=
  t.repair.defects = listWith s (record s (.cell (byteAt q.payload 1) (byteAt q.payload 2)) .manual a none false false .manual)
    ∧ t.repair.seqCounter = (s.repair.seqCounter + 1) % 65536
    ∧ t.unit = { unitNoted s with replies := s.unit.replies ++ [replyOf 0x0C q 0 []] }
    ∧ (s.ctl.mode ≠ .standby →
        t.repair.changes = s.repair.changes ++ [.cell (byteAt q.payload 1) (byteAt q.payload 2) st]
          ∧ t.repair.cells = s.repair.cells ∧ t.comp = s.comp)
    ∧ t.repair.lanes = s.repair.lanes ∧ t.repair.slots = s.repair.slots ∧ t.repair.rows = s.repair.rows
    ∧ t.repair.bind = s.repair.bind
    ∧ (∀ r l, r ≠ byteAt q.payload 1 ∨ l ≠ byteAt q.payload 2 → cellEntry t r l = cellEntry s r l)
    ∧ (s.ctl.mode = .standby → HasCell s (byteAt q.payload 1) (byteAt q.payload 2) →
        t.repair.changes = []
          ∧ cellEntry t (byteAt q.payload 1) (byteAt q.payload 2)
              = { cellEntry s (byteAt q.payload 1) (byteAt q.payload 2) with state := st })

/-! ## Grants and results (R51, R52, R59 to R64, R73 to R77) -/

/-- No deferred reply of the Spot Test Queue or of a manual bind enters now (R66, R166): the Local Reply Queue is full, or
none is due. -/
def NoReplyDue (s : State) : Prop :=
  8 ≤ s.unit.replies.length
    ∨ ((∀ e ∈ s.sense.spots, e.status = .waiting) ∧ ∀ b r, s.repair.bind = some b → b.stage ≠ .ended r)

/-- The reply of an entry of the Spot Test Queue that is DONE or ABORTED (R66, R67, 11.2): its die, and the result, t, hot and
the suspect effect, or four zeros. -/
def dueReply (e : SpotEntry) : Reply :=
  let die : List Byte := [BitVec.ofNat 8 e.die.row, BitVec.ofNat 8 e.die.lane, match e.die.die with | .a => 0 | .b => 1]
  ⟨e.src, 0x8B, e.tag, (match e.status with
    | .done r t hot x =>
      0 :: die ++ [match r with | .good => 0 | .openDie => 1 | .shortDie => 2 | .inconclusive => 3, BitVec.ofNat 8 t,
        if hot then 1 else 0, match x with | .none => 0 | .new => 1 | .updated => 2 | .cleared => 3 | .notTracked => 4]
    | .aborted => 11 :: die ++ [0, 0, 0, 0]
    | .waiting => []), false⟩

/-- The Correlator takes no descriptor now (R89): a check is in progress, a decision waits, or the part is in STANDBY. -/
def NoTake (s : State) : Prop := s.corr.check ≠ none ∨ s.repair.waiting ≠ none ∨ s.ctl.mode = .standby

/-- A die that a failing result may start a record for (R74), but for room in the Suspect List: it is not bad, its lane is
not planned DARK nor its row planned LOST, no slot is RESERVED for the lane, no decision of the lane waits or is held, and
no descriptor of the die waits or is under check. -/
def MayBeWatched (s : State) (x : DieRef) : Prop :=
  (healthOf s x).bad = false ∧ plannedLane s x.lane ≠ .dark ∧ plannedRow s x.row ≠ .lost
    ∧ .reserved x.lane ∉ s.repair.slots
    ∧ (∀ hot f, s.repair.waiting ≠ some (.lane x.lane hot f))
    ∧ (∀ c h, s.corr.check = some c → s.repair.heldLane = some h → c.die.lane ≠ x.lane)
    ∧ (∀ y ∈ s.track.queue, y.die ≠ x) ∧ (∀ c, s.corr.check = some c → c.die ≠ x)

/-- Test t is in flight and drives, in a window that has closed, and no lane decision is held: no grant follows its end. -/
structure EndsAlone (t : TestRecord) (s : State) : Prop where
  test     : s.sense.test = some t
  driver   : t.driver.isSome = true
  window   : s.sense.windowOpen = false
  heldLane : s.repair.heldLane = none

/-- The suspect effect of a result on die x (R73 to R77), as the Suspect Tracker returns it: none for INCONCLUSIVE, for GOOD
without a record and for a HELD record; new or not tracked for a failing result without a record; and with a record in WATCH
updated, or cleared when it has passed often enough. -/
def EffectOf (s : State) (d : DieRef) (r : TestResult) (x : SuspectEffect) : Prop :=
  (r = .inconclusive ∧ x = .none)
    ∨ ((∀ y ∈ s.track.suspects, y.die ≠ d) ∧
        ((r = .good ∧ x = .none)
          ∨ ((r = .openDie ∨ r = .shortDie) ∧
              (s.track.suspects.length < 32 ∧ MayBeWatched s d ∧ x = .new
                ∨ (32 ≤ s.track.suspects.length ∨ ¬ MayBeWatched s d) ∧ x = .notTracked))))
    ∨ (∃ before y after, s.track.suspects = before ++ y :: after ∧ y.die = d ∧ (∀ z ∈ before, z.die ≠ d) ∧
        ((y.held ≠ none ∧ x = .none)
          ∨ (y.held = none ∧ (r = .openDie ∨ r = .shortDie) ∧ x = .updated)
          ∨ (y.held = none ∧ r = .good ∧ y.passes + 1 < s.unit.params.confirmHits ∧ x = .updated)
          ∨ (y.held = none ∧ r = .good ∧ s.unit.params.confirmHits ≤ y.passes + 1 ∧ x = .cleared)))

/-- A grant decision comes next (R52): a walk test ends GOOD on a die with no record, in an open window with a slot left,
and nothing comes between: no descriptor waits, no held lane decision is due, and no deferred reply enters. -/
structure GrantComesNext (t : TestRecord) (knee : Option (Fin 255)) (s : State) : Prop where
  test     : s.sense.test = some t
  driver   : t.driver.isSome = true
  source   : t.source = .walk
  good     : classify t knee = .good
  record   : ∀ x ∈ s.track.suspects, x.die ≠ t.die
  queue    : s.track.queue = []
  heldLane : ∀ h, s.repair.heldLane = some h → h.isolationWaits = true
  replies  : NoReplyDue s
  window   : s.sense.windowOpen = true
  slotLeft : s.sense.used < s.sense.budget

/-- The first level is not eligible (R59, R60): no verify is pending, of a check or of a manual bind, or it has been tried. -/
def NoVerifyDue (s : State) : Prop :=
  s.sense.tried.verify = true
    ∨ ((∀ c, s.corr.check = some c → c.verify = none) ∧ ∀ b, s.repair.bind = some b → b.stage ≠ .verifying)

/-- The second level is not eligible (R59, R60): every PENDING probe of a check in PROBING has been tried. -/
def NoProbeDue (s : State) : Prop :=
  ∀ c n p, s.corr.check = some c → c.verify = none → c.probes[n]? = some p → p.result = .pending →
    s.sense.tried.probe n = true

/-- The third level is not eligible (R59): no entry of the Spot Test Queue is WAITING. -/
def NoSpotWaits (s : State) : Prop := ∀ e ∈ s.sense.spots, e.status ≠ .waiting

/-- A record that may be retested in the window (R61): in WATCH, with no result applied from this window yet, its row not
LOST and its lane not DARK. -/
def MayBeRetested (s : State) (x : Suspect) : Prop :=
  x.held = none ∧ x.lastWindow ≠ some s.sense.windowNumber ∧ rowNow s x.die.row ≠ .lost ∧ laneNow s x.die.lane ≠ .dark

/-- What the walk skips (R63): a die of a LOST row, a DARK lane or a cell CONCEALED or FORCED_OFF, a bad die, a die with a
record, and a die of a lane that a slot is RESERVED for or whose decision waits or is held. -/
def WalkPasses (s : State) (x : DieRef) : Prop :=
  rowNow s x.row = .lost ∨ laneNow s x.lane = .dark
    ∨ (cellEntry s x.row x.lane).state = .concealed ∨ (cellEntry s x.row x.lane).state = .forcedOff
    ∨ healthOf s x = .openDie ∨ healthOf s x = .shortDie ∨ healthOf s x = .flaky
    ∨ (∃ y ∈ s.track.suspects, y.die = x) ∨ .reserved x.lane ∈ s.repair.slots
    ∨ (∃ hot f, s.repair.waiting = some (.lane x.lane hot f))
    ∨ (∃ c h, s.corr.check = some c ∧ s.repair.heldLane = some h ∧ c.die.lane = x.lane)

/-- Position i of the walk order (R62): pass A over the rows and lanes in order, then pass B. -/
def walkPosition (s : State) (i : Nat) : WalkPos :=
  ⟨if i / (144 * depth s) = 0 then .a else .b, i / 144 % depth s, i % 144⟩

/-- The test record of a grant (R53, R54): the limits of the lane's colour, hot and the window as they stand, and the claim
waiting. -/
def grantedTest (s : State) (source : TestSource) (x : DieRef) : TestRecord where
  source := source
  die := x
  shortLimit := match x.lane % 3 with
    | 0 => s.unit.params.shortLimit.red
    | 1 => s.unit.params.shortLimit.green
    | _ => s.unit.params.shortLimit.blue
  openLimit := match x.lane % 3 with
    | 0 => s.unit.params.openLimit.red
    | 1 => s.unit.params.openLimit.green
    | _ => s.unit.params.openLimit.blue
  hot := s.sense.hot
  grantWindow := s.sense.windowNumber
  driver := none

/-- The Sense Unit once a test is granted (R51, R52): a slot is used, and the grant that spends the budget closes the window,
with hot then false. -/
def grantedSense (s : State) (t : TestRecord) : SenseUnit :=
  { s.sense with
    used := s.sense.used + 1
    windowOpen := decide (s.sense.used + 1 < s.sense.budget)
    hot := s.sense.hot && decide (s.sense.used + 1 < s.sense.budget)
    test := some t }

/-- The driver that a test connects when its claim is taken (R16, R53): a verify its slot, any other the slot of a SPARED
lane, and else the lane's own; a walk, a retest or a probe connects none on a DARK lane. -/
def ConnectsTo (s : State) (t : TestRecord) (d : TestDriver) : Prop :=
  match t.source, laneNow s t.die.lane with
  | .verify k, _ => d = .slot k
  | _, .normal => d = .own
  | _, .spared k => d = .slot k
  | .spot, .dark => d = .own
  | _, .dark => False

/-- A test that is withdrawn when its claim is taken (R53): a walk, a retest or a probe on a lane that has become DARK. -/
def Withdrawn (s : State) (t : TestRecord) : Prop :=
  laneNow s t.die.lane = .dark ∧ (t.source = .walk ∨ t.source = .retest ∨ ∃ n, t.source = .probe n)

/-- The test record just after its grant (R15, R16, R53): the claim waits, or where the Scan Driver is STOPPED it is taken at
once and the test drives. -/
def grantTaken (s : State) (atOnce : Bool) (t : TestRecord) : TestRecord :=
  if atOnce then
    { t with driver := some (match t.source, laneNow s t.die.lane with
        | .verify k, _ => .slot k
        | _, .spared k => .slot k
        | _, _ => .own) }
  else t

/-- What a grant decision on state s, in an open window with a slot left and no test in flight, makes of the Sense Unit, but
for the walk's turn (R51 to R54, R59 to R61): it goes to the first source that has a test, of the verify of the check or else
of the bind, the lowest probe PENDING and not tried, the first WAITING spot entry, and the first record that may be retested.
A verify and a probe are marked tried. With no test to grant and the walk not allowed, the window closes. `atOnce` says that
the Scan Driver is STOPPED; a probe is then taken to be on a lane that is not DARK. -/
def GrantDecides (s : State) (atOnce : Bool) (u : SenseUnit) : Prop :=
  let granted (x : TestSource) (die : DieRef) : SenseUnit := grantedSense s (grantTaken s atOnce (grantedTest s x die))
  (s.sense.tried.verify = false → ∀ c v, s.corr.check = some c → c.verify = some v →
    u = { granted (.verify v.slot) v.die with tried := { s.sense.tried with verify := true } })
  ∧ (s.sense.tried.verify = false → ∀ b, (∀ c, s.corr.check = some c → c.verify = none) →
      s.repair.bind = some b → b.stage = .verifying →
    u = { granted (.verify b.slot) b.die with tried := { s.sense.tried with verify := true } })
  ∧ (NoVerifyDue s → ∀ c n p x, s.corr.check = some c → c.verify = none → n < 4 → c.probes[n]? = some p →
      p.result = .pending → p.target = some x → s.sense.tried.probe n = false →
      (∀ m p', m < n → c.probes[m]? = some p' → p'.result = .pending → s.sense.tried.probe m = true) →
      (atOnce = true → laneNow s x.lane ≠ .dark) →
    u = { granted (.probe n) x with
      tried :=
        { s.sense.tried with
          probe0 := s.sense.tried.probe0 || decide (n = 0), probe1 := s.sense.tried.probe1 || decide (n = 1)
          probe2 := s.sense.tried.probe2 || decide (n = 2), probe3 := s.sense.tried.probe3 || decide (n = 3) } })
  ∧ (NoVerifyDue s → NoProbeDue s → ∀ before e after, s.sense.spots = before ++ e :: after → e.status = .waiting →
      (∀ y ∈ before, y.status ≠ .waiting) → u = granted .spot e.die)
  ∧ (NoVerifyDue s → NoProbeDue s → NoSpotWaits s → ∀ before x after, s.track.suspects = before ++ x :: after →
      MayBeRetested s x → (∀ y ∈ before, ¬ MayBeRetested s y) → u = granted .retest x.die)
  ∧ (NoVerifyDue s → NoProbeDue s → NoSpotWaits s → (∀ x ∈ s.track.suspects, ¬ MayBeRetested s x) →
      s.unit.params.walkEnable = false ∨ s.sense.hot = true ∨ 32 ≤ s.track.suspects.length →
    u = { s.sense with test := none, windowOpen := false, hot := false })

/-- What a grant decision makes of the Sense Unit when the walk has its turn (R62 to R64): from the cursor on, the first die in
walk order that the walk does not pass is tested, the cursor goes to the position after it, and the sweep count rises by the
ends of lap passed; with `walk_dies` at A_ONLY the order is pass A alone, and from a cursor in pass B the rest of pass B counts
as one end of lap (log 22). When every die is passed, the window closes with cursor and count as they were. -/
def WalkDecides (s : State) (atOnce : Bool) (u : SenseUnit) : Prop :=
  NoVerifyDue s → NoProbeDue s → NoSpotWaits s → (∀ x ∈ s.track.suspects, ¬ MayBeRetested s x) →
  s.unit.params.walkEnable = true → s.sense.hot = false → s.track.suspects.length < 32 →
  ∀ i n, s.sense.cursor = walkPosition s i → n = 144 * depth s →
  let die (j : Nat) : DieRef := ⟨(walkPosition s j).row, (walkPosition s j).lane, (walkPosition s j).pass⟩
  let tested (j next sweeps : Nat) : Prop :=
    u = { grantedSense s (grantTaken s atOnce (grantedTest s .walk (die j))) with
      cursor := walkPosition s next, sweeps := min (s.sense.sweeps + sweeps) 65535 }
  (s.unit.params.walkBoth = true → i < 2 * n → ∀ k, k < 2 * n → ¬ WalkPasses s (die ((i + k) % (2 * n))) →
    (∀ j, j < k → WalkPasses s (die ((i + j) % (2 * n)))) →
    tested ((i + k) % (2 * n)) ((i + k + 1) % (2 * n)) ((i + k + 1) / (2 * n)))
  ∧ (s.unit.params.walkBoth = false → i < n → ∀ k, k < n → ¬ WalkPasses s (die ((i + k) % n)) →
    (∀ j, j < k → WalkPasses s (die ((i + j) % n))) →
    tested ((i + k) % n) ((i + k + 1) % n) ((i + k + 1) / n))
  ∧ (s.unit.params.walkBoth = false → n ≤ i → i < 2 * n → ∀ k, k < n → ¬ WalkPasses s (die k) →
    (∀ j, j < k → WalkPasses s (die j)) →
    tested k ((k + 1) % n) (1 + (k + 1) / n))
  ∧ (i < 2 * n → (∀ j, j < (if s.unit.params.walkBoth then 2 * n else n) → WalkPasses s (die j)) →
    u = { s.sense with test := none, windowOpen := false, hot := false })

/-- The Sense Unit as a window opening leaves it, before the first grant decision (R49, R50), with the test in flight given:
the next window number, the budget latched and none of it used, the tried marks clear, a fresh sample with its fault flag, and
hot for a sample above `sense_temp_max` or a fault. -/
def openedSense (budget : Nat) (reading : Int) (test : Option TestRecord) (s : State) : SenseUnit :=
  { s.sense with
    windowOpen := true
    windowNumber := (s.sense.windowNumber + 1) % 65536
    budget := budget
    used := 0
    tried := ⟨false, false, false, false, false⟩
    sample := max (-40) (min 125 reading)
    sensorFault := decide (reading < -40 ∨ 125 < reading)
    hot := decide (s.unit.params.senseTempMax < max (-40) (min 125 reading) ∨ reading < -40 ∨ 125 < reading)
    test := test }

/-- From s to t a window opens, with the test in flight given (R49, R50, R52, R73): the new number is in no suspect record;
with a test in flight the window waits, as opened, for its end; with none the first grant decision is made, on the maps and
records as t has them. `atOnce` says that the Scan Driver is then STOPPED. -/
def WindowOpens (budget : Nat) (reading : Int) (test : Option TestRecord) (atOnce : Bool) (s t : State) : Prop :=
  let opened : SenseUnit := openedSense budget reading test s
  (∀ x ∈ t.track.suspects, x.lastWindow ≠ some opened.windowNumber)
  ∧ (test ≠ none → t.sense = { opened with spots := t.sense.spots })
  ∧ (test = none → 1 ≤ budget →
      GrantDecides (t.withSense opened) atOnce { t.sense with spots := s.sense.spots }
        ∧ WalkDecides (t.withSense opened) atOnce { t.sense with spots := s.sense.spots })

/-- The Suspect List with a window number removed from the records that hold it (R49, R73). -/
def withoutWindow (n : Nat) (xs : List Suspect) : List Suspect :=
  xs.map fun x => if x.lastWindow = some n then { x with lastWindow := none } else x

/-! ## Composition and probes -/

/-- The sum of a quantity over the neighbours of cell (r, L) on a tile of depth `d` (R7): the cells three lanes to either
side and one row up or down, of those that the tile has. -/
def sumAround (d r l : Nat) (f : Nat → Nat → Nat) : Nat :=
  (if 3 ≤ l then f r (l - 3) else 0) + (if l + 3 < 144 then f r (l + 3) else 0)
    + (if 1 ≤ r then f (r - 1) l else 0) + (if r + 1 < d then f (r + 1) l else 0)

/-- The share that victim (r, L) lends to each of its n live neighbours, 0 where it has none (R41). -/
def lentShare (s : State) (r l : Nat) : Nat :=
  let n := sumAround (depth s) r l fun r' l' => if isLive s r' l' = true then 1 else 0
  if n = 0 then 0 else cellAt s.store.display r l 0 * s.unit.params.concealShare / (256 * n)

/-- A cell qualifies as a probe in the planned state (R93, R94): its row is not LOST, its lane is not DARK, and it selects a
die, which is not bad. -/
def Eligible (s : State) (r l : Nat) : Prop :=
  plannedRow s r ≠ .lost ∧ plannedLane s l ≠ .dark
    ∧ ∃ d, (plannedCell s r l).selected = some d ∧ ((cellEntry s r l).health d).bad = false

/-- Candidate i of the lane probes of a check on die x qualifies: the cell of its lane i + 1 rows on, mod D (R93). -/
def LaneCandidate (s : State) (x : DieRef) (i : Nat) : Prop :=
  i < depth s - 1 ∧ Eligible s ((x.row + 1 + i) % depth s) x.lane

/-- Candidate i of the row probes of a check on die x qualifies: the cell of its row 24 × (i + 1) lanes on, mod 144 (R94). -/
def RowCandidate (s : State) (x : DieRef) (i : Nat) : Prop :=
  i < 5 ∧ Eligible s x.row ((x.lane + 24 * (i + 1)) % 144)

/-- i is the first number with a property, or with `n` other than 0 the second. -/
def IsNth (p : Nat → Prop) (n i : Nat) : Prop :=
  p i ∧ (if n = 0 then ∀ j, j < i → ¬ p j else ∃ j, j < i ∧ p j ∧ ∀ k, k < i → k ≠ j → ¬ p k)

/-! ## Records loaded (R137 to R140) -/

/-- A record that a LOAD_DEFECTS accepted has joined the list and been applied to the current maps (R139), with no entry, no
notice and no count, and the victims zeroed (R47). -/
structure RecordApplied (x : Defect) (s t : State) : Prop where
  defects : t.repair.defects = s.repair.defects ++ [{ x with seq := s.repair.seqCounter, origin := .loaded }]
  counter : t.repair.seqCounter = (s.repair.seqCounter + 1) % 65536
  cells   : ∀ r l, HasCell s r l → cellEntry t r l = (match x.target with
    | .cell r' l' => if r = r' ∧ l = l' then
        { cellEntry s r l with
          state := match x.action with
            | .selectA => .aActive
            | .selectB => .bActive
            | .conceal => .concealed
            | .forceOff => .forcedOff
            | _ => (cellEntry s r l).state }
      else cellEntry s r l
    | .die r' l' d => if r = r' ∧ l = l' then
        let e := (cellEntry s r l).withHealth d
          (match x.kind with | .openDie => .openDie | .shortDie => .shortDie | _ => .flaky)
        if x.action = .none then e
        else { e with
          state := if e.healthA.bad = false then .aActive else if e.healthB.bad = false then .bActive else .concealed }
      else cellEntry s r l
    | _ => cellEntry s r l)
  lanes   : ∀ l, l < s.repair.lanes.length → laneNow t l = (match x.target, x.action, x.slot with
    | .lane l', .spareBound, some k => if l = l' then .spared k else laneNow s l
    | .lane l', .laneDark, _ => if l = l' then .dark else laneNow s l
    | _, _, _ => laneNow s l)
  slots   : (∀ l f, x.target = .lane l → .bound l f ∉ s.repair.slots) → ∀ k, k < s.repair.slots.length →
    slotNow t k = (match x.target, x.slot with
      | .lane l, some k' => if k = k' then .bound l s.store.frameCount else slotNow s k
      | _, _ => slotNow s k)
  rows    : ∀ r, r < s.repair.rows.length → rowNow t r = (match x.target, x.action with
    | .row r', .rowConceal => if r = r' then .lost else rowNow s r
    | _, _ => rowNow s r)
  track   : (∀ y ∈ s.track.suspects, y.held = none) →
    let gone (d : DieRef) : Bool := match x.target, x.action with
      | .die r l e, _ => decide (d = ⟨r, l, e⟩)
      | .lane l, .laneDark => decide (d.lane = l)
      | .row r, .rowConceal => decide (d.row = r)
      | _, _ => false
    t.track = ⟨s.track.suspects.filter fun y => !gone y.die, s.track.queue.filter fun y => !gone y.die⟩
  pulses  : ∀ r l, cellAt t.comp.pulses r l 0
    = if isVictim t r l = true ∨ isForcedOff t r l = true then 0 else cellAt s.comp.pulses r l 0
  comp    : t.comp = { s.comp with pulses := t.comp.pulses }
  repair  : t.repair = { s.repair with
    defects := t.repair.defects, seqCounter := t.repair.seqCounter, cells := t.repair.cells
    lanes := t.repair.lanes, slots := t.repair.slots, rows := t.repair.rows }
  unit    : t.unit = s.unit
  others  : SameButRepair s (t.withTrack s.track)

/-- One record of a LOAD_DEFECTS judged by the checks of R138 in their order, and applied when none refuses it: `v` is the
status it is refused with. A refused record changes nothing. -/
def RecordJudged (b : List Byte) (v : Option Byte) (s t : State) : Prop :=
  (loadRecord s b = none → v = some 4 ∧ t = s)
  ∧ ∀ x, loadRecord s b = some x →
    let held : Prop := ∃ y ∈ s.repair.defects, y.target = x.target
    let conflict : Prop := ∃ l, x.target = .lane l
      ∧ ((∃ k, x.slot = some k ∧ (k / 2 ≠ l / 24 ∨ slotNow s k ≠ .free)) ∨ .reserved l ∈ s.repair.slots)
    (held → v = some 8 ∧ t = s)
    ∧ (¬ held → conflict → v = some 9 ∧ t = s)
    ∧ (¬ held → ¬ conflict → 192 ≤ s.repair.defects.length → v = some 7 ∧ t = s)
    ∧ (¬ held → ¬ conflict → s.repair.defects.length < 192 → v = none ∧ RecordApplied x s t)

/-- The records of a LOAD_DEFECTS judged one after another, each against what the ones before it have left (R137). -/
def RecordsJudged : List Byte → List (Option Byte) → State → State → Prop
  | _, [], s, t => t = s
  | p, v :: vs, s, t => ∃ u, RecordJudged (p.take 14) v s u ∧ RecordsJudged (p.drop 14) vs u t

/-! ## Laws over the state -/

/-- Nothing the part holds is longer than the manual's bound: the queues and lists of chapters 4, 5, 7, 8, 9 and 10 (R65,
R71, R81, R111, R131, R149, R153, R154, R156, R165). A receiver in HEADER keeps the forward place it was let in with. -/
structure Capacities (s : State) : Prop where
  replies  : s.unit.replies.length ≤ 8
  upBuf    : s.link.upBuf.length ≤ 2
  downBuf  : s.link.downBuf.length ≤ 2
  header   : s.link.upRx = .header → s.link.downBuf.length < 2
  passBuf  : s.link.passBuf.length ≤ 4
  spots    : s.sense.spots.length ≤ 8
  suspects : s.track.suspects.length ≤ 32
  queue    : placesTaken s ≤ 8
  changes  : s.repair.changes.length ≤ 16
  defects  : s.repair.defects.length ≤ 192

/-- Every parameter lies in its range, and each colour's short limit lies below its open limit (R68, R167, R168). -/
structure ParamRanges (p : Params) : Prop where
  brightness   : p.brightness ≤ 255
  repeats      : p.repeats = 1 ∨ p.repeats = 2 ∨ p.repeats = 4 ∨ p.repeats = 8
  senseBudget  : 1 ≤ p.senseBudget ∧ p.senseBudget ≤ 32
  blankBudget  : 1 ≤ p.blankBudget ∧ p.blankBudget ≤ 255
  red          : p.shortLimit.red < p.openLimit.red ∧ p.openLimit.red ≤ 255
  green        : p.shortLimit.green < p.openLimit.green ∧ p.openLimit.green ≤ 255
  blue         : p.shortLimit.blue < p.openLimit.blue ∧ p.openLimit.blue ≤ 255
  confirmHits  : 2 ≤ p.confirmHits ∧ p.confirmHits ≤ 15
  flipLimit    : 2 ≤ p.flipLimit ∧ p.flipLimit ≤ 15
  concealShare : p.concealShare ≤ 255
  frameTimeout : 5 ≤ p.frameTimeout ∧ p.frameTimeout ≤ 250
  holdTime     : 1 ≤ p.holdTime ∧ p.holdTime ≤ 255
  senseTempMax : -20 ≤ p.senseTempMax ∧ p.senseTempMax ≤ 110

/-- The scan state that drive enable and a test holding the drive lines call for (R10). -/
def scanStateFor (enable held : Bool) : ScanState :=
  match enable, held with
  | false, false => .stopped
  | true, false => .scanning
  | true, true => .yielded
  | false, true => .lent

/-- The Scan Driver is in the state that R10 gives for drive enable and the tests, and it drives a row phase exactly in
SCANNING. -/
structure DriveLaw (s : State) : Prop where
  state : s.scan.state = scanStateFor (driveEnable s) (testDriving s).isSome
  phase : s.scan.phase.isSome = true ↔ s.scan.state = .scanning

/-- The timers run only where chapter 2 lets them, and a video state other than DARK is held only in RUN (R18, R21 to R23,
R25 to R28). -/
structure TimerLaw (s : State) : Prop where
  frame : s.ctl.frameTimer.isSome = true → s.ctl.mode = .run
  hold  : s.ctl.holdTimer.isSome = true ↔ s.ctl.mode = .run ∧ s.ctl.video = .holding
  blank : s.ctl.blankTimer.isSome = true ↔ s.ctl.mode = .blank
  video : s.ctl.video ≠ .dark → s.ctl.mode = .run

/-- In STANDBY nothing is in progress: no test, no window, no check, no change or decision that waits, and no spot test
that waits to be granted (R20, R67, R102, R111, R122). -/
structure StandbyQuiet (s : State) : Prop where
  test    : s.ctl.mode = .standby → s.sense.test = none
  window  : s.ctl.mode = .standby → s.sense.windowOpen = false
  check   : s.ctl.mode = .standby → s.corr.check = none
  changes : s.ctl.mode = .standby → s.repair.changes = []
  waiting : s.ctl.mode = .standby → s.repair.waiting = none
  spots   : s.ctl.mode = .standby → ∀ e ∈ s.sense.spots, e.status ≠ .waiting

/-- No two records of the Defect List have the same target (R131). -/
def OneRecordPerTarget (s : State) : Prop := (s.repair.defects.map Defect.target).Nodup

/-- The entries of a table indexed by cell lie in 0..4095. -/
def CodesFit (t : CellTable Nat) : Prop := ∀ row ∈ t, ∀ x ∈ row, x ≤ 4095

/-- A table indexed by cell has one row for each row of the tile, each of 144 entries (R3, R8). -/
def Shaped {α : Type} (s : State) (t : CellTable α) : Prop := t.length = depth s ∧ ∀ row ∈ t, row.length = 144

/-- Every pulse length and every video code lies in 0..4095, every gain in 256..2047, and every table has the size that the
tile's depth gives it (R3, R4, R8, R31, R36, R45, R46, R105, R107 to R109). -/
structure TableRanges (s : State) : Prop where
  pulses     : CodesFit s.comp.pulses ∧ Shaped s s.comp.pulses
  fill       : CodesFit s.store.fill ∧ Shaped s s.store.fill
  display    : CodesFit s.store.display ∧ Shaped s s.store.display
  gains      : (∀ g ∈ s.comp.gains, 256 ≤ g ∧ g ≤ 2047) ∧ s.comp.gains.length = 288 * depth s
  rowFlags   : s.store.rowFlags.length = depth s
  cells      : Shaped s s.repair.cells
  lanes      : s.repair.lanes.length = 144
  slots      : s.repair.slots.length = 12
  rows       : s.repair.rows.length = depth s
  traces     : s.scan.traces.length = 144

/-- Every counter of a port stops at 65535 (R150). -/
structure PortLimits (c : Counters) : Prop where
  crcErr     : c.crcErr ≤ 65535
  framingErr : c.framingErr ≤ 65535
  poisonedRx : c.poisonedRx ≤ 65535
  overrun    : c.overrun ≤ 65535
  misroute   : c.misroute ≤ 65535

/-- Every 16-bit count stops at 65535, the frame count is of 32 bits, the sequence counter and the window number are of 16,
and the addresses lie in 0..254 with the subordinate address never below the tile's own (R32, R49, R62, R115, R132, R150,
R151, R178). -/
structure CountLimits (s : State) : Prop where
  up          : PortLimits s.link.upCounts
  down        : PortLimits s.link.downCounts
  skipped     : s.store.skipped ≤ 65535
  incomplete  : s.store.incomplete ≤ 65535
  badRow      : s.store.badRow ≤ 65535
  frameCount  : s.store.frameCount < 4294967296
  lastNumber  : s.store.lastNumber < 65536
  sweeps      : s.sense.sweeps ≤ 65535
  window      : s.sense.windowNumber < 65536
  unrecorded  : s.repair.unrecorded ≤ 65535
  seqCounter  : s.repair.seqCounter < 65536
  defects     : s.unit.defectsSince ≤ 65535
  subordinate : s.link.subordinate ≤ 254
  address     : s.link.address ≤ s.link.subordinate

/-- A slot is BOUND to a lane exactly when that lane is SPARED by it (R108, first part of the law). -/
def SlotLaneLaw (s : State) : Prop :=
  ∀ k l, k < Config.spareSlots → l < Config.lanes → ((slotNow s k).boundTo l = true ↔ laneNow s l = .spared k)

end Sys2Proof.Machine
end

