-- ==== Sys2Proof/Certificates/Slice0/Obligations.lean ====
section
/-! DEFINITION. Obligations.lean: what is claimed of the model. A statement about a request row speaks of the state
`atTake kind q s`, in which the request has left the UP receive buffer; `TheTakeRemovesTheHeadMessage` says what that is. -/

open Sys2Proof Sys2Proof.Machine

/-! ## The queue of commands, and the take -/

/-- One step runs the command at the front of the queue with the rest of the queue (log 1), and idles on an empty queue
(log 1: the model's choice). -/
def Obligations.StepRunsTheFrontCommand : Prop :=
  ∀ s : State,
    (∀ i rest, s.pending = i :: rest → step s = exec i (s.withPending rest))
    ∧ (s.pending = [] → step s = .next s)

/-- Every command completes from every state: the manual stops the part nowhere, and an event whose conditions do not
hold leaves the state as it is (log 2: the model's choice). No command touches the queue of commands (log 1: the model's
choice). -/
def Obligations.EveryCommandCompletes : Prop :=
  (∀ (i : Instr) (s : State), ∃ t, exec i s = .next t)
  ∧ (∀ (i : Instr) (s t : State), exec i s = .next t → t.pending = s.pending)

/-- A good message at the head of the UP receive buffer that the Message Unit may take is taken, and its place alone is
given up (R153, R163); while it may not be taken, nothing happens and the messages behind it wait. A request that may be
answered is taken only with a free place in the Local Reply Queue, a broadcast RESET only once its forward copy has
gone, and nothing is taken while a RESET reply waits or the tile stays in a link reset (R153, R161, R163, R174). The
requests that may be answered: an addressed message with no reply marker, other than a ROW or FRAME of the right length,
and a broadcast ENUM of one byte that this tile is to answer. An addressed request given while the buffer is empty also
arrives (log 4: the model's choice): it joins the buffer for the tile's own address, or with tile address 0 is routed to
discard and charged to misroute (R152). -/
def Obligations.TheTakeRemovesTheHeadMessage : Prop :=
  (∀ (kind : Byte) (q : Request) (m : Message) (down : Bool) (rest : List RxPlace) (owner : Bool → State → State) (s : State),
      s.link.upBuf = .ready m down :: rest → isRequest kind q m = true →
      (takeable kind q down s = true →
        taken kind q s = true ∧ atTake kind q s = s.withLink { s.link with upBuf := rest }
          ∧ request kind q owner s = .next (judge kind q down (owner down) (s.withLink { s.link with upBuf := rest })))
      ∧ (takeable kind q down s = false → request kind q owner s = .next s))
  ∧ (∀ (kind : Byte) (q : Request) (down : Bool) (s : State),
      takeable kind q down s = true ↔
        s.unit.resetWaiting = false ∧ s.link.inLinkReset = false
          ∧ (mayBeAnswered kind q down = true → s.unit.replies.length < 8)
          ∧ ¬ (kind = 0x14 ∧ q.broadcast = true ∧ down = true))
  ∧ (∀ (kind : Byte) (q : Request) (down : Bool),
      mayBeAnswered kind q down = true ↔
        (q.broadcast = true ∧ kind = 0x01 ∧ q.payload.length = 1
            ∧ (byteAt q.payload 0 = 0 ∨ byteAt q.payload 0 = 255 ∨ down = false))
          ∨ (q.broadcast = false ∧ kind.getLsbD 7 = false ∧ (kind = 0x08 → q.payload.length ≠ 217)
            ∧ (kind = 0x09 → q.payload.length ≠ 2)))
  ∧ (∀ (kind : Byte) (q : Request) (owner : Bool → State → State) (s : State),
      s.link.upBuf = [] → s.link.downBuf.length < 2 → s.link.inLinkReset = false → s.link.upRx = .hunt →
      q.broadcast = false →
      (s.link.address = 0 →
        request kind q owner s
          = .next (raise .linkErrors (s.withLink { s.link with
              upCounts := { s.link.upCounts with misroute := min (s.link.upCounts.misroute + 1) 65535 } })))
      ∧ (s.link.address ≠ 0 → s.link.address ≤ 254 →
        request kind q owner s
          = request kind q owner (s.withLink { s.link with
              upBuf := [.ready ⟨BitVec.ofNat 8 s.link.address, q.src, kind, q.tag, q.payload⟩ false] })))

/-- A taken message that does not reach an owner (R164): an addressed request of a length that does not fit is answered
LENGTH, one that came as a broadcast is dropped; KIND answers an addressed message of an unknown kind; a reply-marked
one is dropped. An ENUM is left out here: it may hold a place of the down-forward buffer. -/
def Obligations.UndispatchedMessages : Prop :=
  ∀ (kind : Byte) (q : Request) (owner : Bool → State → State) (s : State), taken kind q s = true →
    (kind ≠ 0x01 → lengthFits kind q.payload.length = false → q.broadcast = false →
      request kind q owner s = .next ((atTake kind q s).replying (replyOf kind q 5 [])))
    ∧ (kind ≠ 0x01 → lengthFits kind q.payload.length = false → q.broadcast = true →
      request kind q owner s = .next (atTake kind q s))
    ∧ (q.broadcast = true → acceptsBroadcast kind = false → request kind q owner s = .next (atTake kind q s))
    ∧ (isRequestKind kind = false → hasReplyMarker kind = false →
      exec (.kindRefusal kind q) s
        = .next (if q.broadcast then atTake kind q s else (atTake kind q s).replying (replyOf kind q 6 [])))
    ∧ (hasReplyMarker kind = true → exec (.replyMarkedDrop kind q) s = .next (atTake kind q s))

/-! ## Resets -/

/-- POWER_ON_RESET and LINK_RESET put the state listed here, block by block, at its value (R17, R18, R30, R36, R46, R70,
R72, R103, R129, R142, R161, R162), sized by the straps sampled (R1). A link reset holds both go lines off. The
power-on reset takes the temperature sample, with its fault flag (R50). At a link reset both stand as they were until the
release, which takes the sample, so long as the signalling lasts (log 27: deduced); the reading that LINK_RESET brings
waits for that end (log 37: the model's choice of operand). -/
def Obligations.HardResetsLeave : Prop :=
  ∀ (straps : BitVec 2) (reading : Int) (s : State), ∃ t u,
    exec (.powerOnReset straps reading) s = .next t ∧ exec (.linkReset straps reading) s = .next u
    ∧ t.ctl = ⟨.standby, .dark, none, none, none, .power⟩ ∧ u.ctl = ⟨.standby, .dark, none, none, none, .link⟩
    ∧ t.link.inLinkReset = false ∧ u.link.inLinkReset = true ∧ upGoOut u = false ∧ downGoOut u = false
    ∧ t.sense.sample = max (-40) (min 125 reading) ∧ t.sense.sensorFault = decide (reading < -40 ∨ 125 < reading)
    ∧ u.sense.sample = s.sense.sample ∧ u.sense.sensorFault = s.sense.sensorFault ∧ u.link.releaseReading = reading
    ∧ ∀ v, v = t ∨ v = u →
      v.straps = straps ∧ depth v = (if straps = 0 then 8 else if straps = 1 then 12 else 16)
      ∧ v.link.address = 0 ∧ v.link.subordinate = 0 ∧ v.link.partner = false ∧ v.link.lastServed = .passThrough
      ∧ v.link.upRx = .hunt ∧ v.link.downRx = .hunt ∧ v.link.upBuf = [] ∧ v.link.downBuf = [] ∧ v.link.passBuf = []
      ∧ v.link.upCounts = ⟨0, 0, 0, 0, 0⟩ ∧ v.link.downCounts = ⟨0, 0, 0, 0, 0⟩
      ∧ v.link.hold = .none ∧ v.link.upTx = .idle ∧ v.link.downBusy = false
      ∧ v.scan.state = .stopped ∧ v.scan.nextRow = 0 ∧ v.scan.segments = 4 ∧ v.scan.phase = none
      ∧ (∀ l, traceSelected v l = .a)
      ∧ v.comp.gains = List.replicate (288 * depth v) 1024 ∧ v.comp.clipCount = 0
      ∧ v.comp.pulses = List.replicate (depth v) (List.replicate 144 0)
      ∧ v.store.fill = v.comp.pulses ∧ v.store.display = v.comp.pulses
      ∧ v.store.rowFlags = List.replicate (depth v) false ∧ v.store.frameCount = 0 ∧ v.store.frameSeen = false
      ∧ v.store.skipped = 0 ∧ v.store.incomplete = 0 ∧ v.store.badRow = 0
      ∧ v.sense.test = none ∧ v.sense.windowOpen = false ∧ v.sense.windowNumber = 0 ∧ v.sense.spots = []
      ∧ v.sense.hot = false ∧ v.sense.used = 0 ∧ v.sense.tried = ⟨false, false, false, false, false⟩
      ∧ v.sense.cursor = ⟨.a, 0, 0⟩ ∧ v.sense.sweeps = 0
      ∧ v.track.suspects = [] ∧ v.track.queue = [] ∧ v.corr.check = none
      ∧ v.repair.cells = List.replicate (depth v) (List.replicate 144 ⟨.aActive, .unknown, .unknown⟩)
      ∧ v.repair.lanes = List.replicate 144 .normal ∧ v.repair.slots = List.replicate 12 .free
      ∧ v.repair.rows = List.replicate (depth v) .normal
      ∧ v.repair.changes = [] ∧ v.repair.waiting = none ∧ v.repair.heldLane = none ∧ v.repair.bind = none
      ∧ v.repair.defects = [] ∧ v.repair.seqCounter = 0 ∧ v.repair.unrecorded = 0

/-- LINK_RESET_RELEASE ends a link reset (R50, R70, R161): the tile releases DOWN, asserts go on both ports (whose buffers
the link reset has emptied) and takes a temperature sample with its fault flag, of the reading that LINK_RESET brought
(log 37: the model's choice of operand); nothing else changes. With no link reset in
progress there is no such event, and nothing happens (log 2: the model's choice). DOWN_GO_ASSERTED (R148): DOWN partner
present is set, unless a chain reset hold is in progress or the tile stays in a link reset (log 12: deduced). -/
def Obligations.LinkResetEndsAndGoSetsThePartner : Prop :=
  (∀ s : State, s.link.inLinkReset = true → ∃ t, exec .linkResetRelease s = .next t
      ∧ t = (s.withLink { s.link with inLinkReset := false }).withSense { s.sense with
          sample := max (-40) (min 125 s.link.releaseReading)
          sensorFault := decide (s.link.releaseReading < -40 ∨ 125 < s.link.releaseReading) }
      ∧ (s.link.upBuf = [] → s.link.downBuf = [] → upGoOut t = true)
      ∧ (s.link.passBuf = [] → downGoOut t = true)
      ∧ (holding s = false → downAtReset t = false))
  ∧ (∀ s : State, s.link.inLinkReset = false → exec .linkResetRelease s = .next s)
  ∧ (∀ s : State, exec .downGoAsserted s
      = .next (s.withLink { s.link with partner := s.link.partner || !(s.link.inLinkReset || holding s) }))

/-- RESET (R174): an addressed one puts its reply OK at the tail and sets reset waiting, and nothing else changes; when
UP has sent that reply to its end mark, or at the take of a broadcast one, the soft reset puts the state listed here at
its value (R18, R30, R46, R50, R70, R72, R103, R122, R129, R142, R162) and keeps the straps, the gains, the addresses
and, with no change waiting, the Defect List and the maps. A message in reception is followed in SKIP, one in
transmission keeps its place, and the rest of the buffers is emptied (R162). A chain reset hold ends with no reply, and
so does an accepted CHAIN_RESET that still waits to start (log 35: the model's choice). -/
def Obligations.ResetRequestAndSoftReset : Prop :=
  ∀ (q : Request) (reading : Int) (s : State),
    (Dispatched 0x14 q s → q.broadcast = false → ∃ t, exec (.reset q reading) s = .next t
      ∧ t.unit.replies = s.unit.replies ++ [{ replyOf 0x14 q 0 [] with isReset := true }]
      ∧ t.unit = { s.unit with replies := t.unit.replies, resetWaiting := true }
      ∧ t.link = (atTake 0x14 q s).link ∧ SameTile s t)
    ∧ (∀ (base : State) (c : Instr),
        (c = .reset q reading ∧ Dispatched 0x14 q s ∧ q.broadcast = true ∧ base = atTake 0x14 q s)
          ∨ (c = .upTransmitEnd reading ∧ (∃ w, s.link.upTx = .own w true)
              ∧ base = s.withLink { s.link with upTx := .idle }) →
        ∃ t, exec c s = .next t
          ∧ t.ctl = ⟨.standby, .dark, none, none, none, .soft⟩
          ∧ t.straps = s.straps ∧ t.comp.gains = s.comp.gains
          ∧ t.link.address = s.link.address ∧ t.link.subordinate = s.link.subordinate
          ∧ t.link.upCounts = ⟨0, 0, 0, 0, 0⟩ ∧ t.link.downCounts = ⟨0, 0, 0, 0, 0⟩
          ∧ t.link.partner = false ∧ t.link.hold = .none ∧ t.link.upBuf = [] ∧ t.link.lastServed = .passThrough
          ∧ t.link.upTx = base.link.upTx
          ∧ t.link.downBuf = (if base.link.downBusy then base.link.downBuf.take 1 else [])
          ∧ t.link.passBuf = (match base.link.upTx with | .pass _ => base.link.passBuf.take 1 | _ => [])
          ∧ t.link.upRx = (match base.link.upRx with
              | .hunt => .hunt
              | .header => .skip .softReset none
              | .body h _ _ => .skip .softReset (some h)
              | .skip .overrun h => .skip .overrun h
              | .skip _ h => .skip .softReset h)
          ∧ t.link.downRx = (match base.link.downRx with
              | .hunt => .hunt
              | .header => .skip .softReset none
              | .body h _ _ => .skip .softReset (some h)
              | .skip .overrun h => .skip .overrun h
              | .skip _ h => .skip .softReset h)
          ∧ t.store.fill = List.replicate (depth s) (List.replicate 144 0) ∧ t.store.display = t.store.fill
          ∧ t.store.rowFlags = List.replicate (depth s) false ∧ t.store.frameCount = 0 ∧ t.store.frameSeen = false
          ∧ t.store.skipped = 0 ∧ t.store.incomplete = 0 ∧ t.store.badRow = 0
          ∧ t.comp.pulses = List.replicate (depth s) (List.replicate 144 0) ∧ t.comp.clipCount = 0
          ∧ t.scan.state = .stopped ∧ t.scan.nextRow = 0 ∧ t.scan.segments = s.unit.params.repeats ∧ t.scan.phase = none
          ∧ (∀ l, traceSelected t l = .a)
          ∧ t.sense.sample = max (-40) (min 125 reading) ∧ t.sense.sensorFault = decide (reading < -40 ∨ 125 < reading)
          ∧ t.sense.hot = false ∧ t.sense.used = 0 ∧ t.sense.tried = ⟨false, false, false, false, false⟩
          ∧ t.sense.sweeps = 0 ∧ t.sense.windowNumber = 0
          ∧ t.sense.test = none ∧ t.sense.spots = [] ∧ t.sense.windowOpen = false ∧ t.sense.cursor = ⟨.a, 0, 0⟩
          ∧ t.track.suspects = [] ∧ t.track.queue = [] ∧ t.corr.check = none
          ∧ t.repair.changes = [] ∧ t.repair.waiting = none ∧ t.repair.heldLane = none ∧ t.repair.bind = none
          ∧ (∀ x ∈ t.repair.slots, x.isReserved = false)
          ∧ t.repair.seqCounter = s.repair.seqCounter ∧ t.repair.unrecorded = s.repair.unrecorded
          ∧ (s.repair.changes = [] → t.repair.defects = s.repair.defects ∧ t.repair.cells = s.repair.cells
              ∧ t.repair.lanes = s.repair.lanes ∧ t.repair.rows = s.repair.rows))

/-- R175: the Message Unit's own state after each reset, with every parameter at its default of R167 after a power-on
and a link reset, and as it was after a soft reset. -/
def Obligations.MessageUnitAfterEachReset : Prop :=
  (∀ (straps : BitVec 2) (reading : Int) (s : State) (c : Instr),
      c = .powerOnReset straps reading ∨ c = .linkReset straps reading →
      ∃ t, exec c s = .next t
        ∧ t.unit = { replies := [], resetWaiting := false, params :=
            { brightness := 255, repeats := 4, senseBudget := 4, blankBudget := 64
              shortLimit := ⟨2, 2, 2⟩, openLimit := ⟨60, 90, 90⟩, confirmHits := 3, flipLimit := 4
              concealShare := 160, frameTimeout := 40, holdTime := 100, senseTempMax := 85
              walkEnable := true, walkBoth := true, policy := .auto, noticeMask := ⟨true, true, true, true, true, true, true⟩ }
                     notices := .all false, defectsSince := 0 })
  ∧ (∀ (q : Request) (reading : Int) (s : State) (c : Instr),
      (c = .upTransmitEnd reading ∧ ∃ w, s.link.upTx = .own w true)
        ∨ (c = .reset q reading ∧ Dispatched 0x14 q s ∧ q.broadcast = true) →
      ∃ t, exec c s = .next t
        ∧ t.unit = { replies := [], resetWaiting := false, params := s.unit.params, notices := .all false,
                     defectsSince := 0 })

/-! ## The link ports and the Router -/

/-- A start byte in HUNT (R145, R149): with room the message is let in and takes its places; without room it is an
overrun, followed in SKIP and charged once, and LINK_ERRORS becomes pending where its kind is enabled. -/
def Obligations.StartByteBeginsAMessageOrOverruns : Prop :=
  ∀ s : State, s.link.inLinkReset = false →
    (s.link.upRx = .hunt →
      (s.link.upBuf.length < 2 ∧ s.link.downBuf.length < 2 →
        exec (.startByteReceived .up) s
          = .next (s.withLink { s.link with upRx := .header, upBuf := s.link.upBuf ++ [.receiving] }))
      ∧ (¬ (s.link.upBuf.length < 2 ∧ s.link.downBuf.length < 2) →
        exec (.startByteReceived .up) s
          = .next (raise .linkErrors (s.withLink { s.link with
              upRx := .skip .overrun none
              upCounts := { s.link.upCounts with overrun := min (s.link.upCounts.overrun + 1) 65535 } }))))
    ∧ (s.link.downRx = .hunt → holding s = false →
      (s.link.passBuf.length < 4 →
        exec (.startByteReceived .down) s
          = .next (s.withLink { s.link with downRx := .header, passBuf := s.link.passBuf ++ [.receiving] }))
      ∧ (¬ s.link.passBuf.length < 4 →
        exec (.startByteReceived .down) s
          = .next (raise .linkErrors (s.withLink { s.link with
              downRx := .skip .overrun none
              downCounts := { s.link.downCounts with overrun := min (s.link.downCounts.overrun + 1) 65535 } }))))

/-- The sixth header byte (R145, R152): a declared length above 512 is a framing error; at UP a message for the tile's
own address stays local, one for a tile behind takes a place of the down-forward buffer, and an addressed message for
nobody here is followed in SKIP to be charged to misroute. A broadcast is local for the kinds accepted locally and, with
DOWN partner present, takes a place below, an ENUM its own kind of place. The copy goes cut-through when DOWN is idle
with go asserted and an empty buffer, and the message is no ENUM (R154): DOWN is then busy with it (log 32: the place
follows its arrival); else it is stored. Go seen here sets DOWN partner present (R148), not in a link reset or a hold
(log 12: deduced). A message followed in SKIP has its header noted, or is left at once, with no count, when its length is not
valid (R149, of an overrun; after a soft reset that is the model's choice: log 38). -/
def Obligations.HeadersAreCheckedAndRouted : Prop :=
  (∀ (h : Header) (go : Bool) (s : State),
      (512 < h.len.toNat → s.link.upRx = .header →
        exec (.headerComplete .up h go) s
          = .next (raise .linkErrors (s.withLink { s.link with
              upRx := .hunt
              upBuf := s.link.upBuf.filter (· != .receiving)
              upCounts := { s.link.upCounts with framingErr := min (s.link.upCounts.framingErr + 1) 65535 } })))
      ∧ (512 < h.len.toNat → s.link.downRx = .header →
        exec (.headerComplete .down h go) s
          = .next (raise .linkErrors (s.withLink { s.link with
              downRx := .hunt
              passBuf := s.link.passBuf.filter (· != .receiving)
              downCounts := { s.link.downCounts with framingErr := min (s.link.downCounts.framingErr + 1) 65535 } })))
      ∧ (h.len.toNat ≤ 512 → s.link.downRx = .header →
        exec (.headerComplete .down h go) s = .next (s.withLink { s.link with downRx := .body h false .none }))
      ∧ (∀ why, s.link.upRx = .skip why none →
        exec (.headerComplete .up h go) s
          = .next (s.withLink { s.link with upRx := if h.len.toNat ≤ 512 then .skip why (some h) else .hunt }))
      ∧ (∀ why, s.link.downRx = .skip why none →
        exec (.headerComplete .down h go) s
          = .next (s.withLink { s.link with downRx := if h.len.toNat ≤ 512 then .skip why (some h) else .hunt })))
  ∧ (∀ (h : Header) (go : Bool) (s : State), h.len.toNat ≤ 512 → s.link.upRx = .header →
      let partner := s.link.partner || (go && !(s.link.inLinkReset || holding s))
      let cut := go && !s.link.downBusy && s.link.downBuf.isEmpty && h.kind != 0x01
      (h.dst ≠ 255 →
        (h.dst.toNat = s.link.address → s.link.address ≠ 0 →
          exec (.headerComplete .up h go) s
            = .next (s.withLink { s.link with upRx := .body h true .none, partner := partner }))
        ∧ (s.link.address < h.dst.toNat → h.dst.toNat ≤ s.link.subordinate →
          exec (.headerComplete .up h go) s
            = .next (s.withLink { s.link with
                upRx := .body h false (if cut then .cutThrough else .stored)
                partner := partner
                upBuf := s.link.upBuf.filter (· != .receiving)
                downBuf := s.link.downBuf ++ [if cut then .cutting h else .receiving]
                downBusy := s.link.downBusy || cut }))
        ∧ (h.dst.toNat ≠ s.link.address ∨ s.link.address = 0 →
            ¬ (s.link.address < h.dst.toNat ∧ h.dst.toNat ≤ s.link.subordinate) →
          exec (.headerComplete .up h go) s
            = .next (s.withLink { s.link with
                upRx := .skip .misroute (some h)
                partner := partner
                upBuf := s.link.upBuf.filter (· != .receiving) })))
      ∧ (h.dst = 255 →
        exec (.headerComplete .up h go) s
          = .next (s.withLink { s.link with
              upRx := .body h (acceptsBroadcast h.kind)
                (if !partner then .none else if h.kind = 0x01 then .enumPlace else if cut then .cutThrough else .stored)
              partner := partner
              upBuf := if acceptsBroadcast h.kind then s.link.upBuf else s.link.upBuf.filter (· != .receiving)
              downBuf := s.link.downBuf ++ (if !partner then [] else
                [if h.kind = 0x01 then .enumSlot else if cut then .cutting h else .receiving])
              downBusy := s.link.downBusy || (partner && cut) })))

/-- The end mark at UP (R147, R153 to R155): a good message stays in its place for the Message Unit, waiting for its
forward copy where it has one, and its stored copy is ready, or its cut-through copy ends with 0x5A; a bad one gives up
its places, an ENUM's too, its cut-through copy ends with 0xA9, and it is charged once: poisoned for 0xA9, CRC after
0x5A, else framing. The end of a message followed in SKIP (R149, R152, R162): an overrun is charged no more, a good
misrouted one is charged to misroute and a bad one by its end, and one cut off by a soft reset is charged nothing while
its cut-through copy ends as its arrival does. The end mark at DOWN (R147, R156, R159): a good message is ready to go
up, and an ENUM reply whose last lies in own..254 sets the subordinate address of a tile that has an address; a bad one
gives up its place and is charged to DOWN. -/
def Obligations.EndMarksAreClassified : Prop :=
  (∀ (h : Header) (toTile : Bool) (fwd : Forward) (payload : List Byte) (crc : Word16) (mark : Byte) (s : State),
      s.link.upRx = .body h toTile fwd → payload.length = h.len.toNat →
      (mark = 0x5A → crc = messageCrc h payload →
        exec (.messageReceived .up payload crc mark) s
          = .next (s.withLink { s.link with
              upRx := .hunt
              upBuf := if toTile then
                  s.link.upBuf.map fun p =>
                    if p = .receiving then .ready ⟨h.dst, h.src, h.kind, h.tag, payload⟩ (decide (fwd ≠ .none)) else p
                else s.link.upBuf
              downBuf := match fwd with
                | .none => s.link.downBuf
                | .enumPlace => s.link.downBuf
                | .stored => s.link.downBuf.map fun p =>
                    if p = .receiving then .ready ⟨⟨h.dst, h.src, h.kind, h.tag, payload⟩, crc, 0x5A⟩ else p
                | .cutThrough => s.link.downBuf.map fun p =>
                    match p with
                    | .cutting _ => .ready ⟨⟨h.dst, h.src, h.kind, h.tag, payload⟩, crc, 0x5A⟩
                    | _ => p }))
      ∧ (¬ (mark = 0x5A ∧ crc = messageCrc h payload) →
        exec (.messageReceived .up payload crc mark) s
          = .next (raise .linkErrors (s.withLink { s.link with
              upRx := .hunt
              upBuf := s.link.upBuf.filter (· != .receiving)
              downBuf := match fwd with
                | .none => s.link.downBuf
                | .enumPlace => (s.link.downBuf.reverse.erase .enumSlot).reverse
                | .stored => s.link.downBuf.filter (· != .receiving)
                | .cutThrough => s.link.downBuf.map fun p =>
                    match p with
                    | .cutting _ => .ready ⟨⟨h.dst, h.src, h.kind, h.tag, payload⟩, crc, 0xA9⟩
                    | _ => p
              upCounts := chargedBad mark s.link.upCounts }))))
  ∧ (∀ (h : Header) (payload : List Byte) (crc : Word16) (mark : Byte) (s : State), payload.length = h.len.toNat →
      (s.link.upRx = .skip .overrun (some h) →
        exec (.messageReceived .up payload crc mark) s = .next (s.withLink { s.link with upRx := .hunt }))
      ∧ (s.link.upRx = .skip .misroute (some h) →
        exec (.messageReceived .up payload crc mark) s
          = .next (raise .linkErrors (s.withLink { s.link with
              upRx := .hunt
              upCounts := if mark = 0x5A ∧ crc = messageCrc h payload then
                  { s.link.upCounts with misroute := min (s.link.upCounts.misroute + 1) 65535 }
                else chargedBad mark s.link.upCounts })))
      ∧ (s.link.upRx = .skip .softReset (some h) →
        exec (.messageReceived .up payload crc mark) s
          = .next (s.withLink { s.link with
              upRx := .hunt
              downBuf := s.link.downBuf.map fun p =>
                match p with
                | .cutting _ => .ready ⟨⟨h.dst, h.src, h.kind, h.tag, payload⟩, crc,
                    if mark = 0x5A ∧ crc = messageCrc h payload then 0x5A else 0xA9⟩
                | _ => p })))
  ∧ (∀ (h : Header) (payload : List Byte) (crc : Word16) (mark : Byte) (s : State), payload.length = h.len.toNat →
      (s.link.downRx = .body h false .none → mark = 0x5A → crc = messageCrc h payload →
        exec (.messageReceived .down payload crc mark) s
          = .next (s.withLink { s.link with
              downRx := .hunt
              passBuf := s.link.passBuf.map fun p =>
                if p = .receiving then .ready ⟨⟨h.dst, h.src, h.kind, h.tag, payload⟩, crc, 0x5A⟩ else p
              subordinate :=
                if h.kind = 0x81 ∧ 2 ≤ payload.length ∧ s.link.address ≠ 0 ∧ s.link.address ≤ (payload.getD 1 0).toNat
                    ∧ (payload.getD 1 0).toNat ≤ 254
                then (payload.getD 1 0).toNat else s.link.subordinate }))
      ∧ (s.link.downRx = .body h false .none → ¬ (mark = 0x5A ∧ crc = messageCrc h payload) →
        exec (.messageReceived .down payload crc mark) s
          = .next (raise .linkErrors (s.withLink { s.link with
              downRx := .hunt
              passBuf := s.link.passBuf.filter (· != .receiving)
              downCounts := chargedBad mark s.link.downCounts })))
      ∧ (∀ why, s.link.downRx = .skip why (some h) →
        exec (.messageReceived .down payload crc mark) s = .next (s.withLink { s.link with downRx := .hunt })))

/-- A gap inside a message (R146, R154, R155): the receiver returns to HUNT with a framing error charged and its places
given up, an ENUM's too, and a cut-through copy is padded to its declared length and poisoned. In SKIP a misrouted
message is charged the framing error, an overrun or one cut off by a soft reset nothing, and the cut-through copy of the
last is padded and poisoned (R149, R152, R162). In HUNT a gap does nothing. -/
def Obligations.GapEndsTheMessage : Prop :=
  ∀ (received : List Byte) (s : State),
    (∀ (h : Header) (toTile : Bool) (fwd : Forward), s.link.upRx = .body h toTile fwd →
      exec (.gapTimeout .up received) s
        = .next (raise .linkErrors (s.withLink { s.link with
            upRx := .hunt
            upBuf := s.link.upBuf.filter (· != .receiving)
            downBuf := match fwd with
              | .none => s.link.downBuf
              | .enumPlace => (s.link.downBuf.reverse.erase .enumSlot).reverse
              | .stored => s.link.downBuf.filter (· != .receiving)
              | .cutThrough => s.link.downBuf.map fun p =>
                  match p with
                  | .cutting _ => .ready ⟨⟨h.dst, h.src, h.kind, h.tag,
                      (received ++ List.replicate h.len.toNat 0).take h.len.toNat⟩, 0, 0xA9⟩
                  | _ => p
            upCounts := { s.link.upCounts with framingErr := min (s.link.upCounts.framingErr + 1) 65535 } })))
    ∧ (s.link.upRx = .header →
      exec (.gapTimeout .up received) s
        = .next (raise .linkErrors (s.withLink { s.link with
            upRx := .hunt
            upBuf := s.link.upBuf.filter (· != .receiving)
            upCounts := { s.link.upCounts with framingErr := min (s.link.upCounts.framingErr + 1) 65535 } })))
    ∧ (∀ x, s.link.upRx = .skip .misroute x →
      exec (.gapTimeout .up received) s
        = .next (raise .linkErrors (s.withLink { s.link with
            upRx := .hunt
            upCounts := { s.link.upCounts with framingErr := min (s.link.upCounts.framingErr + 1) 65535 } })))
    ∧ (∀ x, s.link.upRx = .skip .overrun x ∨ (x = none ∧ s.link.upRx = .skip .softReset none) →
      exec (.gapTimeout .up received) s = .next (s.withLink { s.link with upRx := .hunt }))
    ∧ (∀ h, s.link.upRx = .skip .softReset (some h) →
      exec (.gapTimeout .up received) s
        = .next (s.withLink { s.link with
            upRx := .hunt
            downBuf := s.link.downBuf.map fun p =>
              match p with
              | .cutting _ => .ready ⟨⟨h.dst, h.src, h.kind, h.tag,
                  (received ++ List.replicate h.len.toNat 0).take h.len.toNat⟩, 0, 0xA9⟩
              | _ => p }))
    ∧ (s.link.downRx = .header ∨ (∃ h b f, s.link.downRx = .body h b f) →
      exec (.gapTimeout .down received) s
        = .next (raise .linkErrors (s.withLink { s.link with
            downRx := .hunt
            passBuf := s.link.passBuf.filter (· != .receiving)
            downCounts := { s.link.downCounts with framingErr := min (s.link.downCounts.framingErr + 1) 65535 } })))
    ∧ (∀ why x, s.link.downRx = .skip why x →
      exec (.gapTimeout .down received) s = .next (s.withLink { s.link with downRx := .hunt }))
    ∧ (s.link.upRx = .hunt → exec (.gapTimeout .up received) s = .next s)
    ∧ (s.link.downRx = .hunt → exec (.gapTimeout .down received) s = .next s)

/-- UP_TRANSMIT_START (R157, R165, R177): with UP idle and go asserted, the tile's oldest reply, or with no reply its
most urgent notice, or the oldest ready message from behind is begun; when both sources are ready the one not served
last is. UP_TRANSMIT_END (R156, R165): the transmitter becomes idle, and a message from behind gives up its place. -/
def Obligations.UpTransmitterServesInTurn : Prop :=
  (∀ s : State, s.link.upTx = .idle → s.link.inLinkReset = false →
      (∀ r rest, s.unit.replies = r :: rest → passReady s = none ∨ s.link.lastServed = .passThrough →
        exec (.upTransmitStart true) s
          = .next ((s.withUnit { s.unit with replies := rest }).withLink { s.link with
              upTx := .own (formed ⟨r.dst, BitVec.ofNat 8 s.link.address, r.kind, r.tag, r.payload⟩) r.isReset
              lastServed := .ownTraffic }))
      ∧ (∀ k, s.unit.replies = [] → s.unit.notices.highest = some k →
          passReady s = none ∨ s.link.lastServed = .passThrough →
        exec (.upTransmitStart true) s
          = .next ((s.withUnit { s.unit with
                notices := s.unit.notices.set k false
                defectsSince := if k = .defect then 0 else s.unit.defectsSince }).withLink { s.link with
              upTx := .own (formed ⟨0, BitVec.ofNat 8 s.link.address, noticeCode k ||| 0x80, 0, noticePayload k s⟩) false
              lastServed := .ownTraffic }))
      ∧ (∀ w, passReady s = some w →
          (s.unit.replies = [] ∧ s.unit.notices.highest = none) ∨ s.link.lastServed = .ownTraffic →
        exec (.upTransmitStart true) s
          = .next (s.withLink { s.link with upTx := .pass w, lastServed := .passThrough }))
      ∧ exec (.upTransmitStart false) s = .next s)
  ∧ (∀ (reading : Int) (w : Wire) (s : State),
      (s.link.upTx = .own w false →
        exec (.upTransmitEnd reading) s = .next (s.withLink { s.link with upTx := .idle }))
      ∧ (s.link.upTx = .pass w →
        exec (.upTransmitEnd reading) s
          = .next (s.withLink { s.link with upTx := .idle, passBuf := s.link.passBuf.tail })))

/-- DOWN_TRANSMIT_START and DOWN_TRANSMIT_END (R148, R153, R154): the oldest message of the down-forward buffer is begun
when it is ready, and gives up its place at its end mark. Where that message is the forward copy of a broadcast RESET,
the first RESET of the UP receive buffer that still waits is released, unless every RESET that waits has a copy of its
own still to go (a soft reset has discarded the RESET of the copy just sent). -/
def Obligations.DownTransmitterServesInOrder : Prop :=
  ∀ (w : Wire) (rest : List FwdPlace) (s : State), s.link.downBuf = .ready w :: rest →
    s.link.inLinkReset = false → s.link.hold = .none →
    (s.link.downBusy = false →
      exec (.downTransmitStart true) s = .next (s.withLink { s.link with partner := true, downBusy := true }))
    ∧ (s.link.downBusy = false → exec (.downTransmitStart false) s = .next s)
    ∧ (s.link.downBusy = true →
      let waits (p : RxPlace) : Bool := match p with | .ready m true => m.dst == 255 && m.kind == 0x14 | _ => false
      let copy (p : FwdPlace) : Bool := match p with | .ready w => w.msg.dst == 255 && w.msg.kind == 0x14 | _ => false
      (¬ (w.msg.dst = 255 ∧ w.msg.kind = 0x14) ∨ s.link.upBuf.countP waits ≤ rest.countP copy →
        exec .downTransmitEnd s = .next (s.withLink { s.link with downBusy := false, downBuf := rest }))
      ∧ (∀ before m after, w.msg.dst = 255 → w.msg.kind = 0x14 → rest.countP copy < s.link.upBuf.countP waits →
          s.link.upBuf = before ++ .ready m true :: after → waits (.ready m true) = true → (∀ p ∈ before, waits p = false) →
        exec .downTransmitEnd s
          = .next (s.withLink { s.link with
              downBusy := false
              downBuf := rest
              upBuf := before ++ .ready m false :: after })))

/-- ENUM (R158): every row of its table, and the addressed ENUM. -/
def Obligations.EnumAssignsAddresses : Prop :=
  ∀ (q : Request) (n : Byte) (s : State), Dispatched 0x01 q s → q.payload = [n] →
    (q.broadcast = true → 1 ≤ n.toNat → n.toNat ≤ 254 → headDown (present 0x01 q s) = true →
      exec (.enum q) s = .next ((atTake 0x01 q s).withLink { (atTake 0x01 q s).link with
        address := n.toNat
        subordinate := n.toNat
        downBuf := fillEnumSlot (formed ⟨255, n, 0x01, q.tag, [n + 1]⟩) (atTake 0x01 q s).link.downBuf }))
    ∧ (q.broadcast = true → 1 ≤ n.toNat → n.toNat ≤ 254 → headDown (present 0x01 q s) = false →
      exec (.enum q) s = .next (((atTake 0x01 q s).withLink { (atTake 0x01 q s).link with
        address := n.toNat
        subordinate := n.toNat }).replying (replyOf 0x01 q 0 [n])))
    ∧ (q.broadcast = true → n = 0 ∨ n = 255 →
      exec (.enum q) s = .next (((atTake 0x01 q s).withLink { (atTake 0x01 q s).link with
        address := 0
        subordinate := 0
        downBuf := if headDown (present 0x01 q s) then (atTake 0x01 q s).link.downBuf.erase .enumSlot
          else (atTake 0x01 q s).link.downBuf }).replying (replyOf 0x01 q 4 [if n = 0 then 0 else 254])))
    ∧ (q.broadcast = false →
      exec (.enum q) s
        = .next ((atTake 0x01 q s).replying (replyOf 0x01 q 4 [BitVec.ofNat 8 s.link.address])))

/-- CHAIN_RESET (R160): refused BUSY while a hold stands, one that waits to start included (log 14: deduced); otherwise
it waits for a busy DOWN transmitter, and starts the hold on an idle one, as CHAIN_RESET_HOLD_START does once it is
idle; at the end of the hold the reply OK enters. -/
def Obligations.ChainResetHoldsTheLineBelow : Prop :=
  ∀ (q : Request) (s : State),
    (Dispatched 0x15 q s →
      (s.link.hold ≠ .none →
        exec (.chainReset q) s = .next ((atTake 0x15 q s).replying (replyOf 0x15 q 2 [])))
      ∧ (s.link.hold = .none → s.link.downBusy = true →
        exec (.chainReset q) s
          = .next ((atTake 0x15 q s).withLink { (atTake 0x15 q s).link with hold := .waiting q.src q.tag }))
      ∧ (s.link.hold = .none → s.link.downBusy = false → ∃ t, exec (.chainReset q) s = .next t
          ∧ t.link.hold = .holding q.src q.tag 2 ∧ t.link.downBuf = [] ∧ t.link.partner = false
          ∧ t.link.subordinate = s.link.address ∧ t.link.address = s.link.address ∧ t.link.downRx = .hunt
          ∧ t.link.upTx = s.link.upTx ∧ t.link.upRx = s.link.upRx.withoutForward
          ∧ t.link.upBuf = (atTake 0x15 q s).link.upBuf.map RxPlace.withoutForward
          ∧ t.link.upCounts = s.link.upCounts ∧ t.link.downCounts = s.link.downCounts
          ∧ t.link.lastServed = s.link.lastServed
          ∧ downAtReset t = true ∧ t.unit = s.unit ∧ SameTile s t))
    ∧ (∀ src tag, s.link.hold = .waiting src tag → s.link.downBusy = false →
        ∃ t, exec .chainResetHoldStart s = .next t
          ∧ t.link.hold = .holding src tag 2 ∧ t.link.downBuf = [] ∧ t.link.partner = false
          ∧ t.link.subordinate = s.link.address ∧ t.link.address = s.link.address ∧ t.link.downRx = .hunt
          ∧ t.link.upTx = s.link.upTx ∧ t.link.upRx = s.link.upRx.withoutForward
          ∧ t.link.upBuf = s.link.upBuf.map RxPlace.withoutForward
          ∧ t.link.upCounts = s.link.upCounts ∧ t.link.downCounts = s.link.downCounts
          ∧ t.link.lastServed = s.link.lastServed
          ∧ t.link.passBuf = s.link.passBuf.filter (· != .receiving) ∧ t.unit = s.unit ∧ SameTile s t)
    ∧ (∀ src tag ms, s.link.hold = .holding src tag ms →
        (s.unit.replies.length < 8 →
          exec .chainResetHoldEnd s
            = .next ((s.withLink { s.link with hold := .none }).replying ⟨src, 0x95, tag, [0], false⟩))
        ∧ (¬ s.unit.replies.length < 8 →
          exec .chainResetHoldEnd s
            = .next (s.withLink { s.link with hold := .due ⟨src, 0x95, tag, [0], false⟩ })))

/-- DEFERRED_REPLY_ENTER (R66, R67, R127, R166): with a free place in the Local Reply Queue the reply that a holder keeps
enters, and its holder lets it go; with none it waits. The entries of the Spot Test Queue that are DONE or ABORTED leave it
from the head, in order, as far as there are free places: a DONE one with its result, t, hot and suspect effect, an ABORTED
one with status ABORTED and zeros; an entry behind a WAITING one stays. -/
def Obligations.DeferredRepliesEnter : Prop :=
  ∀ s : State,
    (∀ (due rest : List SpotEntry), s.sense.spots = due ++ rest → (∀ e ∈ due, e.status ≠ .waiting) →
        (∀ e, rest.head? = some e → e.status = .waiting) →
      exec (.deferredReplyEnter .spotTest) s
        = .next ((s.withSense { s.sense with spots := due.drop (8 - s.unit.replies.length) ++ rest }).withUnit
            { s.unit with replies := s.unit.replies ++ (due.take (8 - s.unit.replies.length)).map dueReply }))
    ∧ (s.unit.replies.length < 8 →
      (∀ b r, s.repair.bind = some b → b.stage = .ended r →
        exec (.deferredReplyEnter .manualBind) s
          = .next ((s.withRepair { s.repair with bind := none }).replying r))
      ∧ (∀ r, s.link.hold = .due r →
        exec (.deferredReplyEnter .chainHold) s = .next ((s.withLink { s.link with hold := .none }).replying r)))
    ∧ (¬ s.unit.replies.length < 8 → ∀ x, exec (.deferredReplyEnter x) s = .next s)

/-! ## Notices, parameters and reads -/

/-- An event of a notice kind (R176): its flag is set where `notice_mask` enables the kind and left as it is elsewhere;
no other flag and nothing else of the part changes. The priority of the seven kinds and their codes (R177), and what
each notice carries when it is sent (R178, 11.2): the policy and the newest WIDE record, the LOST rows, the slots and
the DARK lanes, the count since the last DEFECT notice and the newest record, the lists that are full with the
unrecorded count, the mode and the video state, and the nine link counters. An absent record is all zeros. -/
def Obligations.NoticesAreRaisedAndCarryTheState : Prop :=
  (∀ (k j : NoticeKind) (s : State),
    (raise k s).unit.notices.get j
        = (s.unit.notices.get j || (decide (j = k) && s.unit.params.noticeMask.get k))
    ∧ (raise k s) = s.withUnit { s.unit with notices := (raise k s).unit.notices })
  ∧ (∀ order : List NoticeKind, order = [.wideFault, .rowLost, .laneEvent, .defect, .listFull, .videoState, .linkErrors] →
      order.map noticeCode = [0x40, 0x41, 0x42, 0x43, 0x44, 0x45, 0x46]
      ∧ ∀ (f : NoticeFlags),
        (∀ k, f.highest = some k ↔ f.get k = true ∧ ∀ j, order.idxOf j < order.idxOf k → f.get j = false)
        ∧ (f.highest = none ↔ ∀ k, f.get k = false))
  ∧ (∀ s : State,
      (∀ before d after, s.repair.defects = before ++ d :: after → d.kind = .wide → (∀ x ∈ after, x.kind ≠ .wide) →
        noticePayload .wideFault s
          = (match s.unit.params.policy with | .auto => 0 | .advise => 1 | .suspended => 2) :: 1 :: defectBytes d)
      ∧ ((∀ x ∈ s.repair.defects, x.kind ≠ .wide) →
        noticePayload .wideFault s
          = (match s.unit.params.policy with | .auto => 0 | .advise => 1 | .suspended => 2) :: List.replicate 15 0)
      ∧ (noticePayload .rowLost s).length = 2
      ∧ (∀ r, r < 16 → ((noticePayload .rowLost s).getD (r / 8) 0).getLsbD (r % 8) = decide (rowNow s r = .lost))
      ∧ (∃ dark : List Byte, noticePayload .laneEvent s = (s.repair.slots.map slotBytes).flatten ++ dark ∧ dark.length = 18
        ∧ ∀ l, l < 144 → (dark.getD (l / 8) 0).getLsbD (l % 8) = decide (laneNow s l = .dark))
      ∧ (∀ before d, s.repair.defects = before ++ [d] →
        noticePayload .defect s = le16 s.unit.defectsSince ++ 1 :: defectBytes d)
      ∧ (s.repair.defects = [] → noticePayload .defect s = le16 s.unit.defectsSince ++ List.replicate 15 0)
      ∧ (∃ flags : Byte, noticePayload .listFull s = flags :: le16 s.repair.unrecorded
        ∧ (∀ i, i < 8 → flags.getLsbD i
            = ([decide (32 ≤ s.track.suspects.length),
                decide (8 ≤ s.track.queue.length + if s.corr.check.isSome then 1 else 0),
                decide (16 ≤ s.repair.changes.length), decide (192 ≤ s.repair.defects.length)].getD i false)))
      ∧ noticePayload .videoState s
          = [match s.ctl.mode with | .standby => 0 | .run => 1 | .blank => 2,
             if s.ctl.mode = .run then (match s.ctl.video with | .dark => 0 | .live => 1 | .holding => 2) else 0]
      ∧ noticePayload .linkErrors s
          = ([s.link.upCounts.crcErr, s.link.upCounts.framingErr, s.link.upCounts.poisonedRx, s.link.upCounts.overrun,
              s.link.upCounts.misroute, s.link.downCounts.crcErr, s.link.downCounts.framingErr,
              s.link.downCounts.poisonedRx, s.link.downCounts.overrun].map le16).flatten)

/-- The records of 11.4 (R181), field by field at their offsets: a defect record of 14 bytes, a suspect record of 20, a
fault descriptor of 10, a slot record of 7, the check record of 32, all zeros with no check, and the cell byte. A defect
record whose fields R130 and R138 allow reads back as a loaded record with the same fields, and no record that they
forbid is read from any bytes. -/
def Obligations.RecordsAreLaidOutAsTheFormatsSay : Prop :=
  (∀ (x : Defect) (p : List Byte), p = defectBytes x →
    p.length = 14 ∧ le16At p 0 = x.seq % 65536
    ∧ [byteAt p 2, byteAt p 3, byteAt p 4, byteAt p 5]
        = (match x.target with
          | .die r l d => [0, r % 256, l % 256, match d with | .a => 0 | .b => 1]
          | .lane l => [1, 0, l % 256, 0]
          | .row r => [2, r % 256, 0, 0]
          | .cell r l => [3, r % 256, l % 256, 0])
    ∧ byteAt p 6 = (match x.kind with
          | .openDie => 0 | .shortDie => 1 | .intermittent => 2 | .laneDead => 3 | .rowDead => 4 | .wide => 5 | .manual => 6)
    ∧ byteAt p 7 = (match x.action with
          | .none => 0 | .dieSwap => 1 | .conceal => 2 | .spareBound => 3 | .laneDark => 4 | .rowConceal => 5
          | .selectA => 6 | .selectB => 7 | .forceOff => 8)
    ∧ byteAt p 8 = (match x.slot with | some k => k % 256 | none => 255)
    ∧ byteAt p 9 = (if x.verifyFailed then 1 else 0) + (if x.hotSeen then 2 else 0)
        + 4 * (match x.origin with | .sensed => 0 | .manual => 1 | .loaded => 2)
    ∧ le16At p 10 = x.frame % 65536
    ∧ (-32768 ≤ x.temp → x.temp < 32768 → signed16 (le16At p 12) = x.temp))
  ∧ (∀ (x : Defect) (s : State),
      (RecordFits (depth s) x → x.frame < 65536 →
        loadRecord s (defectBytes x) = some { x with seq := 0, origin := .loaded })
      ∧ (∀ b y, loadRecord s b = some y → RecordFits (depth s) y))
  ∧ (∀ (x : Suspect) (p : List Byte), p = suspectBytes x →
    p.length = 20 ∧ byteAt p 0 = x.die.row % 256 ∧ byteAt p 1 = x.die.lane % 256
    ∧ byteAt p 2 = (match x.die.die with | .a => 0 | .b => 1)
    ∧ byteAt p 3 = (if x.held.isSome then 1 else 0) + (if x.lastWindow.isSome then 2 else 0)
    ∧ byteAt p 4 = (match x.kind with | .openDie => 0 | .shortDie => 1)
    ∧ byteAt p 5 = x.hits % 256 ∧ byteAt p 6 = x.passes % 256 ∧ byteAt p 7 = x.flips % 256
    ∧ le16At p 8 + 65536 * le16At p 10 = x.createdFrame % 4294967296
    ∧ le16At p 12 = (match x.lastWindow with | some w => w % 65536 | none => 0)
    ∧ byteAt p 14 = (match x.held with
          | some h => (match h.kind with | .openDie => 0 | .shortDie => 1 | .intermittent => 2) | none => 255)
    ∧ byteAt p 15 = (match x.held with | some h => h.order % 256 | none => 255)
    ∧ le16At p 16 + 65536 * le16At p 18 = (match x.held with | some h => h.frame % 4294967296 | none => 0))
  ∧ (∀ (x : Descriptor) (p : List Byte), p = descriptorBytes x →
    p.length = 10 ∧ byteAt p 0 = x.die.row % 256 ∧ byteAt p 1 = x.die.lane % 256
    ∧ byteAt p 2 = (match x.die.die with | .a => 0 | .b => 1)
    ∧ byteAt p 3 = (match x.kind with | .openDie => 0 | .shortDie => 1 | .intermittent => 2)
    ∧ byteAt p 4 = x.hits % 256 ∧ byteAt p 5 = x.flips % 256
    ∧ le16At p 6 + 65536 * le16At p 8 = x.frame % 4294967296)
  ∧ (∀ (x : SlotState) (p : List Byte), p = slotBytes x →
    p.length = 7
    ∧ [byteAt p 0, byteAt p 1, byteAt p 2]
        = (match x with
          | .free => [0, 255, 255]
          | .reserved l => [1, l % 256, l % 3]
          | .bound l _ => [2, l % 256, l % 3]
          | .failed => [3, 255, 255])
    ∧ le16At p 3 + 65536 * le16At p 5 = (match x with | .bound _ f => f % 4294967296 | _ => 0))
  ∧ checkBytes none = List.replicate 32 0
  ∧ (∀ (c : Check) (p : List Byte), p = checkBytes (some c) → c.probes.length = 4 →
    p.length = 32 ∧ byteAt p 0 = (if c.verify.isSome then 2 else 1)
    ∧ byteAt p 1 = c.die.row % 256 ∧ byteAt p 2 = c.die.lane % 256 ∧ byteAt p 3 = (match c.die.die with | .a => 0 | .b => 1)
    ∧ byteAt p 4 = (if c.hotSeen then 1 else 0)
    ∧ (∀ (n : Nat) (x : Probe), c.probes[n]? = some x →
        [byteAt p (5 * n + 5), byteAt p (5 * n + 6), byteAt p (5 * n + 7), byteAt p (5 * n + 8), byteAt p (5 * n + 9)]
          = (match x.target with
              | some d => [1, d.row % 256, d.lane % 256, match d.die with | .a => 0 | .b => 1]
              | none => [0, 0, 0, 0])
            ++ [match x.result with | .pending => 0 | .pass => 1 | .fail => 2])
    ∧ [byteAt p 25, byteAt p 26, byteAt p 27, byteAt p 28, byteAt p 29, byteAt p 30, byteAt p 31]
        = (match c.verify with
          | none => [255, 0, 0, 0, 0, 255, 255]
          | some v => [v.slot % 256, v.die.row % 256, v.die.lane % 256, match v.die.die with | .a => 0 | .b => 1,
              v.tried.length % 256, (match v.tried[0]? with | some k => k % 256 | none => 255),
              (match v.tried[1]? with | some k => k % 256 | none => 255)]))
  ∧ (∀ e : CellEntry,
      let health (h : Health) : Nat := match h with
        | .unknown => 0 | .good => 1 | .openDie => 2 | .shortDie => 3 | .flaky => 4
      (cellByte e).toNat = (match e.state with | .aActive => 0 | .bActive => 1 | .concealed => 2 | .forcedOff => 3)
        + 4 * health e.healthA + 32 * health e.healthB)

/-- IDENT (R170): answered OK with the part code, the revision, the strap, D, the two addresses and the reset cause; it
changes nothing. STATUS (R171): its reply is 36 bytes long and every field stands at its offset of 11.5; it changes
nothing. CLEAR_COUNTS (R150, R173): the nine link counters become 0 and nothing else, and an addressed one is answered
OK. -/
def Obligations.InformationRequestsAreAnswered : Prop :=
  (∀ (q : Request) (s : State), Dispatched 0x02 q s →
        exec (.ident q) s = .next ((atTake 0x02 q s).replying (replyOf 0x02 q 0
          [0x60, 0x08, 1, s.straps.setWidth 8, BitVec.ofNat 8 (depth s), BitVec.ofNat 8 s.link.address,
            BitVec.ofNat 8 s.link.subordinate, match s.ctl.cause with | .power => 0 | .link => 1 | .soft => 2])))
  ∧ (∀ (q : Request) (s : State), Dispatched 0x03 q s → ∃ p : List Byte,
        exec (.status q) s = .next ((atTake 0x03 q s).replying ⟨q.src, 0x83, q.tag, p, false⟩)
        ∧ p.length = 36 ∧ byteAt p 0 = 0
        ∧ byteAt p 1 = (match s.ctl.mode with | .standby => 0 | .run => 1 | .blank => 2)
        ∧ byteAt p 2 = (if s.ctl.mode = .run then (match s.ctl.video with | .dark => 0 | .live => 1 | .holding => 2) else 0)
        ∧ byteAt p 3 = (match s.ctl.cause with | .power => 0 | .link => 1 | .soft => 2)
        ∧ byteAt p 4 = s.link.address % 256 ∧ byteAt p 5 = s.link.subordinate % 256 ∧ byteAt p 6 = depth s
        ∧ (-32768 ≤ s.sense.sample → s.sense.sample < 32768 → signed16 (le16At p 7) = s.sense.sample)
        ∧ byteAt p 9 = (if s.sense.sensorFault then 1 else 0)
        ∧ le16At p 10 + 65536 * le16At p 12 = s.store.frameCount % 4294967296
        ∧ le16At p 14 = s.store.incomplete % 65536 ∧ le16At p 16 = s.store.skipped % 65536
        ∧ le16At p 18 = s.store.badRow % 65536 ∧ le16At p 20 = s.comp.clipCount % 65536
        ∧ byteAt p 22 = s.track.suspects.length % 256 ∧ byteAt p 23 = s.track.queue.length % 256
        ∧ byteAt p 24 = (match s.corr.check with | none => 0 | some c => if c.verify.isSome then 2 else 1)
        ∧ byteAt p 25 = s.repair.changes.length % 256 ∧ byteAt p 26 = s.repair.defects.length % 256
        ∧ byteAt p 27 = (s.repair.slots.countP (· == .free)) % 256
        ∧ byteAt p 28 = (match s.unit.params.policy with | .auto => 0 | .advise => 1 | .suspended => 2)
        ∧ le16At p 29 = s.repair.unrecorded % 65536 ∧ le16At p 31 = s.sense.sweeps % 65536
        ∧ byteAt p 33 = (match s.sense.cursor.pass with | .a => 0 | .b => 1)
        ∧ byteAt p 34 = s.sense.cursor.row % 256 ∧ byteAt p 35 = s.sense.cursor.lane % 256)
  ∧ (∀ (q : Request) (s : State), Dispatched 0x13 q s →
        exec (.clearCounts q) s = .next
          (let u := (atTake 0x13 q s).withLink { (atTake 0x13 q s).link with
              upCounts := ⟨0, 0, 0, 0, 0⟩, downCounts := ⟨0, 0, 0, 0, 0⟩ }
           if q.broadcast then u else u.replying (replyOf 0x13 q 0 [])))

/-- SET_PARAM with one pair (R168, R68), for each of the 20 ids: a value in range is stored with status OK, one outside
a range as the nearer end with status CLAMPED, and an unknown id, a limit that would break the order of its colour and a
code that names nothing are refused FIELD with index 0 and store nothing; `notice_mask` clears the pending flags of the
kinds it disables (R176). SET_PARAM with several pairs (R168): each pair is applied to what the pairs before it have
left; the status is FIELD when any pair was refused, else CLAMPED when any was clamped, else OK, with the index of the
first pair refused, or 0xFF. -/
def Obligations.SetParamStoresPairsInOrder : Prop :=
  (∀ (q : Request) (id lo hi : Byte) (s : State), Dispatched 0x04 q s → q.payload = [id, lo, hi] →
      let v := lo.toNat + 256 * hi.toNat
      let u := atTake 0x04 q s
      let stored (x : Byte) (p : Params) (n : NoticeFlags) : Host.Outcome State Fault Refusal :=
        .next (let w := u.withUnit { u.unit with params := p, notices := n }
               if q.broadcast then w else w.replying (replyOf 0x04 q x [0xFF]))
      let done (x : Byte) (p : Params) : Host.Outcome State Fault Refusal := stored x p s.unit.notices
      let p := s.unit.params
      let refused : Host.Outcome State Fault Refusal :=
        .next (if q.broadcast then u else u.replying (replyOf 0x04 q 4 [0]))
      (id = 0x01 → exec (.setParam q) s = done (if v ≤ 255 then 0 else 1) { p with brightness := min v 255 })
      ∧ (id = 0x02 → exec (.setParam q) s
          = done (if v = 1 ∨ v = 2 ∨ v = 4 ∨ v = 8 then 0 else 1)
              { p with repeats := if 8 ≤ v then 8 else if 4 ≤ v then 4 else if 2 ≤ v then 2 else 1 })
      ∧ (id = 0x03 → exec (.setParam q) s
          = done (if 1 ≤ v ∧ v ≤ 32 then 0 else 1) { p with senseBudget := max 1 (min v 32) })
      ∧ (id = 0x04 → exec (.setParam q) s
          = done (if 1 ≤ v ∧ v ≤ 255 then 0 else 1) { p with blankBudget := max 1 (min v 255) })
      ∧ (id = 0x05 → min v 254 < p.openLimit.red → exec (.setParam q) s
          = done (if v ≤ 254 then 0 else 1) { p with shortLimit := { p.shortLimit with red := min v 254 } })
      ∧ (id = 0x05 → p.openLimit.red ≤ min v 254 → exec (.setParam q) s = refused)
      ∧ (id = 0x06 → min v 254 < p.openLimit.green → exec (.setParam q) s
          = done (if v ≤ 254 then 0 else 1) { p with shortLimit := { p.shortLimit with green := min v 254 } })
      ∧ (id = 0x06 → p.openLimit.green ≤ min v 254 → exec (.setParam q) s = refused)
      ∧ (id = 0x07 → min v 254 < p.openLimit.blue → exec (.setParam q) s
          = done (if v ≤ 254 then 0 else 1) { p with shortLimit := { p.shortLimit with blue := min v 254 } })
      ∧ (id = 0x07 → p.openLimit.blue ≤ min v 254 → exec (.setParam q) s = refused)
      ∧ (id = 0x08 → p.shortLimit.red < max 1 (min v 255) → exec (.setParam q) s
          = done (if 1 ≤ v ∧ v ≤ 255 then 0 else 1) { p with openLimit := { p.openLimit with red := max 1 (min v 255) } })
      ∧ (id = 0x08 → max 1 (min v 255) ≤ p.shortLimit.red → exec (.setParam q) s = refused)
      ∧ (id = 0x09 → p.shortLimit.green < max 1 (min v 255) → exec (.setParam q) s
          = done (if 1 ≤ v ∧ v ≤ 255 then 0 else 1)
              { p with openLimit := { p.openLimit with green := max 1 (min v 255) } })
      ∧ (id = 0x09 → max 1 (min v 255) ≤ p.shortLimit.green → exec (.setParam q) s = refused)
      ∧ (id = 0x0A → p.shortLimit.blue < max 1 (min v 255) → exec (.setParam q) s
          = done (if 1 ≤ v ∧ v ≤ 255 then 0 else 1)
              { p with openLimit := { p.openLimit with blue := max 1 (min v 255) } })
      ∧ (id = 0x0A → max 1 (min v 255) ≤ p.shortLimit.blue → exec (.setParam q) s = refused)
      ∧ (id = 0x0B → exec (.setParam q) s
          = done (if 2 ≤ v ∧ v ≤ 15 then 0 else 1) { p with confirmHits := max 2 (min v 15) })
      ∧ (id = 0x0C → exec (.setParam q) s
          = done (if 2 ≤ v ∧ v ≤ 15 then 0 else 1) { p with flipLimit := max 2 (min v 15) })
      ∧ (id = 0x0D → exec (.setParam q) s = done (if v ≤ 255 then 0 else 1) { p with concealShare := min v 255 })
      ∧ (id = 0x0E → exec (.setParam q) s
          = done (if 5 ≤ v ∧ v ≤ 250 then 0 else 1) { p with frameTimeout := max 5 (min v 250) })
      ∧ (id = 0x0F → exec (.setParam q) s
          = done (if 1 ≤ v ∧ v ≤ 255 then 0 else 1) { p with holdTime := max 1 (min v 255) })
      ∧ (id = 0x10 → exec (.setParam q) s
          = done (if -20 ≤ signed16 v ∧ signed16 v ≤ 110 then 0 else 1)
              { p with senseTempMax := max (-20) (min (signed16 v) 110) })
      ∧ (id = 0x11 → v ≤ 1 → exec (.setParam q) s = done 0 { p with walkEnable := decide (v = 1) })
      ∧ (id = 0x12 → v ≤ 1 → exec (.setParam q) s = done 0 { p with walkBoth := decide (v = 0) })
      ∧ (id = 0x13 → v ≤ 1 → exec (.setParam q) s = done 0 { p with policy := if v = 0 then .auto else .advise })
      ∧ (id = 0x11 ∨ id = 0x12 ∨ id = 0x13 → 2 ≤ v → exec (.setParam q) s = refused)
      ∧ (id = 0x14 → exec (.setParam q) s
          = stored (if v ≤ 127 then 0 else 1)
              { p with noticeMask := ⟨v.testBit 0, v.testBit 1, v.testBit 2, v.testBit 3, v.testBit 4, v.testBit 5,
                v.testBit 6⟩ }
              ⟨s.unit.notices.wideFault && v.testBit 0, s.unit.notices.rowLost && v.testBit 1,
                s.unit.notices.laneEvent && v.testBit 2, s.unit.notices.defect && v.testBit 3,
                s.unit.notices.listFull && v.testBit 4, s.unit.notices.videoState && v.testBit 5,
                s.unit.notices.linkErrors && v.testBit 6⟩)
      ∧ (id = 0 ∨ 0x14 < id.toNat → exec (.setParam q) s = refused))
  ∧ (∀ (q : Request) (s : State), Dispatched 0x04 q s →
      exec (.setParam q) s
        = .next (let r := setPairs (paramPairs q.payload) 0 s.unit
                 let w := (atTake 0x04 q s).withUnit r.unit
                 if q.broadcast then w
                 else w.replying (replyOf 0x04 q (match r.status with | .ok => 0 | .clamped => 1 | _ => 4)
                   [match r.refused with | some i => BitVec.ofNat 8 i | none => 0xFF])))
  ∧ (∀ (id lo hi : Byte) (rest : List Byte),
      paramPairs (id :: lo :: hi :: rest) = (id.toNat, lo.toNat + 256 * hi.toNat) :: paramPairs rest)
  ∧ (∀ (i : Nat) (u : MessageUnit), (setPairs [] i u).unit = u ∧ (setPairs [] i u).refused = none
      ∧ (setPairs [] i u).status = .ok)
  ∧ (∀ (id v : Nat) (rest : List (Nat × Nat)) (i : Nat) (u : MessageUnit),
      (setPair u.params id v = .refused →
        (setPairs ((id, v) :: rest) i u).unit = (setPairs rest (i + 1) u).unit
          ∧ (setPairs ((id, v) :: rest) i u).refused = some i
          ∧ (setPairs ((id, v) :: rest) i u).status = .field)
      ∧ (∀ p c, setPair u.params id v = .stored p c →
          ∃ w : MessageUnit, w.params = p
            ∧ (∀ k, w.notices.get k = (u.notices.get k && (decide (id ≠ 0x14) || p.noticeMask.get k)))
            ∧ w.replies = u.replies ∧ w.resetWaiting = u.resetWaiting ∧ w.defectsSince = u.defectsSince
            ∧ (setPairs ((id, v) :: rest) i u).unit = (setPairs rest (i + 1) w).unit
            ∧ (setPairs ((id, v) :: rest) i u).refused = (setPairs rest (i + 1) w).refused
            ∧ (setPairs ((id, v) :: rest) i u).status
                = (if (setPairs rest (i + 1) w).status = .ok ∧ c = true then .clamped
                   else (setPairs rest (i + 1) w).status)))

/-- GET_PARAM (R169): one value for each id in order, 0 for an unknown id, with status FIELD and the index of the first
unknown id where there is one; it changes nothing. The values are the parameters as stored, coded as 11.5 has them, with
a suspended policy as 2. -/
def Obligations.GetParamReturnsStoredValues : Prop :=
  (∀ p : Params, (List.range 21).map (paramValue p)
    = [none, some p.brightness, some p.repeats, some p.senseBudget, some p.blankBudget, some p.shortLimit.red,
        some p.shortLimit.green, some p.shortLimit.blue, some p.openLimit.red, some p.openLimit.green, some p.openLimit.blue,
        some p.confirmHits, some p.flipLimit, some p.concealShare, some p.frameTimeout, some p.holdTime,
        some (p.senseTempMax % 65536).toNat, some (if p.walkEnable then 1 else 0), some (if p.walkBoth then 0 else 1),
        some (match p.policy with | .auto => 0 | .advise => 1 | .suspended => 2), some (maskValue p.noticeMask)])
  ∧ ∀ (q : Request) (s : State), Dispatched 0x05 q s →
    ∃ idx : Byte, ∃ st : Byte,
      exec (.getParam q) s
        = .next ((atTake 0x05 q s).replying (replyOf 0x05 q st
            (idx :: (q.payload.map fun i => le16 ((paramValue s.unit.params i.toNat).getD 0)).flatten)))
      ∧ ((∀ i ∈ q.payload, 1 ≤ i.toNat ∧ i.toNat ≤ 0x14) → st = 0 ∧ idx = 0xFF)
      ∧ (∀ n (hn : n < q.payload.length), (q.payload[n].toNat = 0 ∨ 0x14 < q.payload[n].toNat) →
          (∀ m (hm : m < n), 1 ≤ (q.payload[m]'(by omega)).toNat ∧ (q.payload[m]'(by omega)).toNat ≤ 0x14) →
          st = 4 ∧ idx = BitVec.ofNat 8 n)

/-- LOAD_GAIN (R37): a load past the end of the table is refused FIELD and writes nothing; otherwise each gain is stored
clamped to 256..2047 at its index, every other gain is as before, and the reply counts the gains and the clamped ones.
READ_GAIN (R38). -/
def Obligations.GainsAreLoadedAndRead : Prop :=
  (∀ (q : Request) (vs : List Nat) (s : State), Dispatched 0x06 q s → vs = words16 (q.payload.drop 2) →
      (288 * depth s < le16At q.payload 0 + vs.length →
        exec (.loadGain q) s = .next ((atTake 0x06 q s).replying (replyOf 0x06 q 4 [])))
      ∧ (le16At q.payload 0 + vs.length ≤ 288 * depth s → s.comp.gains.length = 288 * depth s →
        ∃ g : List Nat,
          exec (.loadGain q) s
            = .next (((atTake 0x06 q s).withComp { s.comp with gains := g }).replying
                (replyOf 0x06 q (if ∀ v ∈ vs, 256 ≤ v ∧ v ≤ 2047 then 0 else 1)
                  [BitVec.ofNat 8 vs.length, BitVec.ofNat 8 (vs.countP fun v => decide (v < 256 ∨ 2047 < v))]))
          ∧ g.length = s.comp.gains.length
          ∧ ∀ i, g.getD i 0 =
              if le16At q.payload 0 ≤ i ∧ i < le16At q.payload 0 + vs.length then
                max 256 (min 2047 (vs.getD (i - le16At q.payload 0) 0))
              else s.comp.gains.getD i 0))
  ∧ (∀ (q : Request) (s : State), Dispatched 0x07 q s →
      (byteAt q.payload 2 = 0 ∨ 288 * depth s < le16At q.payload 0 + byteAt q.payload 2 →
        exec (.readGain q) s = .next ((atTake 0x07 q s).replying (replyOf 0x07 q 4 [])))
      ∧ (byteAt q.payload 2 ≠ 0 → le16At q.payload 0 + byteAt q.payload 2 ≤ 288 * depth s →
        exec (.readGain q) s
          = .next ((atTake 0x07 q s).replying (replyOf 0x07 q 0
              (BitVec.ofNat 8 (byteAt q.payload 2)
                :: (((s.comp.gains.drop (le16At q.payload 0)).take (byteAt q.payload 2)).map le16).flatten)))))

/-- READ_DEFECTS (R136): a page of the list with the total, the counter and the removals that wait; a count of 0 or
above 32 is refused FIELD; it changes nothing. READ_SUSPECTS (R87): a page of the collection that its first byte names,
and FIELD for any other; it changes nothing. The bytes of a record are those of RecordsAreLaidOutAsTheFormatsSay. -/
def Obligations.ListsAreReadInPages : Prop :=
  (∀ (q : Request) (s : State), Dispatched 0x0D q s →
      (byteAt q.payload 1 = 0 ∨ 32 < byteAt q.payload 1 →
        exec (.readDefects q) s = .next ((atTake 0x0D q s).replying (replyOf 0x0D q 4 [])))
      ∧ (1 ≤ byteAt q.payload 1 → byteAt q.payload 1 ≤ 32 → ∃ flags : List Byte,
        exec (.readDefects q) s
          = .next ((atTake 0x0D q s).replying (replyOf 0x0D q 0
              ([BitVec.ofNat 8 s.repair.defects.length] ++ le16 s.repair.seqCounter
                ++ [BitVec.ofNat 8 ((s.repair.defects.drop (byteAt q.payload 0)).take (byteAt q.payload 1)).length] ++ flags
                ++ (((s.repair.defects.drop (byteAt q.payload 0)).take (byteAt q.payload 1)).map defectBytes).flatten)))
        ∧ flags.length = 4
        ∧ ∀ i, i < 32 → (flags.getD (i / 8) 0).getLsbD (i % 8)
            = ((((s.repair.defects.drop (byteAt q.payload 0)).take (byteAt q.payload 1))[i]?).any fun x =>
                s.repair.changes.any (· == .removal x.target x.seq))))
  ∧ (∀ (q : Request) (s : State), Dispatched 0x10 q s →
      (byteAt q.payload 0 = 0 →
        exec (.readSuspects q) s
          = .next ((atTake 0x10 q s).replying (replyOf 0x10 q 0
              ([0, BitVec.ofNat 8 s.track.suspects.length,
                  BitVec.ofNat 8 ((s.track.suspects.drop (byteAt q.payload 1)).take 16).length]
                ++ (((s.track.suspects.drop (byteAt q.payload 1)).take 16).map suspectBytes).flatten))))
      ∧ (byteAt q.payload 0 = 1 →
        exec (.readSuspects q) s
          = .next ((atTake 0x10 q s).replying (replyOf 0x10 q 0
              ([1, BitVec.ofNat 8 s.track.queue.length,
                  BitVec.ofNat 8 ((s.track.queue.drop (byteAt q.payload 1)).take 8).length]
                ++ (((s.track.queue.drop (byteAt q.payload 1)).take 8).map descriptorBytes).flatten))))
      ∧ (2 ≤ byteAt q.payload 0 →
        exec (.readSuspects q) s = .next ((atTake 0x10 q s).replying (replyOf 0x10 q 4 []))))

/-- READ_SPARES and READ_MAP (R172, R173): the slots, the lanes and the check; up to three rows of the current maps, or
FIELD. They change nothing. The bytes of a record are those of RecordsAreLaidOutAsTheFormatsSay. -/
def Obligations.MapsAreRead : Prop :=
  (∀ (q : Request) (s : State), Dispatched 0x11 q s →
    exec (.readSpares q) s
      = .next ((atTake 0x11 q s).replying (replyOf 0x11 q 0
          ((s.repair.slots.map slotBytes).flatten
            ++ s.repair.lanes.map (fun x => match x with
                | .normal => 0x00
                | .spared k => BitVec.ofNat 8 (0x10 + k)
                | .dark => 0x20)
            ++ checkBytes s.corr.check))))
  ∧ (∀ (q : Request) (s : State), Dispatched 0x12 q s →
    (byteAt q.payload 1 = 0 ∨ 3 < byteAt q.payload 1 ∨ depth s < byteAt q.payload 0 + byteAt q.payload 1 →
      exec (.readMap q) s = .next ((atTake 0x12 q s).replying (replyOf 0x12 q 4 [])))
    ∧ (1 ≤ byteAt q.payload 1 → byteAt q.payload 1 ≤ 3 → byteAt q.payload 0 + byteAt q.payload 1 ≤ depth s →
      exec (.readMap q) s
        = .next ((atTake 0x12 q s).replying (replyOf 0x12 q 0
            ([BitVec.ofNat 8 (byteAt q.payload 0), BitVec.ofNat 8 (byteAt q.payload 1)]
              ++ ((List.range (byteAt q.payload 1)).map fun i =>
                  (if rowNow s (byteAt q.payload 0 + i) = .lost then 1 else 0)
                    :: (List.range 144).map fun l => cellByte (cellEntry s (byteAt q.payload 0 + i) l)).flatten)))))

/-! ## Video -/

/-- ROW (R31): a row of the tile replaces that row of the fill buffer and sets its flag; an index of D or more only
raises the bad-row count. It has no reply. FRAME outside RUN (R23, R24, R32): the Frame Store takes its arrival and
nothing else changes. -/
def Obligations.RowsAndFramesFillTheFrameStore : Prop :=
  (∀ (q : Request) (r : Nat) (s : State), Dispatched 0x08 q s → r = byteAt q.payload 0 →
        (depth s ≤ r →
          exec (.row q) s
            = .next ((atTake 0x08 q s).withStore { s.store with badRow := min (s.store.badRow + 1) 65535 }))
        ∧ (r < depth s → ∃ codes : List Nat,
          exec (.row q) s
            = .next ((atTake 0x08 q s).withStore { s.store with
                fill := s.store.fill.set r codes, rowFlags := s.store.rowFlags.set r true })
          ∧ codes.length = 144
          ∧ ∀ j, j < 72 →
              codes.getD (2 * j) 0 = byteAt q.payload (1 + 3 * j) + 256 * (byteAt q.payload (2 + 3 * j) % 16)
              ∧ codes.getD (2 * j + 1) 0 = byteAt q.payload (2 + 3 * j) / 16 + 16 * byteAt q.payload (3 + 3 * j)))
  ∧ (∀ (q : Request) (reading : Int) (n : Nat) (s : State), Dispatched 0x09 q s → n = le16At q.payload 0 →
        s.ctl.mode ≠ .run → s.store.lastNumber < 65536 →
        exec (.frame q reading) s = .next ((atTake 0x09 q s).withStore
          { fill := if s.store.rowFlags.all id then s.store.display else s.store.fill
            display := if s.store.rowFlags.all id then s.store.fill else s.store.display
            rowFlags := List.replicate s.store.rowFlags.length false
            frameCount := (s.store.frameCount + 1) % 4294967296
            lastNumber := n
            frameSeen := true
            skipped :=
              if s.store.frameSeen = true ∧ n ≠ (s.store.lastNumber + 1) % 65536 then
                min (s.store.skipped + (((n : Int) - s.store.lastNumber - 1) % 65536).toNat) 65535
              else min s.store.skipped 65535
            incomplete := if s.store.rowFlags.all id then s.store.incomplete else min (s.store.incomplete + 1) 65535
            badRow := s.store.badRow }))

/-- FRAME in RUN (R9, R10, R24, R26, R32, R39, R49, R50, R52, R112): the frame timer restarts, the video state moves by
whether the buffers swapped, the Frame Store takes the arrival, and the waiting changes are applied as ChangesAreApplied has
it; the Output Table is the composition of what is then displayed, and a scan cycle starts at row 0, at the entry to LIVE too,
or waits at row 0 while a test has the lines. A claim that waits is taken at the composition: the test drives through the
driver of R16, or is withdrawn on a DARK lane (R53; with the old window closed). Then a window opens with `sense_budget`: it
has the next number, which leaves every suspect record, a fresh sample and fault flag, hot by the sample against
`sense_temp_max` or by the fault, none of its budget used and the tried marks clear, and with no test in flight the first
grant decision follows on the maps as they then stand. The order of the parts is the model's (log 9: deduced). -/
def Obligations.FrameInRunIsAFrameBoundary : Prop :=
  ∀ (q : Request) (reading : Int) (s : State), Dispatched 0x09 q s → s.ctl.mode = .run →
    let swapped : Bool := s.store.rowFlags.all id
    let opens (test : Option TestRecord) (atOnce : Bool) (t : State) : Prop :=
      WindowOpens s.unit.params.senseBudget reading test atOnce s t
    ∃ t, exec (.frame q reading) s = .next t
      ∧ t.ctl = { s.ctl with
          video := if swapped then .live else s.ctl.video
          frameTimer := some s.unit.params.frameTimeout
          holdTimer := if swapped then none else s.ctl.holdTimer }
      ∧ (swapped = true → s.ctl.video ≠ .live → s.unit.params.noticeMask.videoState = true →
          t.unit.notices.videoState = true)
      ∧ t.store = s.store.arrival (le16At q.payload 0)
      ∧ t.store.frameCount = (s.store.frameCount + 1) % 4294967296
      ∧ t.store.display = (if swapped then s.store.fill else s.store.display)
      ∧ t.sense.windowNumber = (s.sense.windowNumber + 1) % 65536
      ∧ t.sense.budget = s.unit.params.senseBudget
      ∧ t.sense.sample = max (-40) (min 125 reading)
      ∧ t.sense.sensorFault = decide (reading < -40 ∨ 125 < reading)
      ∧ (claimWaiting s = false →
          opens s.sense.test (decide (s.scan.state = .stopped ∧ ¬ (s.ctl.video = .dark ∧ swapped = true))) t)
      ∧ (s.repair.waiting = none → s.repair.bind = none → FaultPathQuiet s →
          t.repair = (applyChanges (s.withStore t.store)).repair ∧ t.corr = s.corr
          ∧ t.track = ⟨withoutWindow ((s.sense.windowNumber + 1) % 65536) s.track.suspects, []⟩)
      ∧ compose t = t
      ∧ (s.scan.state = .scanning ∨ (s.scan.state = .stopped ∧ s.ctl.video = .dark ∧ swapped = true) →
          claimWaiting s = false → ∃ p : RowPhase, ∃ traces : List Die,
            t.scan = { state := .scanning, nextRow := 1, segments := s.unit.params.repeats, phase := some p, traces := traces }
            ∧ p.row = 0 ∧ p.entry = rowNow t 0
            ∧ ∀ l, l < 144 →
                p.latch l = ⟨laneNow t l, (cellEntry t 0 l).state, cellAt t.comp.pulses 0 l 0⟩
                ∧ traces.getD l .a = (match (cellEntry t 0 l).state with | .bActive => .b | _ => .a))
      ∧ (s.scan.state = .yielded ∨ (s.scan.state = .lent ∧ s.ctl.video = .dark ∧ swapped = true) →
          t.scan = { s.scan with state := .yielded, nextRow := 0 })
      ∧ (∀ x, s.scan.state = .scanning → s.sense.test = some x → x.driver = none →
          (∀ d, ConnectsTo t x d → opens (some { x with driver := some d }) false t
            ∧ t.scan = { s.scan with
                state := .yielded, nextRow := 0, phase := none, traces := s.scan.traces.set x.die.lane x.die.die })
          ∧ (Withdrawn t x → s.sense.windowOpen = false →
            opens none false t ∧ t.scan.state = .scanning ∧ t.scan.nextRow = 1))
      ∧ t.link = (atTake 0x09 q s).link ∧ t.straps = s.straps
      ∧ t.comp.gains = s.comp.gains ∧ t.unit.params = { s.unit.params with policy := t.unit.params.policy }

/-- FRAME_TIMER_EXPIRY (R27, R29): the timer stops, and LIVE becomes HOLDING with the hold timer at `hold_time` × 10 ms.
HOLD_TIMER_EXPIRY in HOLDING (R28, R10): the video state becomes DARK, VIDEO_STATE becomes pending, and the Scan Driver
stops with all outputs off, or lends the lines to the test that holds them; a claim that waits is taken at once, and the test
drives, or is withdrawn on a DARK lane (R53; with the window closed). BLANK_WINDOW_TIMER_EXPIRY in BLANK (R23, R24, R47, R49,
R50, R52, R112): the timer starts again at 10 ms, the waiting changes are applied and the new victims zeroed, and a window
opens with `blank_budget`: it has the next number, which leaves every suspect record, a fresh sample and fault flag, hot by
the sample against `sense_temp_max` or by the fault, none of its budget used and the tried marks clear, and with no test in
flight the first grant decision follows on the maps as they then stand; nothing is composed. -/
def Obligations.TimersRunOut : Prop :=
  (∀ s : State, s.ctl.frameTimer.isSome = true →
      (s.ctl.video = .live →
        exec .frameTimerExpiry s
          = .next (raise .videoState (s.withCtl { s.ctl with
              frameTimer := none, video := .holding, holdTimer := some (s.unit.params.holdTime * 10) })))
      ∧ (s.ctl.video ≠ .live → exec .frameTimerExpiry s = .next (s.withCtl { s.ctl with frameTimer := none })))
  ∧ (∀ s : State, s.ctl.holdTimer.isSome = true → s.ctl.video = .holding →
      let dark : State := s.withCtl { s.ctl with holdTimer := none, video := .dark }
      (s.scan.state = .scanning → claimWaiting s = false →
        exec .holdTimerExpiry s
          = .next (raise .videoState (dark.withScan { s.scan with state := .stopped, phase := none })))
      ∧ (s.scan.state = .yielded →
        exec .holdTimerExpiry s = .next (raise .videoState (dark.withScan { s.scan with state := .lent })))
      ∧ (∀ x, s.scan.state = .scanning → s.sense.test = some x → x.driver = none →
        (∀ d, ConnectsTo s x d →
          exec .holdTimerExpiry s
            = .next (raise .videoState ((dark.withScan { s.scan with
                state := .lent, phase := none, traces := s.scan.traces.set x.die.lane x.die.die }).withSense
                  { s.sense with test := some { x with driver := some d } })))
        ∧ (Withdrawn s x → s.sense.windowOpen = false →
          exec .holdTimerExpiry s
            = .next (raise .videoState ((dark.withScan { s.scan with state := .stopped, phase := none }).withSense
                { s.sense with test := none })))))
  ∧ (∀ (reading : Int) (s : State), s.ctl.mode = .blank → s.ctl.blankTimer.isSome = true →
      ∃ t, exec (.blankWindowTimerExpiry reading) s = .next t
        ∧ t.ctl = { s.ctl with blankTimer := some 10 }
        ∧ t.sense.windowNumber = (s.sense.windowNumber + 1) % 65536
        ∧ t.sense.budget = s.unit.params.blankBudget
        ∧ t.sense.sample = max (-40) (min 125 reading)
        ∧ t.sense.sensorFault = decide (reading < -40 ∨ 125 < reading)
        ∧ WindowOpens s.unit.params.blankBudget reading s.sense.test (decide (s.scan.state = .stopped)) s t
        ∧ t.store = s.store ∧ t.link = s.link ∧ t.straps = s.straps
        ∧ t.comp.gains = s.comp.gains ∧ t.comp.clipCount = s.comp.clipCount
        ∧ t.unit.params = { s.unit.params with policy := t.unit.params.policy }
        ∧ (s.repair.waiting = none → s.repair.bind = none → FaultPathQuiet s →
            t.repair = (applyChanges s).repair ∧ t.comp = (applyChanges s).comp ∧ t.corr = s.corr
            ∧ t.track = ⟨withoutWindow ((s.sense.windowNumber + 1) % 65536) s.track.suspects, []⟩))

/-- MODE (R19): an addressed one is answered OK with the mode entered, a broadcast one not at all; the present mode changes
nothing, and a code that names no mode is refused FIELD. MODE to another mode (R9, R18 to R23, R25, R58, R67, R102): the
timers and the video state of the mode left are gone (outside RUN the field stands at DARK, log 23: the model's choice), RUN is
entered DARK with VIDEO_STATE pending, BLANK with its timer at 10 ms and a waiting claim taken at the fall of drive enable, and
STANDBY with the test, the window, the check and the waiting changes ended and the check's descriptor back at the head of its
queue; every waiting spot test is ABORTED, and their replies follow the MODE reply while there is room. Where no bind, check
or decision is in progress, the maps are those that the application of the list leaves (R112). -/
def Obligations.ModeEntersTheModeAsked : Prop :=
  (∀ (q : Request) (s : State), Dispatched 0x0A q s →
      (byteAt q.payload 0 = (match s.ctl.mode with | .standby => 0 | .run => 1 | .blank => 2) →
        exec (.mode q) s = .next (if q.broadcast then atTake 0x0A q s
          else (atTake 0x0A q s).replying (replyOf 0x0A q 0 [BitVec.ofNat 8 (byteAt q.payload 0)])))
      ∧ (3 ≤ byteAt q.payload 0 →
        exec (.mode q) s = .next (if q.broadcast then atTake 0x0A q s
          else (atTake 0x0A q s).replying (replyOf 0x0A q 4 []))))
  ∧ (∀ (q : Request) (s : State), Dispatched 0x0A q s →
      let answered (mode : Byte) : List Reply :=
        s.unit.replies ++ (if q.broadcast then [] else [replyOf 0x0A q 0 [mode]])
      let replied (mode : Byte) (t : State) : Prop :=
        (∃ more, t.unit.replies = answered mode ++ more)
          ∧ ((∀ e ∈ s.sense.spots, e.status = .waiting) → s.repair.bind = none → t.unit.replies = answered mode)
      (s.ctl.mode ≠ .run → byteAt q.payload 0 = 1 → ∃ t, exec (.mode q) s = .next t
        ∧ t.ctl = { s.ctl with mode := .run, video := .dark, frameTimer := none, holdTimer := none, blankTimer := none }
        ∧ replied 1 t
        ∧ (s.unit.params.noticeMask.videoState = true → t.unit.notices.videoState = true)
        ∧ t.store = s.store ∧ t.scan = s.scan ∧ t.comp.gains = s.comp.gains
        ∧ t.link = (atTake 0x0A q s).link ∧ t.straps = s.straps
        ∧ (FaultPathQuiet s → t.track = s.track ∧ t.corr = s.corr ∧ t.unit.params = s.unit.params
            ∧ t.repair = { s.repair with bind := t.repair.bind } ∧ t.comp = s.comp))
      ∧ (s.ctl.mode ≠ .blank → byteAt q.payload 0 = 2 → ∃ t, exec (.mode q) s = .next t
        ∧ t.ctl = { s.ctl with
            mode := .blank, video := .dark, frameTimer := none, holdTimer := none, blankTimer := some 10 }
        ∧ replied 2 t
        ∧ t.store = s.store ∧ t.comp.gains = s.comp.gains ∧ (DriveLaw s → t.scan.state ≠ .scanning ∧ t.scan.state ≠ .yielded)
        ∧ (∀ x d, driveEnable s = true → s.scan.state = .scanning → s.sense.test = some x → x.driver = none →
            ConnectsTo s x d → t.sense.test = some { x with driver := some d } ∧ t.scan = { s.scan with
              state := .lent, phase := none, traces := s.scan.traces.set x.die.lane x.die.die })
        ∧ t.link = (atTake 0x0A q s).link ∧ t.straps = s.straps
        ∧ (FaultPathQuiet s → t.track = s.track ∧ t.corr = s.corr ∧ t.unit.params = s.unit.params
            ∧ t.repair = { s.repair with bind := t.repair.bind } ∧ t.comp = s.comp))
      ∧ (s.ctl.mode ≠ .standby → byteAt q.payload 0 = 0 → ∃ t, exec (.mode q) s = .next t
        ∧ t.ctl = { s.ctl with mode := .standby, video := .dark, frameTimer := none, holdTimer := none, blankTimer := none }
        ∧ (∃ more, t.unit.replies = answered 0 ++ more)
        ∧ ((∀ e ∈ s.sense.spots, e.status = .waiting) → s.repair.bind = none →
            let aborted : List SpotEntry := s.sense.spots.map fun e => { e with status := .aborted }
            let room : Nat := 8 - (answered 0).length
            t.unit.replies = answered 0 ++ (aborted.take room).map dueReply ∧ t.sense.spots = aborted.drop room)
        ∧ t.sense.test = none ∧ t.sense.windowOpen = false ∧ (∀ e ∈ t.sense.spots, e.status ≠ .waiting)
        ∧ t.scan.state = .stopped ∧ t.scan.phase = none ∧ t.corr.check = none ∧ t.repair.changes = []
        ∧ t.repair.waiting = none ∧ (s.corr.check ≠ none → t.repair.heldLane = none) ∧ t.store = s.store
        ∧ t.comp.gains = s.comp.gains ∧ t.link = (atTake 0x0A q s).link ∧ t.straps = s.straps
        ∧ t.unit.params = { s.unit.params with policy := t.unit.params.policy }
        ∧ (s.repair.waiting = none → s.repair.bind = none → s.corr.check = none →
            t.repair = (applyChanges s).repair ∧ t.comp = (applyChanges (s.withCtl t.ctl)).comp)
        ∧ (s.repair.waiting = none → t.track.suspects = s.track.suspects
            ∧ t.track.queue = (match s.corr.check with
                | some c => ⟨c.die, .openDie, c.hits, c.flips, c.frame⟩ :: s.track.queue
                | none => s.track.queue))))

/-! ## Scan and sensing -/

/-- ROW_PHASE_END while SCANNING with no claim waiting (R10, R11, R12): the phase of the next row starts with the tables
latched as they stand, and a phase of row 0 latches `repeat`. ROW_PHASE_END with a claim waiting (R10, R16, R53): the
test takes the lines through the driver of R16 and the Scan Driver yields. A walk, retest or probe on a DARK lane is the
third case. ROW_PHASE_END with the claim of a walk, retest or probe on a lane that has become DARK, in a window that has
closed (R53): the test is withdrawn with no result, and the next row's phase starts. -/
def Obligations.RowPhaseEndsServeTheLines : Prop :=
  (∀ s : State, s.scan.state = .scanning → claimWaiting s = false → ∃ p : RowPhase, ∃ traces : List Die,
      exec .rowPhaseEnd s = .next (s.withScan
        { state := .scanning
          nextRow := (s.scan.nextRow + 1) % depth s
          segments := if s.scan.nextRow = 0 then s.unit.params.repeats else s.scan.segments
          phase := some p
          traces := traces })
      ∧ p.row = s.scan.nextRow ∧ p.entry = rowNow s s.scan.nextRow
      ∧ ∀ l, l < 144 →
          p.latch l = ⟨laneNow s l, (cellEntry s s.scan.nextRow l).state, cellAt s.comp.pulses s.scan.nextRow l 0⟩
          ∧ traces.getD l .a = (match (cellEntry s s.scan.nextRow l).state with
              | .bActive => .b
              | _ => .a))
  ∧ (∀ (t : TestRecord) (d : TestDriver) (s : State), s.scan.state = .scanning → s.sense.test = some t → t.driver = none →
      ConnectsTo s t d →
      exec .rowPhaseEnd s
        = .next ((s.withScan { s.scan with
            state := .yielded, phase := none, traces := s.scan.traces.set t.die.lane t.die.die }).withSense
              { s.sense with test := some { t with driver := some d } }))
  ∧ (∀ (t : TestRecord) (s : State), s.scan.state = .scanning → s.sense.test = some t → t.driver = none →
      Withdrawn s t → s.sense.windowOpen = false →
      ∃ u, exec .rowPhaseEnd s = .next u
        ∧ u.sense = { s.sense with test := none }
        ∧ u.scan.state = .scanning ∧ u.scan.nextRow = (s.scan.nextRow + 1) % depth s
        ∧ u.track = s.track ∧ u.corr = s.corr ∧ u.repair = s.repair ∧ u.unit = s.unit ∧ u.link = s.link)

/-- The classification table, with the tick limits of R54, which t is reported and which results are failing (R55). A
knee tick beyond the open limit counts as no knee (log 26, deduced: a test has ended at its open limit). -/
def Obligations.TestsAreClassified : Prop :=
  ∀ (t : TestRecord) (k : Fin 255),
    (k.val + 1 ≤ t.openLimit →
      (k.val + 1 ≤ t.shortLimit → classify t (some k) = if t.hot then .inconclusive else .shortDie)
      ∧ (t.shortLimit < k.val + 1 → classify t (some k) = .good)
      ∧ reportedT t (some k) = k.val + 1)
    ∧ (t.openLimit < k.val + 1 →
      classify t (some k) = (if t.hot then .inconclusive else .openDie) ∧ reportedT t (some k) = t.openLimit)
    ∧ classify t none = (if t.hot then .inconclusive else .openDie) ∧ reportedT t none = t.openLimit
    ∧ (∀ r : TestResult, r.failing.isSome = true ↔ r = .shortDie ∨ r = .openDie)

/-- A grant decision (R51 to R54, R59 to R61) in an open window with a slot left, after a walk test that passed: it goes
to the first of the five sources that has a test: the verify of the check, else of the bind, once in a pass of the tried
marks; the lowest probe PENDING and not tried; the first WAITING spot entry; the first record that may be retested in
this window; the walk. The granted test uses a slot, closes the window with the last of its budget and carries the
limits of its colour, the window and hot; verify and probes are marked tried. With no test to grant, the window closes.
Outside the scan the test takes the lines at once (R16), or on a DARK lane is withdrawn with its slot spent (R53). -/
def Obligations.GrantsGoToTheFirstEligibleSource : Prop :=
  ∀ (t : TestRecord) (knee : Option (Fin 255)) (s : State), GrantComesNext t knee s →
    (s.scan.state = .yielded → ∃ u, exec (.testCompletion knee) s = .next u ∧ GrantDecides s false u.sense)
    ∧ (s.scan.state = .lent → ∃ u, exec (.testCompletion knee) s = .next u ∧ GrantDecides s true u.sense
        ∧ (∀ x, u.sense.test = some x → u.scan = { s.scan with
            state := .lent, phase := none, traces := s.scan.traces.set x.die.lane x.die.die })
        ∧ (u.sense.test = none → u.scan = { s.scan with state := .stopped, phase := none }))
    ∧ (s.scan.state = .lent → NoVerifyDue s →
        ∀ c p x, s.corr.check = some c → c.verify = none → c.probes[0]? = some p → p.result = .pending →
          p.target = some x → s.sense.tried.probe0 = false → laneNow s x.lane = .dark →
          s.sense.used + 1 = s.sense.budget →
        ∃ u, exec (.testCompletion knee) s = .next u
          ∧ u.sense = { grantedSense s (grantedTest s (.probe 0) x) with
              test := none, tried := { s.sense.tried with probe0 := true } }
          ∧ u.scan.state = .stopped)

/-- The walk's turn in a grant decision (R62 to R64): from the cursor on, the first die in walk order that the walk does
not pass is tested, the cursor goes to the position after it, and the sweep count rises by the ends of lap passed; with
`walk_dies` at A_ONLY the order is pass A alone. When every die is passed, the window closes with cursor and count as
they were. From a cursor in pass B under A_ONLY, the rest of pass B counts as one end of lap (log 22: deduced). -/
def Obligations.TheWalkTakesTheNextDie : Prop :=
  ∀ (t : TestRecord) (knee : Option (Fin 255)) (atOnce : Bool) (s : State), GrantComesNext t knee s →
    s.scan.state = (if atOnce then .lent else .yielded) →
    ∃ u, exec (.testCompletion knee) s = .next u ∧ WalkDecides s atOnce u.sense

/-- TEST_COMPLETION of a walk on a die with no record, with the window closed and nothing waiting in the fault path (R54
to R56, R71, R74, R106): a pass makes an UNKNOWN die GOOD; an INCONCLUSIVE result changes nothing; a failing result
starts a record with one hit where the die may be watched (R74), is dropped where it may not, and with a full list sets
LIST_FULL pending (log 13: deduced, where the die may not be watched either). The lines return. -/
def Obligations.WalkResultsAreApplied : Prop :=
  ∀ (t : TestRecord) (d : TestDriver) (knee : Option (Fin 255)) (s : State),
    s.sense.test = some t → t.driver = some d → t.source = .walk → s.sense.windowOpen = false → FaultPathQuiet s →
    (∀ x ∈ s.track.suspects, x.die ≠ t.die) → HasCell s t.die.row t.die.lane →
    ∃ u, exec (.testCompletion knee) s = .next u
      ∧ u.sense.test = none ∧ u.track.queue = s.track.queue
      ∧ u.repair = { s.repair with cells := u.repair.cells, bind := u.repair.bind }
      ∧ u.sense = { s.sense with test := none, spots := u.sense.spots }
      ∧ u.unit = { s.unit with replies := u.unit.replies, notices := u.unit.notices } ∧ u.corr = s.corr ∧ u.straps = s.straps
      ∧ (s.scan.state = .lent → u.scan.state = .stopped) ∧ (s.scan.state = .yielded → u.scan.state = .scanning)
      ∧ u.ctl = s.ctl ∧ u.store = s.store ∧ u.comp = s.comp ∧ u.link = s.link
      ∧ (classify t knee = .good →
          u.track = s.track ∧ u.unit.notices = s.unit.notices
          ∧ cellEntry u t.die.row t.die.lane = (cellEntry s t.die.row t.die.lane).withHealth t.die.die
              (if healthOf s t.die = .unknown then .good else healthOf s t.die)
          ∧ (∀ r l, r ≠ t.die.row ∨ l ≠ t.die.lane → cellEntry u r l = cellEntry s r l))
      ∧ (classify t knee = .inconclusive →
          u.track = s.track ∧ u.unit.notices = s.unit.notices ∧ u.repair.cells = s.repair.cells)
      ∧ (∀ k, (classify t knee = .openDie ∧ k = .openDie) ∨ (classify t knee = .shortDie ∧ k = .shortDie) →
          u.repair.cells = s.repair.cells
          ∧ (MayBeWatched s t.die → s.track.suspects.length < 32 →
              u.track.suspects
                = s.track.suspects ++ [⟨t.die, k, 1, 0, 0, s.store.frameCount, some t.grantWindow, none⟩]
              ∧ u.unit.notices = s.unit.notices)
          ∧ (¬ MayBeWatched s t.die → s.track.suspects.length < 32 →
              u.track = s.track ∧ u.unit.notices = s.unit.notices)
          ∧ (32 ≤ s.track.suspects.length →
              u.track = s.track ∧ u.unit.notices = { s.unit.notices with
                listFull := s.unit.notices.listFull || s.unit.params.noticeMask.listFull }))

/-- TEST_COMPLETION of a walk or a retest on a die with a record, in a window that has closed (R55, R73 to R83): the
window is noted in every case; a HELD record and an INCONCLUSIVE result are else left; a pass clears the hits and
counts, and clears the record at `confirm_hits` passes; a failing result counts a hit, and a flip after a pass; a record
that then reaches `flip_limit` or `confirm_hits` is confirmed INTERMITTENT or as the result says, and its descriptor
joins the Confirmed Queue, or with all eight places taken the record is HELD and LIST_FULL becomes pending. What the
descriptor then sets going is that of DESCRIPTOR_TAKE in the same event (log 6: deduced). -/
def Obligations.ResultsMoveTheSuspectRecords : Prop :=
  ∀ (t : TestRecord) (knee : Option (Fin 255)) (before after : List Suspect) (x : Suspect) (s : State),
    EndsAlone t s → NoReplyDue s → t.source = .walk ∨ t.source = .retest → s.track.suspects = before ++ x :: after → x.die = t.die →
    (∀ y ∈ before ++ after, y.die ≠ t.die) → HasCell s t.die.row t.die.lane →
    ∃ w, exec (.testCompletion knee) s = exec .descriptorTake w ∧ (NoTake s → exec .descriptorTake w = .next w)
      ∧ w.sense = { s.sense with test := none } ∧ w.ctl = s.ctl ∧ w.store = s.store ∧ w.comp = s.comp ∧ w.link = s.link
      ∧ w.corr = s.corr ∧ w.straps = s.straps ∧ w.repair = { s.repair with cells := w.repair.cells }
      ∧ (classify t knee ≠ .good → w.repair = s.repair)
      ∧ (classify t knee = .good →
          healthOf w t.die = (if healthOf s t.die = .unknown then .good else healthOf s t.die))
      ∧ (let stays (y : Suspect) : Prop :=
           w.unit = s.unit ∧ w.track = ⟨before ++ { y with lastWindow := some t.grantWindow } :: after, s.track.queue⟩
         (x.held ≠ none ∨ classify t knee = .inconclusive → stays x)
         ∧ (x.held = none → classify t knee = .good →
             (x.passes + 1 < s.unit.params.confirmHits → stays { x with passes := x.passes + 1, hits := 0 })
             ∧ (s.unit.params.confirmHits ≤ x.passes + 1 → w.unit = s.unit ∧ w.track = ⟨before ++ after, s.track.queue⟩))
         ∧ (∀ k f y, x.held = none →
             (classify t knee = .openDie ∧ k = .openDie ∧ f = FaultKind.openDie)
               ∨ (classify t knee = .shortDie ∧ k = .shortDie ∧ f = .shortDie) →
             y = { x with
               flips := if 0 < x.passes then x.flips + 1 else x.flips
               passes := 0, hits := x.hits + 1, kind := k, lastWindow := some t.grantWindow } →
             (y.flips < s.unit.params.flipLimit → y.hits < s.unit.params.confirmHits → stays y)
             ∧ (∀ g, (s.unit.params.flipLimit ≤ y.flips ∧ g = .intermittent)
                   ∨ (y.flips < s.unit.params.flipLimit ∧ s.unit.params.confirmHits ≤ y.hits ∧ g = f) →
                 (s.track.queue.length + (if s.corr.check = none then 0 else 1) < 8 →
                   w.unit = s.unit
                   ∧ w.track = ⟨before ++ after, s.track.queue ++ [⟨x.die, g, y.hits, y.flips, s.store.frameCount⟩]⟩)
                 ∧ (8 ≤ s.track.queue.length + (if s.corr.check = none then 0 else 1) →
                   w.track = ⟨before ++ { y with
                       held := some ⟨g, s.store.frameCount,
                         (before ++ after).countP (fun z => z.held.isSome) + 1⟩ } :: after, s.track.queue⟩
                   ∧ w.unit = { s.unit with notices := { s.unit.notices with
                       listFull := s.unit.notices.listFull || s.unit.params.noticeMask.listFull } }))))

/-- TEST (R65): refused STATE in STANDBY, FIELD for a die that is not of the tile and BUSY with eight entries, in this
order; otherwise a WAITING entry joins the queue and no reply is made yet. TEST_COMPLETION of a spot test (R66, R73 to
R77, 10.2): its entry is DONE with the result, t, hot and the suspect effect, and its reply enters at once where the
Local Reply Queue has room and no other is due (log 8: deduced); the suspect record and the die's health move as after a
retest, a new record is as R74 has it, and a result that finds no place in a full list sets LIST_FULL pending (log 13:
deduced). -/
def Obligations.SpotTestsAreQueuedAndReported : Prop :=
  (∀ (q : Request) (s : State), Dispatched 0x0B q s →
        let onTile : Prop := byteAt q.payload 0 < depth s ∧ byteAt q.payload 1 < 144 ∧ byteAt q.payload 2 < 2
        (s.ctl.mode = .standby → exec (.test q) s = .next ((atTake 0x0B q s).replying (replyOf 0x0B q 3 [])))
        ∧ (s.ctl.mode ≠ .standby → ¬ onTile →
          exec (.test q) s = .next ((atTake 0x0B q s).replying (replyOf 0x0B q 4 [])))
        ∧ (s.ctl.mode ≠ .standby → onTile → 8 ≤ s.sense.spots.length →
          exec (.test q) s = .next ((atTake 0x0B q s).replying (replyOf 0x0B q 2 [])))
        ∧ (s.ctl.mode ≠ .standby → onTile → s.sense.spots.length < 8 →
          exec (.test q) s = .next ((atTake 0x0B q s).withSense { s.sense with
            spots := s.sense.spots ++ [⟨q.src, q.tag,
              ⟨byteAt q.payload 0, byteAt q.payload 1, if byteAt q.payload 2 = 0 then .a else .b⟩, .waiting⟩] })))
  ∧ (∀ (t : TestRecord) (knee : Option (Fin 255)) (r : TestResult) (x : SuspectEffect) (before after : List SpotEntry)
        (e : SpotEntry) (s : State),
        EndsAlone t s → t.source = .spot → s.sense.spots = before ++ e :: after → (∀ y ∈ before, y.status ≠ .waiting) →
        e.status = .waiting → r = classify t knee → EffectOf s t.die r x →
        NoTake s ∨ (s.track.queue = [] ∧ ∀ y ∈ s.track.suspects, y.die = t.die → r = .good ∨ r = .inconclusive) →
        ∃ u, exec (.testCompletion knee) s = .next u
          ∧ (8 ≤ s.unit.replies.length →
              u.sense = { s.sense with
                test := none, spots := before ++ { e with status := .done r (reportedT t knee) t.hot x } :: after }
              ∧ u.unit.replies = s.unit.replies)
          ∧ (s.unit.replies.length < 8 → before = [] → (∀ y ∈ after, y.status = .waiting) →
              (∀ b z, s.repair.bind = some b → b.stage ≠ .ended z) →
              u.sense = { s.sense with test := none, spots := after }
              ∧ u.unit.replies = s.unit.replies ++ [⟨e.src, 0x8B, e.tag,
                  [0, BitVec.ofNat 8 e.die.row, BitVec.ofNat 8 e.die.lane, match e.die.die with | .a => 0 | .b => 1,
                    match r with | .good => 0 | .openDie => 1 | .shortDie => 2 | .inconclusive => 3,
                    BitVec.ofNat 8 (reportedT t knee), if t.hot then 1 else 0,
                    match x with | .none => 0 | .new => 1 | .updated => 2 | .cleared => 3 | .notTracked => 4], false⟩])
          ∧ (∀ w, exec (.testCompletion knee) (s.withSense { s.sense with test := some { t with source := .retest } }) = .next w →
              u.track = w.track ∧ u.repair.cells = w.repair.cells ∧ u.unit.notices = w.unit.notices)
          ∧ (x = .notTracked → u.track = s.track
              ∧ u.unit.notices = { s.unit.notices with
                  listFull := s.unit.notices.listFull
                    || (decide (32 ≤ s.track.suspects.length) && s.unit.params.noticeMask.listFull) })
          ∧ (x = .new → ∃ k, (r = .openDie ∧ k = .openDie ∨ r = .shortDie ∧ k = .shortDie)
              ∧ u.track = { s.track with
                  suspects := s.track.suspects ++ [⟨t.die, k, 1, 0, 0, s.store.frameCount, some t.grantWindow, none⟩] })
          ∧ u.corr = s.corr ∧ u.ctl = s.ctl ∧ u.store = s.store ∧ u.comp = s.comp ∧ u.link = s.link)

/-! ## The fault path -/

/-- DESCRIPTOR_TAKE of a SHORT or INTERMITTENT descriptor, or of an OPEN one with no eligible cell, the only one
waiting, in RUN or BLANK under AUTO (R89, R91, R92, R116, R115, R135): the die's health is set, its record joins the list, is
counted and sets DEFECT pending where that kind is enabled, and the die in use is left by a swap, or concealed when the other
die is bad, through the Pending Change List. -/
def Obligations.DescriptorsAreDecidedCell : Prop :=
  ∀ (d : Descriptor) (s : State), s.corr.check = none → s.ctl.mode ≠ .standby → s.repair.waiting = none →
    s.track.queue = [d] → s.track.suspects = [] → s.repair.heldLane = none →
    (d.kind = .openDie → ∀ i, ¬ LaneCandidate s d.die i ∧ ¬ RowCandidate s d.die i) →
    plannedLane s d.die.lane ≠ .dark → plannedRow s d.die.row ≠ .lost → s.unit.params.policy = .auto →
    HasCell s d.die.row d.die.lane → s.repair.changes.length < 16 → s.repair.defects.length < 192 →
    ∃ t action entry, exec .descriptorTake s = .next t
      ∧ (action, entry) =
          (match plannedCell s d.die.row d.die.lane, d.die.die with
            | .aActive, .a => if (cellEntry s d.die.row d.die.lane).healthB.bad then (DefectAction.conceal, [CellState.concealed])
                else (.dieSwap, [.bActive])
            | .bActive, .b => if (cellEntry s d.die.row d.die.lane).healthA.bad then (.conceal, [.concealed])
                else (.dieSwap, [.aActive])
            | _, _ => (.none, []))
      ∧ t.track.queue = [] ∧ t.corr.check = none
      ∧ healthOf t d.die = (match d.kind with | .openDie => .openDie | .shortDie => .shortDie | .intermittent => .flaky)
      ∧ t.repair.defects = listWith s (record s (.die d.die.row d.die.lane d.die.die)
          (match d.kind with | .openDie => .openDie | .shortDie => .shortDie | .intermittent => .intermittent)
          action none false false .sensed)
      ∧ t.repair.changes = s.repair.changes ++ entry.map (Change.cell d.die.row d.die.lane)
      ∧ t.unit = unitNoted s
      ∧ (∀ r l, r ≠ d.die.row ∨ l ≠ d.die.lane → cellEntry t r l = cellEntry s r l)
      ∧ t.repair.lanes = s.repair.lanes ∧ t.repair.slots = s.repair.slots ∧ t.repair.rows = s.repair.rows
      ∧ t.repair.bind = s.repair.bind
      ∧ t.link = s.link ∧ t.ctl = s.ctl ∧ t.store = s.store ∧ t.comp = s.comp ∧ t.scan = s.scan
      ∧ t.sense = (if d.kind = .openDie then { s.sense with tried := .clear } else s.sense)

/-- DESCRIPTOR_TAKE of an OPEN descriptor with an eligible cell (R89, R92 to R94): a Correlation Check starts with four
probes, its descriptor's place held, and the tried marks are cleared. Probes 0 and 1 go to the first two eligible rows
of the lane, counted from the row after the die's, and 2 and 3 to the first two eligible lanes of the row, in steps of
24; one without a cell counts as passed. DESCRIPTOR_TAKE of a descriptor that the planned maps explain (R90): it is
discarded and nothing else changes. -/
def Obligations.OpenDescriptorsAreCheckedOrExplained : Prop :=
  (∀ (d : Descriptor) (rest : List Descriptor) (s : State), s.corr.check = none → s.ctl.mode ≠ .standby →
      s.repair.waiting = none → s.repair.heldLane = none → s.track.queue = d :: rest → d.kind = .openDie →
      plannedLane s d.die.lane ≠ .dark → plannedRow s d.die.row ≠ .lost →
      (∃ i, LaneCandidate s d.die i ∨ RowCandidate s d.die i) →
      ∃ c, exec .descriptorTake s = .next (((s.withCorr { check := some c }).withTrack
            { s.track with queue := rest }).withSense { s.sense with tried := .clear })
        ∧ c.die = d.die ∧ c.hits = d.hits ∧ c.flips = d.flips ∧ c.frame = d.frame ∧ c.hotSeen = false ∧ c.verify = none
        ∧ c.probes.length = 4 ∧ (∀ p ∈ c.probes, p.result = if p.target.isSome then .pending else .pass)
        ∧ (∀ n x, n < 2 →
            ((c.probes[n]?).bind Probe.target = some x ↔
              x.lane = d.die.lane ∧ (plannedCell s x.row x.lane).selected = some x.die
                ∧ ∃ i, IsNth (LaneCandidate s d.die) n i ∧ x.row = (d.die.row + 1 + i) % depth s)
            ∧ ((c.probes[n + 2]?).bind Probe.target = some x ↔
              x.row = d.die.row ∧ (plannedCell s x.row x.lane).selected = some x.die
                ∧ ∃ i, IsNth (RowCandidate s d.die) n i ∧ x.lane = (d.die.lane + 24 * (i + 1)) % 144)))
  ∧ (∀ (d : Descriptor) (s : State), s.corr.check = none → s.ctl.mode ≠ .standby → s.repair.waiting = none →
      s.repair.heldLane = none → s.track.queue = [d] → (∀ x ∈ s.track.suspects, x.held = none) →
      plannedLane s d.die.lane = .dark ∨ plannedRow s d.die.row = .lost →
      exec .descriptorTake s = .next (s.withTrack { s.track with queue := [] }))

/-- TEST_COMPLETION of a probe in a window that has closed (R95 to R99, R115 to R117, R120, R121, R135): INCONCLUSIVE leaves
the probe PENDING and notes a hot test; with a probe still PENDING the check goes on. With the last: both lane probes
and both row probes failed decide WIDE, with the policy SUSPENDED; else the row probes ROW, the lane probes LANE, else
CELL. WIDE, ROW and CELL are recorded, counted and noticed, and under AUTO acted on; with no place for its record a decision
is left unrecorded with LIST_FULL pending, and with none for its entry it waits. LANE under AUTO isolates a lane whose spare
has failed, or with no room for its entry lets the whole isolation wait, and is held, is left unrecorded with the check ended
where the isolation finds no place for its record (log 16: deduced), is held while another slot is RESERVED, else reserves the lowest slot of its group
that is FREE in the planned state (log 20: deduced) and verifies it, or with none is decided DARK; under another policy it is
recorded alone. The policy is that at this moment (log 21: deduced). What the room then lets in is DESCRIPTOR_TAKE in the
same event (log 6: deduced). -/
def Obligations.ProbesDecideTheOutcome : Prop :=
  ∀ (t : TestRecord) (knee : Option (Fin 255)) (n : Nat) (c c' : Check) (s : State),
    EndsAlone t s → NoReplyDue s → t.source = .probe n → s.corr.check = some c → c.verify = none →
    c' = (match classify t knee with
      | .inconclusive => { c with hotSeen := true }
      | .good => { c with probes := c.probes.mapIdx fun i p => if i = n then { p with result := .pass } else p }
      | _ => { c with probes := c.probes.mapIdx fun i p => if i = n then { p with result := .fail } else p }) →
    (classify t knee = .inconclusive ∨ (∃ p ∈ c'.probes, p.result = .pending) →
      ∃ u, exec (.testCompletion knee) s = .next u
        ∧ u.corr = { check := some c' } ∧ u.sense = { s.sense with test := none } ∧ u.track = s.track
        ∧ u.repair = s.repair ∧ u.unit = s.unit ∧ u.ctl = s.ctl ∧ u.store = s.store ∧ u.comp = s.comp ∧ u.link = s.link)
    ∧ (∀ a b x y, classify t knee ≠ .inconclusive → c'.probes.map Probe.result = [a, b, x, y] →
        (∀ p ∈ [a, b, x, y], p ≠ .pending) → s.ctl.mode ≠ .standby → (∀ z ∈ s.track.suspects, z.held = none) →
      let l := c.die.lane
      let auto : Bool := s.unit.params.policy == .auto
      let listed : Prop := s.repair.defects.length < 192
      let unlisted (d : Target) : Prop := 192 ≤ s.repair.defects.length ∧ ∀ z ∈ s.repair.defects, z.target ≠ d
      let room : Prop := s.repair.changes.length < 16
      let noRoom : Prop := 16 ≤ s.repair.changes.length
      let without (p : DieRef → Bool) : Tracker :=
        ⟨s.track.suspects.filter fun z => !p z.die, s.track.queue.filter fun z => !p z.die⟩
      let recorded (x : Defect) (changes : List Change) : Repair :=
        { s.repair with
          defects := listWith s x, seqCounter := (s.repair.seqCounter + 1) % 65536, changes := s.repair.changes ++ changes }
      let laneDark : Defect := record s (.lane l) .laneDead .laneDark none false c.hotSeen .sensed
      let leftOut (w : State) : Prop :=
        w.repair = { s.repair with unrecorded := min (s.repair.unrecorded + 1) 65535 } ∧ w.unit = unitFull s
      let waits (w : State) (x : Waiting) : Prop := w.repair = { s.repair with waiting := some x } ∧ w.unit = s.unit
      let ended (w : State) : Prop := w.corr.check = none ∧ w.sense = { s.sense with test := none, tried := .clear }
      let held (w : State) (h : HeldLane) : Prop := w.corr.check = some c' ∧ w.sense = { s.sense with test := none }
        ∧ w.repair.heldLane = some h
      ∃ w, exec (.testCompletion knee) s = exec .descriptorTake w
        ∧ w.ctl = s.ctl ∧ w.store = s.store ∧ w.comp = s.comp ∧ w.link = s.link
        ∧ (x = .fail → y = .fail → a = .fail → b = .fail →
            ended w
            ∧ (listed → w.track = without (· == c.die)
              ∧ w.repair = recorded (record s (.die c.die.row l c.die.die) .wide .none none false c.hotSeen .sensed) []
              ∧ w.unit = { unitNoted s with
                  params := { s.unit.params with policy := .suspended }
                  notices := { (unitNoted s).notices with
                    wideFault := s.unit.notices.wideFault || s.unit.params.noticeMask.wideFault } })
            ∧ (unlisted (.die c.die.row l c.die.die) → w.track = s.track ∧ leftOut w))
        ∧ (x = .fail → y = .fail → ¬ (a = .fail ∧ b = .fail) →
            ended w
            ∧ (listed → room ∨ auto = false → w.track = without (·.row == c.die.row) ∧ w.unit = unitNoted s
                ∧ w.repair = recorded
                    (record s (.row c.die.row) .rowDead (if auto then .rowConceal else .none) none false c.hotSeen .sensed)
                    (if auto then [.row c.die.row .lost] else []))
            ∧ (listed → noRoom → auto = true → w.track = s.track ∧ waits w (.row c.die.row c.hotSeen))
            ∧ (unlisted (.row c.die.row) → w.track = s.track ∧ leftOut w))
        ∧ (¬ (x = .fail ∧ y = .fail) → ¬ (a = .fail ∧ b = .fail) → ∃ action entry,
            (action, entry) = (if auto then
                (match plannedCell s c.die.row l, c.die.die with
                  | .aActive, .a => if (cellEntry s c.die.row l).healthB.bad then (DefectAction.conceal, [CellState.concealed])
                      else (.dieSwap, [.bActive])
                  | .bActive, .b => if (cellEntry s c.die.row l).healthA.bad then (.conceal, [.concealed])
                      else (.dieSwap, [.aActive])
                  | _, _ => (.none, []))
              else (.none, []))
            ∧ ended w
            ∧ (listed → room ∨ entry = [] → w.track = without (· == c.die) ∧ w.unit = unitNoted s
              ∧ w.repair = { recorded (record s (.die c.die.row l c.die.die) .openDie action none false c.hotSeen .sensed)
                    (entry.map (Change.cell c.die.row l)) with
                  cells := cellSet s.repair.cells c.die.row l ((cellEntry s c.die.row l).withHealth c.die.die .openDie) })
            ∧ (listed → noRoom → entry ≠ [] → w.track = s.track ∧ waits w (.cell c.die .openDie c.hotSeen))
            ∧ (unlisted (.die c.die.row l c.die.die) → w.track = s.track ∧ leftOut w))
        ∧ (¬ (x = .fail ∧ y = .fail) → a = .fail → b = .fail →
          w.track = without (·.lane == l)
          ∧ (auto = false →
            ended w
            ∧ (listed → w.unit = unitNoted s
              ∧ w.repair = recorded (record s (.lane l) .laneDead .none none false c.hotSeen .sensed) [])
            ∧ (unlisted (.lane l) → leftOut w))
          ∧ (auto = true → (∃ k, laneNow s l = .spared k) →
              (listed → room → held w ⟨true, false⟩ ∧ w.unit = unitNoted s
                ∧ w.repair = { recorded laneDark [.lane l .dark .failed] with heldLane := w.repair.heldLane })
              ∧ (listed → noRoom → held w ⟨false, true⟩ ∧ w.unit = s.unit
                ∧ w.repair = { s.repair with heldLane := w.repair.heldLane })
              ∧ (unlisted (.lane l) → ended w ∧ leftOut w))
          ∧ (auto = true → (∀ k, laneNow s l ≠ .spared k) → (∃ z ∈ s.repair.slots, z.isReserved = true) →
              held w ⟨false, false⟩ ∧ w.unit = s.unit ∧ w.repair = { s.repair with heldLane := w.repair.heldLane })
          ∧ (auto = true → (∀ k, laneNow s l ≠ .spared k) → (∀ z ∈ s.repair.slots, z.isReserved = false) →
              (∀ k d, k = 2 * (l / 24) ∨ (k = 2 * (l / 24) + 1 ∧ plannedSlot s (2 * (l / 24)) ≠ .free) →
                plannedSlot s k = .free → (plannedCell s c.die.row l).selected = some d →
                w.corr.check = some { c' with verify := some ⟨k, { c.die with die := d }, [k], false⟩ }
                ∧ w.sense = { s.sense with test := none, tried := { s.sense.tried with verify := false } }
                ∧ w.unit = s.unit ∧ w.repair = { s.repair with slots := s.repair.slots.set k (.reserved l) })
              ∧ (plannedSlot s (2 * (l / 24)) ≠ .free → plannedSlot s (2 * (l / 24) + 1) ≠ .free →
                ended w
                ∧ (listed → room → w.unit = unitNoted s ∧ w.repair = recorded laneDark [.lane l .dark .failed])
                ∧ (listed → noRoom → waits w (.lane l c.hotSeen .noSlot))
                ∧ (unlisted (.lane l) → leftOut w)))))

/-- TEST_COMPLETION of a check's verify in a window that has closed (R115, R118, R119): INCONCLUSIVE changes nothing;
GOOD ends the check with the lane SPARED by the slot through the Pending Change List, its record counted and noticed (R135),
and earlier tried slots that are FREE become FAILED with LANE_EVENT pending (log 19: deduced, where one is no longer FREE), or
with that decision waiting for room; a failing result frees the slot and reserves the next FREE one (log 20: deduced) with its
verify pending, or with none left the lane is decided DARK, its entry left out where it is isolated already (log 16: deduced);
with the Defect List full and no record the decision is left unrecorded and its slots FREE. TEST_COMPLETION of a bind's verify (R127): INCONCLUSIVE changes nothing; a failing result frees the slot and
is answered with the result; GOOD with room makes or replaces the record, adds the lane change and is answered bound;
with a place for the record and the Pending Change List full it waits, with its record stamped now; with the Defect List
full and no record of the lane it is answered FULL at once and its slot is FREE, whatever room the changes have (R135). A reply that finds no place waits (R166). -/
def Obligations.VerifiesMoveTheSlots : Prop :=
  (∀ (t : TestRecord) (knee : Option (Fin 255)) (j : Nat) (c : Check) (v : Verify) (s : State),
    EndsAlone t s → NoReplyDue s → t.source = .verify j → s.corr.check = some c → c.verify = some v →
    let l := c.die.lane
    let failed : Prop := classify t knee = .openDie ∨ classify t knee = .shortDie
    let untried (k : Nat) : Prop := plannedSlot s k = .free ∧ k ∉ v.tried
    let recorded (x : Defect) (changes : List Change) (slots : List SlotState) : Repair :=
      { s.repair with
        defects := listWith s x, seqCounter := (s.repair.seqCounter + 1) % 65536
        changes := s.repair.changes ++ changes, slots := slots }
    let freed : List SlotState := s.repair.slots.mapIdx fun k x => if k ∈ v.tried ∧ x = .reserved l then .free else x
    let blamed (k : Nat) : Bool := decide (k ∈ v.tried ∧ k ≠ v.slot ∧ slotNow s k = .free)
    let ended (w : State) : Prop :=
      w.corr.check = none ∧ w.sense = { s.sense with test := none, tried := .clear } ∧ w.track = s.track
    ∃ w, exec (.testCompletion knee) s = exec .descriptorTake w
      ∧ w.ctl = s.ctl ∧ w.store = s.store ∧ w.link = s.link
      ∧ (classify t knee = .inconclusive →
          w.corr = s.corr ∧ w.repair = s.repair ∧ w.track = s.track ∧ w.unit = s.unit
          ∧ w.sense = { s.sense with test := none })
      ∧ (s.ctl.mode ≠ .standby → (∀ z ∈ s.track.suspects, z.held = none) → s.repair.defects.length < 192 →
        (classify t knee = .good →
          ended w
          ∧ (s.repair.changes.length < 16 →
            w.repair = recorded
              (record s (.lane l) .laneDead .spareBound (some v.slot) (decide (1 < v.tried.length)) c.hotSeen .sensed)
              [.lane l (.spared v.slot) .failed]
              (s.repair.slots.mapIdx fun k x => if blamed k then .failed else x)
            ∧ w.unit = { unitNoted s with notices := { (unitNoted s).notices with
                laneEvent := s.unit.notices.laneEvent || (v.tried.any blamed && s.unit.params.noticeMask.laneEvent) } })
          ∧ (16 ≤ s.repair.changes.length → w.unit = s.unit
            ∧ w.repair = { s.repair with waiting := some (.lane l c.hotSeen (.sparedBy v.slot v.tried)) }))
        ∧ (failed → v.slot ∈ v.tried →
          (∀ k, k = 2 * (l / 24) ∨ (k = 2 * (l / 24) + 1 ∧ ¬ untried (2 * (l / 24))) → untried k →
            w.corr.check = some { c with verify := some ⟨k, v.die, v.tried ++ [k], v.isolated⟩ }
            ∧ w.repair = { s.repair with slots := (s.repair.slots.set v.slot .free).set k (.reserved l) }
            ∧ w.track = s.track ∧ w.unit = s.unit
            ∧ w.sense = { s.sense with test := none, tried := { s.sense.tried with verify := false } })
          ∧ (¬ untried (2 * (l / 24)) → ¬ untried (2 * (l / 24) + 1) →
            ended w
            ∧ (v.isolated = true → w.unit = unitNoted s ∧ w.repair =
                recorded (record s (.lane l) .laneDead .laneDark none true c.hotSeen .sensed) [] freed)
            ∧ (v.isolated = false → s.repair.changes.length < 16 → w.unit = unitNoted s ∧ w.repair =
                recorded (record s (.lane l) .laneDead .laneDark none true c.hotSeen .sensed) [.lane l .dark .failed] freed)
            ∧ (v.isolated = false → 16 ≤ s.repair.changes.length → w.unit = s.unit
                ∧ w.repair = { s.repair with waiting := some (.lane l c.hotSeen (.allFailed v.tried)) }))))
      ∧ ((∀ z ∈ s.track.suspects, z.held = none) → 192 ≤ s.repair.defects.length →
          (∀ z ∈ s.repair.defects, z.target ≠ .lane l) → classify t knee = .good →
          ended w ∧ w.repair = { s.repair with unrecorded := min (s.repair.unrecorded + 1) 65535, slots := freed }
          ∧ w.unit = unitFull s))
  ∧ (∀ (t : TestRecord) (knee : Option (Fin 255)) (j : Nat) (b : Machine.Bind) (r : TestResult) (s : State),
    EndsAlone t s → s.sense.spots = [] → t.source = .verify j → (∀ c, s.corr.check = some c → c.verify = none) →
    s.repair.bind = some b → b.stage = .verifying → NoTake s ∨ s.track.queue = [] → r = classify t knee →
    ∃ u, exec (.testCompletion knee) s = .next u
      ∧ u.ctl = s.ctl ∧ u.store = s.store ∧ u.link = s.link ∧ u.corr = s.corr ∧ u.track = s.track
      ∧ u.sense = { s.sense with test := none }
      ∧ (let answered (p : List Byte) (x : Repair) (m : MessageUnit) : Prop :=
           let y : Reply := ⟨b.src, 0x8C, b.tag, p, false⟩
           (s.unit.replies.length < 8 →
             u.repair = { x with bind := none } ∧ u.unit = { m with replies := s.unit.replies ++ [y] })
           ∧ (8 ≤ s.unit.replies.length → u.repair = { x with bind := some { b with stage := .ended y } } ∧ u.unit = m)
         let place : Prop := s.repair.defects.length < 192 ∨ ∃ z ∈ s.repair.defects, z.target = .lane b.lane
         (r = .inconclusive → u.repair = s.repair ∧ u.unit = s.unit)
         ∧ (r = .openDie ∨ r = .shortDie →
             answered [0, if r = .openDie then 1 else 2, BitVec.ofNat 8 (reportedT t knee), 0]
               { s.repair with slots := s.repair.slots.set b.slot .free } s.unit)
         ∧ (r = .good → place → 16 ≤ s.repair.changes.length → u.unit = s.unit ∧ u.repair = { s.repair with
             bind := some { b with
               stage := .waitsForRoom (reportedT t knee) (s.store.frameCount % 65536) s.sense.sample } })
         ∧ (r = .good → place → s.repair.changes.length < 16 → s.ctl.mode ≠ .standby →
             answered [0, 0, BitVec.ofNat 8 (reportedT t knee), 1]
               { s.repair with
                 defects := listWith s (record s (.lane b.lane) .manual .spareBound (some b.slot) false false .manual)
                 seqCounter := (s.repair.seqCounter + 1) % 65536
                 changes := s.repair.changes ++ [.lane b.lane (.spared b.slot) .free] } (unitNoted s))
         ∧ (r = .good → ¬ place →
             answered [7] { s.repair with slots := s.repair.slots.set b.slot .free } s.unit)))

/-- WAITING_DECISION_TAKEN outside STANDBY with room made (R115, R116, R118, R119, R120, R135): the record and the entry of
the waiting decision are added, counted and noticed. A CELL decision sets the health and acts on the cell as it is then
planned; a ROW decision loses the row; a LANE decision whose verify passed on slot k spares the lane by it, with the earlier
tried slots that are FREE blamed (log 19: deduced, where one is no longer FREE), and one with every tried slot failed, or
with no slot, darkens it and frees the slots still RESERVED to it. The decision is taken as under AUTO (log 21: deduced).
BIND_WAIT_COMPLETE outside STANDBY with room made (R127): the MANUAL record stamped at the GOOD result, new or in place of
the lane's, the lane change with disposition FREE, and the reply OK with the result, t and bound; where the Defect List has
filled since the GOOD and the lane has no record, the reply FULL and the slot FREE (log 33: the model's choice). -/
def Obligations.RoomLetsWaitingDecisionsAndBindsIn : Prop :=
  (∀ s : State, s.ctl.mode ≠ .standby → s.repair.changes.length < 16 → s.repair.defects.length < 192 → FaultPathQuiet s →
      s.track.suspects = [] →
      let recorded (x : Defect) (changes : List Change) : Repair :=
        { s.repair with
          waiting := none, defects := listWith s x, seqCounter := (s.repair.seqCounter + 1) % 65536
          changes := s.repair.changes ++ changes }
      let taken (m : MessageUnit) (x : Repair) : Prop :=
        ∃ t, exec .waitingDecisionTaken s = .next t ∧ t.repair = x ∧ t.unit = m ∧ t.track = s.track ∧ t.corr = s.corr
          ∧ t.link = s.link ∧ t.ctl = s.ctl ∧ t.store = s.store ∧ t.comp = s.comp ∧ t.scan = s.scan ∧ t.sense = s.sense
      let blamed (k : Nat) (tried : List Nat) (j : Nat) : Bool := decide (j ∈ tried ∧ j ≠ k ∧ slotNow s j = .free)
      (∀ x k hot action entry, s.repair.waiting = some (.cell x k hot) →
        (action, entry) =
          (match plannedCell s x.row x.lane, x.die with
            | .aActive, .a => if (cellEntry s x.row x.lane).healthB.bad then (DefectAction.conceal, [CellState.concealed])
                else (.dieSwap, [.bActive])
            | .bActive, .b => if (cellEntry s x.row x.lane).healthA.bad then (.conceal, [.concealed])
                else (.dieSwap, [.aActive])
            | _, _ => (.none, [])) →
        taken (unitNoted s) { recorded (record s (.die x.row x.lane x.die)
              (match k with | .openDie => .openDie | .shortDie => .shortDie | .intermittent => .intermittent)
              action none false hot .sensed) (entry.map (Change.cell x.row x.lane)) with
            cells := cellSet s.repair.cells x.row x.lane ((cellEntry s x.row x.lane).withHealth x.die
              (match k with | .openDie => .openDie | .shortDie => .shortDie | .intermittent => .flaky)) })
      ∧ (∀ r hot, s.repair.waiting = some (.row r hot) →
        taken (unitNoted s) (recorded (record s (.row r) .rowDead .rowConceal none false hot .sensed) [.row r .lost]))
      ∧ (∀ l hot k tried, s.repair.waiting = some (.lane l hot (.sparedBy k tried)) →
        taken { unitNoted s with notices := { (unitNoted s).notices with
              laneEvent := s.unit.notices.laneEvent
                || (tried.any (blamed k tried) && s.unit.params.noticeMask.laneEvent) } }
          { recorded (record s (.lane l) .laneDead .spareBound (some k) (decide (1 < tried.length)) hot .sensed)
              [.lane l (.spared k) .failed] with
            slots := s.repair.slots.mapIdx fun j x => if blamed k tried j then .failed else x })
      ∧ (∀ l hot tried, s.repair.waiting = some (.lane l hot (.allFailed tried)) →
        taken (unitNoted s)
          { recorded (record s (.lane l) .laneDead .laneDark none true hot .sensed) [.lane l .dark .failed] with
            slots := s.repair.slots.mapIdx fun j x => if j ∈ tried ∧ x = .reserved l then .free else x })
      ∧ (∀ l hot, s.repair.waiting = some (.lane l hot .noSlot) →
        taken (unitNoted s)
          (recorded (record s (.lane l) .laneDead .laneDark none false hot .sensed) [.lane l .dark .failed])))
  ∧ (∀ (b : Bind) (t frame : Nat) (temp : Int) (s : State), s.repair.bind = some b → b.stage = .waitsForRoom t frame temp →
      s.ctl.mode ≠ .standby → s.repair.changes.length < 16 → FaultPathQuiet s →
      s.sense.spots = [] → s.unit.replies.length < 8 →
      let place : Prop := s.repair.defects.length < 192 ∨ ∃ z ∈ s.repair.defects, z.target = .lane b.lane
      (place → ∃ u, exec .bindWaitComplete s = .next u
        ∧ u.repair.bind = none
        ∧ u.repair.changes = s.repair.changes ++ [.lane b.lane (.spared b.slot) .free]
        ∧ u.repair.defects
            = listWith s ⟨0, .lane b.lane, .manual, .spareBound, some b.slot, false, false, .manual, frame, temp⟩
        ∧ u.repair.slots = s.repair.slots ∧ u.repair.lanes = s.repair.lanes
        ∧ u.repair.cells = s.repair.cells ∧ u.repair.rows = s.repair.rows ∧ u.comp = s.comp
        ∧ u.unit = { unitNoted s with
            replies := s.unit.replies ++ [⟨b.src, 0x8C, b.tag, [0, 0, BitVec.ofNat 8 t, 1], false⟩] }
        ∧ SameButRepair s u)
      ∧ (¬ place → ∃ u, exec .bindWaitComplete s = .next u
        ∧ u.repair = { s.repair with bind := none, slots := s.repair.slots.set b.slot .free }
        ∧ u.unit = { s.unit with replies := s.unit.replies ++ [⟨b.src, 0x8C, b.tag, [7], false⟩] }
        ∧ SameButRepair s u))

/-- ISOLATION_ENTRY_ADDED (R115, R117, R135): an isolation that waited is taken when there is room: the record for the lane
is added or replaced, counted and noticed, the lane change to DARK is added, and the hold stands while the lane is still
SPARED. With no room nothing happens; with no place for the record the decision is left unrecorded and the check ends
(log 16: deduced). LANE_HOLD_RELEASE (R98, R108, R117, R119): the engine
reserves the lowest free slot of the lane's group and the check enters VERIFYING, or with none the lane is decided DARK
and the check ends. -/
def Obligations.HeldLaneDecisionsResume : Prop :=
  (∀ (c : Check) (h : HeldLane) (s : State), s.corr.check = some c → s.repair.heldLane = some h →
      h.isolationWaits = true →
      let place : Prop := s.repair.defects.length < 192 ∨ ∃ z ∈ s.repair.defects, z.target = .lane c.die.lane
      (place → s.repair.changes.length < 16 → s.ctl.mode ≠ .standby → (∃ k, laneNow s c.die.lane = .spared k) →
        exec .isolationEntryAdded s = .next ((s.withRepair { s.repair with
          defects := listWith s (record s (.lane c.die.lane) .laneDead .laneDark none false c.hotSeen .sensed)
          seqCounter := (s.repair.seqCounter + 1) % 65536
          changes := s.repair.changes ++ [.lane c.die.lane .dark .failed]
          heldLane := some ⟨true, false⟩ }).withUnit (unitNoted s)))
      ∧ (16 ≤ s.repair.changes.length → exec .isolationEntryAdded s = .next s)
      ∧ (¬ place → s.repair.changes.length < 16 → s.track.queue = [] → s.track.suspects = [] →
        exec .isolationEntryAdded s = .next ((((s.withRepair { s.repair with
          unrecorded := min (s.repair.unrecorded + 1) 65535, heldLane := none }).withUnit (unitFull s)).withCorr
            { check := none }).withSense { s.sense with tried := .clear })))
  ∧ (∀ (c : Check) (h : HeldLane) (s : State), s.corr.check = some c → s.repair.heldLane = some h → h.isolationWaits = false →
      (∀ x ∈ s.repair.slots, x.isReserved = false) → (laneNow s c.die.lane).slot = none → s.repair.slots.length = 12 →
      c.die.lane < 144 →
      (∀ k d, freeSlotFor s c.die.lane [] = some k → (plannedCell s c.die.row c.die.lane).selected = some d →
        exec .laneHoldRelease s
          = .next (((s.withRepair { s.repair with
              heldLane := none, slots := s.repair.slots.set k (.reserved c.die.lane) }).withCorr
                { check := some { c with verify := some ⟨k, { c.die with die := d }, [k], h.isolated⟩ } }).withSense
                  { s.sense with tried := { s.sense.tried with verify := false } })
        ∧ k / 2 = c.die.lane / 24)
      ∧ (freeSlotFor s c.die.lane [] = none → h.isolated = false → s.ctl.mode ≠ .standby → s.track.queue = [] →
          s.track.suspects = [] → s.repair.changes.length < 16 → s.repair.defects.length < 192 →
        ∃ t, exec .laneHoldRelease s = .next t
          ∧ t.corr.check = none ∧ t.repair.heldLane = none ∧ t.unit = unitNoted s
          ∧ t.repair.changes = s.repair.changes ++ [.lane c.die.lane .dark .failed]
          ∧ t.repair.defects = listWith s (record s (.lane c.die.lane) .laneDead .laneDark none false c.hotSeen .sensed)
          ∧ t.repair.slots = s.repair.slots ∧ t.repair.lanes = s.repair.lanes ∧ t.repair.cells = s.repair.cells
          ∧ t.repair.rows = s.repair.rows ∧ t.repair.bind = s.repair.bind ∧ t.track = s.track ∧ t.link = s.link
          ∧ t.ctl = s.ctl ∧ t.store = s.store ∧ t.comp = s.comp ∧ t.scan = s.scan
          ∧ t.sense = { s.sense with tried := .clear }))

/-- The application of the Pending Change List (R110 to R113, R47): its entries in order, each in turn. A cell change
sets the state of that cell alone; a row change the entry of that row, with ROW_LOST pending where it differs; a removal
takes out the record of that target and seq; a lane change sets the lane, binds the slot of a SPARED lane at this frame
count, and makes a slot displaced FAILED or FREE as the entry says, with LANE_EVENT pending where a slot is bound or
displaced or the lane enters or leaves DARK. A lane change keeps the first part of the slot law of R108 when the slot it
names is bound to no other lane. After the last entry, outside RUN, the victims and forced-off cells of the Output Table
are 0; in RUN a composition follows. -/
def Obligations.ChangesAreApplied : Prop :=
  (∀ (r l : Nat) (st : CellState) (frame : Nat) (s : State),
      let t := applyChange frame s (.cell r l st)
      t = s.withRepair { s.repair with cells := t.repair.cells }
      ∧ (HasCell s r l → cellEntry t r l = { cellEntry s r l with state := st })
      ∧ (∀ r' l', r' ≠ r ∨ l' ≠ l → cellEntry t r' l' = cellEntry s r' l'))
  ∧ (∀ (r : Nat) (st : RowState) (frame : Nat) (s : State),
      let t := applyChange frame s (.row r st)
      t = ((if rowNow s r = st then s else raise .rowLost s).withRepair { s.repair with rows := s.repair.rows.set r st }))
  ∧ (∀ (x : Target) (seq frame : Nat) (s : State),
      applyChange frame s (.removal x seq)
        = s.withRepair { s.repair with
            defects := s.repair.defects.filter fun y => decide (y.target ≠ x ∨ y.seq ≠ seq) })
  ∧ (∀ (l : Nat) (st : LaneState) (disp : Disposition) (frame : Nat) (s : State),
      let t := applyChange frame s (.lane l st disp)
      let shows : Prop := (∃ k, st = .spared k) ∨ (∃ f, .bound l f ∈ s.repair.slots) ∨ (laneNow s l = .dark ↔ st ≠ .dark)
      (l < s.repair.lanes.length → laneNow t l = st)
      ∧ (∀ l', l' ≠ l → laneNow t l' = laneNow s l')
      ∧ (∀ k, k < s.repair.slots.length →
          slotNow t k = (if st = .spared k then .bound l frame
            else if (slotNow s k).boundTo l = true then (match disp with | .failed => .failed | .free => .free)
            else slotNow s k))
      ∧ (shows → t = (raise .laneEvent s).withRepair { s.repair with lanes := t.repair.lanes, slots := t.repair.slots })
      ∧ (¬ shows → t = s.withRepair { s.repair with lanes := t.repair.lanes, slots := t.repair.slots }))
  ∧ (∀ (l : Nat) (st : LaneState) (disp : Disposition) (frame : Nat) (s : State),
      SlotLaneLaw s → s.repair.slots.length = 12 → s.repair.lanes.length = 144 → l < 144 →
      (∀ k, st = .spared k → k < 12 ∧ ∀ l', l' ≠ l → (slotNow s k).boundTo l' = false) →
      SlotLaneLaw (applyChange frame s (.lane l st disp)))
  ∧ (∀ s : State,
      (∀ c rest, s.repair.changes = c :: rest →
        applyChanges s
          = applyChanges (applyChange s.store.frameCount (s.withRepair { s.repair with changes := rest }) c))
      ∧ (s.repair.changes = [] → s.ctl.mode = .run → applyChanges s = s)
      ∧ (s.repair.changes = [] → s.ctl.mode ≠ .run →
          applyChanges s = s.withComp { s.comp with pulses := (applyChanges s).comp.pulses }
          ∧ ∀ r l, cellAt (applyChanges s).comp.pulses r l 0
              = if isVictim s r l = true ∨ isForcedOff s r l = true then 0 else cellAt s.comp.pulses r l 0))

/-! ## Manual repair -/

/-- SELECT_A, SELECT_B, CONCEAL and FORCE_OFF accepted (R123, R124, R135): the MANUAL record, counted and with DEFECT pending
where that kind is enabled, the entry and the reply OK, a select only where its die is not bad. Each of the four is refused
(R123) by its checks in their order: FIELD, BUSY for a check on its row or lane, BUSY for a full Pending Change List, STATE for
a select of a bad die, FULL; a refusal changes nothing but its reply. -/
def Obligations.ManualCellActionsAreJudgedAndDone : Prop :=
  (∀ (q : Request) (s : State), CellActionFits q s →
      (RepairDispatched 1 q s → (cellEntry s (byteAt q.payload 1) (byteAt q.payload 2)).healthA.bad = false →
        ∃ t, exec (.selectA q) s = .next t ∧ CellActionDone q .aActive .selectA s t ∧ SameButRepair (atTake 0x0C q s) t)
      ∧ (RepairDispatched 2 q s → (cellEntry s (byteAt q.payload 1) (byteAt q.payload 2)).healthB.bad = false →
        ∃ t, exec (.selectB q) s = .next t ∧ CellActionDone q .bActive .selectB s t ∧ SameButRepair (atTake 0x0C q s) t)
      ∧ (RepairDispatched 3 q s →
        ∃ t, exec (.conceal q) s = .next t ∧ CellActionDone q .concealed .conceal s t ∧ SameButRepair (atTake 0x0C q s) t)
      ∧ (RepairDispatched 4 q s →
        ∃ t, exec (.forceOff q) s = .next t ∧ CellActionDone q .forcedOff .forceOff s t
          ∧ SameButRepair (atTake 0x0C q s) t))
  ∧ (∀ (q : Request) (s : State),
      let r := byteAt q.payload 1
      let l := byteAt q.payload 2
      let refused (run : Host.Outcome State Fault Refusal) (badDie : Bool) : Prop :=
        RefusedInOrder run (fun x => .next ((atTake 0x0C q s).replying (replyOf 0x0C q x [])))
          [(depth s ≤ r ∨ 144 ≤ l, 4), (∃ c, s.corr.check = some c ∧ (c.die.row = r ∨ c.die.lane = l), 2),
            (16 ≤ s.repair.changes.length, 2), (badDie = true, 3),
            (192 ≤ s.repair.defects.length ∧ ∀ x ∈ s.repair.defects, x.target ≠ .cell r l, 7)]
      (RepairDispatched 1 q s → refused (exec (.selectA q) s) (cellEntry s r l).healthA.bad)
      ∧ (RepairDispatched 2 q s → refused (exec (.selectB q) s) (cellEntry s r l).healthB.bad)
      ∧ (RepairDispatched 3 q s → refused (exec (.conceal q) s) false)
      ∧ (RepairDispatched 4 q s → refused (exec (.forceOff q) s) false))

/-- REPAIR refused (R123, 7.5): for each operation its checks in their order and the status of the first that applies; a
refusal changes nothing but its reply. FIELD for a target that is not of the tile, and for an unknown operation (log 29:
whichever row carries it); BUSY for a check or a bind that is in the way and for a full Pending Change List; STATE,
CONFLICT, NOT_FOUND and FULL as each operation has them. RELEASE_DIE with a die code above 1 is FIELD (log 18: deduced)
and counts a CELL record whose removal is listed as gone (log 17: deduced); BIND reads the planned state of its slot and
UNBIND the current one (log 20: deduced), and BIND is refused FULL already here (log 30: deduced). -/
def Obligations.RepairsAreRefusedInOrder : Prop :=
  ∀ (q : Request) (s : State),
    let no (x : Byte) : Host.Outcome State Fault Refusal := .next ((atTake 0x0C q s).replying (replyOf 0x0C q x []))
    let r := byteAt q.payload 1
    let l := byteAt q.payload 2
    let k := byteAt q.payload 3
    let noCell : Prop := depth s ≤ r ∨ 144 ≤ l
    let cellBusy : Prop := ∃ c, s.corr.check = some c ∧ (c.die.row = r ∨ c.die.lane = l)
    let full (n : Nat) : Prop := 16 < s.repair.changes.length + n
    let noRecord (t : Target) : Prop := 192 ≤ s.repair.defects.length ∧ ∀ x ∈ s.repair.defects, x.target ≠ t
    let notFound (t : Target) : Prop := standingRecord s t = none
    let dieCode : Die := if k = 0 then .a else .b
    (RepairDispatched 1 q s → RefusedInOrder (exec (.selectA q) s) no
      [(noCell, 4), (cellBusy, 2), (full 1, 2), ((cellEntry s r l).healthA.bad = true, 3), (noRecord (.cell r l), 7)])
    ∧ (RepairDispatched 2 q s → RefusedInOrder (exec (.selectB q) s) no
      [(noCell, 4), (cellBusy, 2), (full 1, 2), ((cellEntry s r l).healthB.bad = true, 3), (noRecord (.cell r l), 7)])
    ∧ (RepairDispatched 3 q s → RefusedInOrder (exec (.conceal q) s) no
      [(noCell, 4), (cellBusy, 2), (full 1, 2), (noRecord (.cell r l), 7)])
    ∧ (RepairDispatched 4 q s → RefusedInOrder (exec (.forceOff q) s) no
      [(noCell, 4), (cellBusy, 2), (full 1, 2), (noRecord (.cell r l), 7)])
    ∧ (RepairDispatched 5 q s → RefusedInOrder (exec (.releaseCell q) s) no
      [(noCell, 4), (cellBusy, 2), (full 2, 2), (notFound (.cell r l), 10)])
    ∧ (RepairDispatched 6 q s → RefusedInOrder (exec (.releaseDie q) s) no
      [(noCell ∨ 2 ≤ k, 4), (cellBusy, 2), (full 1 ∨ (notFound (.cell r l) ∧ full 2), 2),
        (notFound (.die r l dieCode), 10)])
    ∧ (RepairDispatched 10 q s → RefusedInOrder (exec (.releaseRow q) s) no
      [(depth s ≤ r, 4), (∃ c, s.corr.check = some c ∧ c.die.row = r, 2), (full 2, 2), (notFound (.row r), 10)])
    ∧ (RepairDispatched 7 q s → RefusedInOrder (exec (.bind q) s) no
      [(144 ≤ l ∨ 12 ≤ k, 4), (k / 2 ≠ l / 24, 4), (s.corr.check ≠ none, 2), (s.repair.bind ≠ none, 2),
        (∀ i, i < depth s → plannedRow s i = .lost ∨ (plannedCell s i l).selected = none
          ∨ ∃ d, (plannedCell s i l).selected = some d ∧ ((cellEntry s i l).health d).bad = true, 3),
        (plannedSlot s k ≠ .free ∨ (∃ j, plannedLane s l = .spared j)
          ∨ ∃ x ∈ s.repair.slots, x = .reserved l ∨ ∃ f, x = .bound l f, 9),
        (noRecord (.lane l), 7)])
    ∧ (RepairDispatched 8 q s → RefusedInOrder (exec (.unbindLane q) s) no
      [(144 ≤ l, 4), (∃ c, s.corr.check = some c ∧ c.die.lane = l, 2),
        (∃ b, s.repair.bind = some b ∧ b.lane = l ∧ ∀ z, b.stage ≠ .ended z, 2),
        (full 1 ∨ (plannedLane s l ≠ .normal ∧ full 2), 2), (notFound (.lane l), 10)])
    ∧ (RepairDispatched 9 q s → RefusedInOrder (exec (.unbindSlot q) s) no
      [(12 ≤ k, 4), (slotNow s k ≠ .failed, 3)])
    ∧ (Dispatched 0x0C q s → byteAt q.payload 0 = 0 ∨ 10 < byteAt q.payload 0 →
      ∀ i ∈ [Instr.selectA q, .selectB q, .conceal q, .forceOff q, .releaseCell q, .releaseDie q, .bind q, .unbindLane q,
        .unbindSlot q, .releaseRow q], exec i s = no 4)

/-- The releases (R123, R125). Outside STANDBY: the map entry followed by the removal of the record named, with the
health of a released die UNKNOWN at once; a target without a record is answered NOT_FOUND. In STANDBY (R112, R47): the
same entries are applied at once, so the cell, or the row with ROW_LOST pending, is as released, the record is gone, and
the Output Table holds 0 for what is then dark. A CELL record whose removal is listed counts as gone (log 17: deduced).
-/
def Obligations.ReleasesUndoRecordedActions : Prop :=
  (∀ (q : Request) (s : State), s.ctl.mode ≠ .standby → s.corr.check = none → s.repair.changes.length + 2 ≤ 16 →
    let r := byteAt q.payload 1
    let l := byteAt q.payload 2
    let done (cs : List Change) : Host.Outcome State Fault Refusal :=
      .next (((atTake 0x0C q s).withRepair { s.repair with changes := s.repair.changes ++ cs }).replying (replyOf 0x0C q 0 []))
    (RepairDispatched 5 q s → r < depth s → l < 144 →
      (∀ x, standingRecord s (.cell r l) = some x →
        exec (.releaseCell q) s = done [.cell r l (automaticState (cellEntry s r l)), .removal x.target x.seq])
      ∧ (standingRecord s (.cell r l) = none →
        exec (.releaseCell q) s = .next ((atTake 0x0C q s).replying (replyOf 0x0C q 10 []))))
    ∧ (∀ (d : Die) (x : Defect), RepairDispatched 6 q s → r < depth s → l < 144 →
        byteAt q.payload 3 = (match d with | .a => 0 | .b => 1) →
        standingRecord s (.die r l d) = some x → HasCell s r l →
        let e := (cellEntry s r l).withHealth d .unknown
        ∃ t, exec (.releaseDie q) s = .next t
          ∧ cellEntry t r l = e
          ∧ t.repair.changes = s.repair.changes
              ++ (if standingRecord s (.cell r l) = none then [.cell r l (automaticState e)] else [])
              ++ [.removal x.target x.seq]
          ∧ t.unit.replies = s.unit.replies ++ [replyOf 0x0C q 0 []] ∧ t.repair.defects = s.repair.defects
          ∧ t.repair.lanes = s.repair.lanes ∧ t.repair.slots = s.repair.slots ∧ t.repair.rows = s.repair.rows
          ∧ (∀ r' l', r' ≠ r ∨ l' ≠ l → cellEntry t r' l' = cellEntry s r' l')
          ∧ t.repair.bind = s.repair.bind ∧ t.comp = s.comp ∧ t.unit.notices = s.unit.notices
          ∧ SameButRepair (atTake 0x0C q s) t)
    ∧ (∀ x : Defect, RepairDispatched 10 q s → r < depth s → standingRecord s (.row r) = some x →
        exec (.releaseRow q) s = done [.row r .normal, .removal x.target x.seq]))
  ∧ (∀ (q : Request) (x : Defect) (s : State), s.ctl.mode = .standby → s.corr.check = none → s.repair.changes = [] →
    let r := byteAt q.payload 1
    let l := byteAt q.payload 2
    let onlyCell (t : State) (e : CellEntry) : Prop :=
      cellEntry t r l = e ∧ (∀ r' l', r' ≠ r ∨ l' ≠ l → cellEntry t r' l' = cellEntry s r' l') ∧ t.repair.rows = s.repair.rows
        ∧ t.unit.notices = s.unit.notices
    let done (t : State) : Prop :=
      t.repair.defects = s.repair.defects.filter (fun y => decide (y.target ≠ x.target ∨ y.seq ≠ x.seq))
        ∧ t.repair.changes = [] ∧ t.repair.lanes = s.repair.lanes ∧ t.repair.slots = s.repair.slots
        ∧ t.repair.bind = s.repair.bind ∧ t.unit.replies = s.unit.replies ++ [replyOf 0x0C q 0 []]
        ∧ (∀ r' l', cellAt t.comp.pulses r' l' 0
            = if isVictim t r' l' = true ∨ isForcedOff t r' l' = true then 0 else cellAt s.comp.pulses r' l' 0)
        ∧ t.comp = { s.comp with pulses := t.comp.pulses } ∧ SameButRepair (atTake 0x0C q s) t
    (RepairDispatched 5 q s → r < depth s → l < 144 → HasCell s r l → standingRecord s (.cell r l) = some x →
      ∃ t, exec (.releaseCell q) s = .next t ∧ done t
        ∧ onlyCell t { cellEntry s r l with state := automaticState (cellEntry s r l) })
    ∧ (∀ d : Die, RepairDispatched 6 q s → r < depth s → l < 144 → byteAt q.payload 3 = (match d with | .a => 0 | .b => 1) →
        HasCell s r l → standingRecord s (.die r l d) = some x →
        let e := (cellEntry s r l).withHealth d .unknown
        ∃ t, exec (.releaseDie q) s = .next t ∧ done t
          ∧ onlyCell t (if standingRecord s (.cell r l) = none then { e with state := automaticState e } else e))
    ∧ (RepairDispatched 10 q s → r < depth s → r < s.repair.rows.length → standingRecord s (.row r) = some x →
      ∃ t, exec (.releaseRow q) s = .next t ∧ done t
        ∧ t.repair.rows = s.repair.rows.set r .normal ∧ t.repair.cells = s.repair.cells
        ∧ t.unit.notices = { s.unit.notices with
            rowLost := s.unit.notices.rowLost || (decide (rowNow s r = .lost) && s.unit.params.noticeMask.rowLost) }))

/-- BIND accepted (R123, R126, R60): the slot is RESERVED to the lane, the bind is recorded with its verify pending
through the first row that qualifies, the tried marks are clear, and no reply is made yet. -/
def Obligations.BindReservesTheSlot : Prop :=
  ∀ (q : Request) (x : DieRef) (s : State), RepairDispatched 7 q s →
    byteAt q.payload 2 < 144 → byteAt q.payload 3 / 2 = byteAt q.payload 2 / 24 →
    s.corr.check = none → s.repair.bind = none → s.repair.changes = [] →
    slotNow s (byteAt q.payload 3) = .free → laneNow s (byteAt q.payload 2) = .normal ∨ laneNow s (byteAt q.payload 2) = .dark →
    (∀ y ∈ s.repair.slots, y.target ≠ some (byteAt q.payload 2)) → s.repair.defects.length < 192 →
    x.lane = byteAt q.payload 2 → x.row < depth s → rowNow s x.row = .normal →
    (cellEntry s x.row x.lane).state.selected = some x.die → (healthOf s x).bad = false →
    (∀ r, r < x.row → rowNow s r = .lost ∨ (cellEntry s r x.lane).state.selected = none
      ∨ (∃ d, (cellEntry s r x.lane).state.selected = some d ∧ ((cellEntry s r x.lane).health d).bad = true)) →
    exec (.bind q) s
      = .next (((atTake 0x0C q s).withRepair { s.repair with
          slots := s.repair.slots.set (byteAt q.payload 3) (.reserved (byteAt q.payload 2))
          bind := some ⟨byteAt q.payload 2, byteAt q.payload 3, x, q.src, q.tag, .verifying⟩ }).withSense
            { s.sense with tried := .clear })

/-- UNBIND (R112, R113, R123, R128): of a lane outside STANDBY, a lane change to NORMAL with disposition FREE where the
lane is planned SPARED or DARK, and the removal of its record; in STANDBY both are applied at once, its slot is FREE and
LANE_EVENT pending where the lane was DARK or a slot is freed; of a FAILED slot, FREE at once with LANE_EVENT pending,
and of any other slot STATE, judged by its current state (log 20: deduced). -/
def Obligations.UnbindFreesLanesAndSlots : Prop :=
  ∀ (q : Request) (s : State),
    (∀ x, RepairDispatched 8 q s → s.ctl.mode ≠ .standby → byteAt q.payload 2 < 144 → s.corr.check = none →
        s.repair.bind = none → s.repair.changes.length + 2 ≤ 16 →
        standingRecord s (.lane (byteAt q.payload 2)) = some x →
      exec (.unbindLane q) s
        = .next (((atTake 0x0C q s).withRepair { s.repair with
            changes := s.repair.changes
              ++ (if plannedLane s (byteAt q.payload 2) = .normal then [] else [.lane (byteAt q.payload 2) .normal .free])
              ++ [.removal x.target x.seq] }).replying (replyOf 0x0C q 0 [])))
    ∧ (∀ x, RepairDispatched 8 q s → s.ctl.mode = .standby → byteAt q.payload 2 < 144 → s.corr.check = none →
        s.repair.bind = none → s.repair.changes = [] → standingRecord s (.lane (byteAt q.payload 2)) = some x →
        s.repair.lanes.length = 144 →
      ∃ t, exec (.unbindLane q) s = .next t
        ∧ laneNow t (byteAt q.payload 2) = .normal
        ∧ (∀ l, l ≠ byteAt q.payload 2 → laneNow t l = laneNow s l)
        ∧ (∀ k, k < s.repair.slots.length → slotNow t k
            = if laneNow s (byteAt q.payload 2) ≠ .normal ∧ (slotNow s k).boundTo (byteAt q.payload 2) = true then .free
              else slotNow s k)
        ∧ (laneNow s (byteAt q.payload 2) = .normal → t.unit.notices = s.unit.notices)
        ∧ (laneNow s (byteAt q.payload 2) = .dark ∨ (laneNow s (byteAt q.payload 2) ≠ .normal
              ∧ ∃ f, .bound (byteAt q.payload 2) f ∈ s.repair.slots) →
            t.unit.notices = { s.unit.notices with
              laneEvent := s.unit.notices.laneEvent || s.unit.params.noticeMask.laneEvent })
        ∧ t.repair.defects = s.repair.defects.filter (fun y => decide (y.target ≠ x.target ∨ y.seq ≠ x.seq))
        ∧ t.repair.changes = [] ∧ t.repair.cells = s.repair.cells ∧ t.repair.rows = s.repair.rows
        ∧ t.unit.replies = s.unit.replies ++ [replyOf 0x0C q 0 []]
        ∧ (∀ r l, cellAt t.comp.pulses r l 0
            = if isVictim t r l = true ∨ isForcedOff t r l = true then 0 else cellAt s.comp.pulses r l 0)
        ∧ t.comp = { s.comp with pulses := t.comp.pulses } ∧ SameButRepair (atTake 0x0C q s) t)
    ∧ (RepairDispatched 9 q s → byteAt q.payload 3 < 12 →
      (slotNow s (byteAt q.payload 3) = .failed →
        exec (.unbindSlot q) s
          = .next ((raise .laneEvent ((atTake 0x0C q s).withRepair { s.repair with
              slots := s.repair.slots.set (byteAt q.payload 3) .free })).replying (replyOf 0x0C q 0 [])))
      ∧ (slotNow s (byteAt q.payload 3) ≠ .failed →
        exec (.unbindSlot q) s = .next ((atTake 0x0C q s).replying (replyOf 0x0C q 3 []))))

/-! ## The Defect List -/

/-- LOAD_DEFECTS (R137 to R140): refused STATE outside STANDBY; in STANDBY its records are judged one after another,
each against what the ones before have left: FIELD for a record that does not fit, DUPLICATE for a target that has a
record, CONFLICT for a slot of another group or not FREE and for a lane with a RESERVED slot, FULL, in this order. A
record that none refuses joins the tail with the next seq, origin LOADED, its frame and temp as loaded, and is applied
to the current maps: the cell state of a CELL record, the health and the automatic state of a DIE record, the lane and
slot of a LANE record, the row of a ROW record; it raises no notice and no count. The reply counts the records taken,
with the status and the index of the first refused. -/
def Obligations.LoadedRecordsJoinTheList : Prop :=
  ∀ (q : Request) (s : State), Dispatched 0x0E q s →
    (s.ctl.mode ≠ .standby → exec (.loadDefects q) s = .next ((atTake 0x0E q s).replying (replyOf 0x0E q 3 [])))
    ∧ (s.ctl.mode = .standby → ∃ vs t, 14 * vs.length = q.payload.length
      ∧ RecordsJudged q.payload vs (atTake 0x0E q s) t
      ∧ ∃ (st idx : Byte),
        exec (.loadDefects q) s = .next (t.replying (replyOf 0x0E q st [BitVec.ofNat 8 (vs.countP Option.isNone), idx]))
        ∧ ((∀ v ∈ vs, v = none) → st = 0 ∧ idx = 0xFF)
        ∧ (∀ i x, vs[i]? = some (some x) → (∀ j, j < i → vs[j]? = some none) → st = x ∧ idx = BitVec.ofNat 8 i))

/-- CLEAR_DEFECTS (R141): in STANDBY the list is empty, its counters 0 and every map and slot at default, with the
policy, the gains, the suspects and the Output Table kept; it is answered OK, and a bind in progress ABORTED, at once or
when a place for its reply comes free; refused STATE elsewhere, and dropped as a broadcast. -/
def Obligations.ClearDefectsReturnsTheMaps : Prop :=
  (∀ (q : Request) (s : State), taken 0x0F q s = true → q.broadcast = true →
      exec (.clearDefects q) s = .next (atTake 0x0F q s))
  ∧ (∀ (q : Request) (s : State), Dispatched 0x0F q s →
      (s.ctl.mode ≠ .standby → exec (.clearDefects q) s = .next ((atTake 0x0F q s).replying (replyOf 0x0F q 3 [])))
      ∧ (s.ctl.mode = .standby → ∃ t, exec (.clearDefects q) s = .next t
        ∧ t.repair.defects = [] ∧ t.repair.seqCounter = 0 ∧ t.repair.unrecorded = 0
        ∧ t.repair.cells = List.replicate (depth s) (List.replicate 144 ⟨.aActive, .unknown, .unknown⟩)
        ∧ t.repair.lanes = List.replicate 144 .normal ∧ t.repair.rows = List.replicate (depth s) .normal
        ∧ t.repair.slots = List.replicate 12 .free
        ∧ (∃ more, t.unit.replies = s.unit.replies ++ [replyOf 0x0F q 0 []] ++ more)
        ∧ (∀ b, s.repair.bind = some b → (∀ r, b.stage ≠ .ended r) →
            t.repair.bind = some { b with stage := .ended ⟨b.src, 0x8C, b.tag, [11], false⟩ }
              ∨ t.repair.bind = none ∧ (⟨b.src, 0x8C, b.tag, [11], false⟩ : Reply) ∈ t.unit.replies)
        ∧ t.unit.params = s.unit.params ∧ t.unit.notices = s.unit.notices ∧ t.comp = s.comp
        ∧ t.repair.changes = s.repair.changes
        ∧ t.track = s.track ∧ t.corr = s.corr ∧ t.ctl = s.ctl ∧ t.store = s.store ∧ t.scan = s.scan
        ∧ t.sense = { s.sense with spots := t.sense.spots } ∧ t.link = (atTake 0x0F q s).link ∧ t.straps = s.straps))

/-! ## Arithmetic and the drive pins -/

/-- Stage 1 (R7, R40 to R42): a cell is a victim by its row, its lane or its state; the effective code is the code
displayed and, for each neighbour that is a victim, its share, the victim's code times `conceal_share` over 256 times
its live neighbours; with codes and `conceal_share` in range it is never more than 20,411. R43 and R44: the gain stage
rounds half up, the brightness stage toward zero, with the die of the cell's state. -/
def Obligations.StagesFollowTheArithmetic : Prop :=
  (∀ (r l : Nat) (s : State),
      (isVictim s r l = true ↔ rowNow s r = .lost ∨ laneNow s l = .dark ∨ (cellEntry s r l).state = .concealed)
      ∧ (isForcedOff s r l = true ↔ isVictim s r l = false ∧ (cellEntry s r l).state = .forcedOff)
      ∧ (isLive s r l = true ↔ isVictim s r l = false
          ∧ ((cellEntry s r l).state = .aActive ∨ (cellEntry s r l).state = .bActive))
      ∧ effectiveCode s r l
          = cellAt s.store.display r l 0
            + sumAround (depth s) r l fun r' l' => if isVictim s r' l' = true then lentShare s r' l' else 0)
  ∧ (∀ (r l : Nat) (s : State), CodesFit s.store.display → s.unit.params.concealShare ≤ 255 → effectiveCode s r l ≤ 20411)
  ∧ (∀ (r l : Nat) (s : State),
      (isLive s r l = true → (cellEntry s r l).state = .aActive →
        composedCode s r l
          = (effectiveCode s r l * s.comp.gains.getD ((r * 144 + l) * 2) 1024 + 512) / 1024 * (s.unit.params.brightness + 1) / 256)
      ∧ (isLive s r l = true → (cellEntry s r l).state = .bActive →
        composedCode s r l
          = (effectiveCode s r l * s.comp.gains.getD ((r * 144 + l) * 2 + 1) 1024 + 512) / 1024
              * (s.unit.params.brightness + 1) / 256))

/-- A composition (R39, R40, R45): victims and forced-off cells get 0, a live cell its scaled code limited to 4095; the
clip count is the number of live cells whose code lies above 4095, at most the number of cells, and 0 exactly when no
code lies above 4095; nothing else changes. -/
def Obligations.CompositionFillsTheOutputTable : Prop :=
  ∀ s : State,
    (∀ r l, r < depth s → l < 144 →
      cellAt (compose s).comp.pulses r l 0
        = if isVictim s r l = true ∨ isForcedOff s r l = true then 0 else min (composedCode s r l) 4095)
    ∧ (compose s).comp.clipCount
        = ((List.range (depth s)).map fun r =>
            ((List.range 144).filter fun l => isLive s r l && decide (4095 < composedCode s r l)).length).sum
    ∧ (compose s).comp.clipCount ≤ 144 * depth s
    ∧ ((compose s).comp.clipCount = 0 ↔ ∀ r l, r < depth s → l < 144 → composedCode s r l ≤ 4095)
    ∧ compose s = s.withComp { s.comp with pulses := (compose s).comp.pulses, clipCount := (compose s).comp.clipCount }

/-- R14: the R pulses of a lane sum to P, no two differ by more than one grey slot, and each fits its segment. R9: while
drive enable is false and no test drives, no row is selected, no lane has a driver on its node and none is lit; while a
test drives, its row and its lane alone are. In a row phase (R5, R6, R12, R13): its row alone is selected, and none when it is
LOST; the node of a lane has its own driver, the driver of its spare slot, or none on a DARK lane; a lane is lit in the grey
slots of its pulses (R14), and in none in a LOST row, on a DARK lane or for a CONCEALED or FORCED_OFF cell. All of it is as
latched at the boundary, for the phase that ROW_PHASE_END starts too, and there the trace is that of the latched cell state, A
at rest. -/
def Obligations.PulsesAndPinsFollowTheTables : Prop :=
  (∀ (p segs : Nat), p ≤ 4095 → segs = 1 ∨ segs = 2 ∨ segs = 4 ∨ segs = 8 →
        ((List.range segs).map (segmentPulse p segs)).sum = p
        ∧ (∀ i j, i < segs → j < segs → segmentPulse p segs i ≤ segmentPulse p segs j + 1)
        ∧ (∀ i, i < segs → segmentPulse p segs i ≤ 4096 / segs))
  ∧ (∀ s : State, DriveLaw s →
        (driveEnable s = false → testDriving s = none →
          ∀ r l j, rowSelected s r = false ∧ nodeDriver s l = .nothing ∧ laneLit s l j = false)
        ∧ (∀ t d, testDriving s = some (t, d) →
          ∀ r l j, (rowSelected s r = true ↔ r = t.die.row) ∧ (laneLit s l j = true ↔ l = t.die.lane)
            ∧ (l ≠ t.die.lane → nodeDriver s l = .nothing)))
  ∧ (let shows (s : State) (row : Nat) (entry : RowState) (segs l : Nat) (x : LaneLatch) : Prop :=
       (∀ r, rowSelected s r = true ↔ r = row ∧ entry = .normal)
       ∧ nodeDriver s l = (match x.lane with | .normal => .own | .spared k => .slot k | .dark => .nothing)
       ∧ ∀ j, laneLit s l j = true ↔
           j < 4096 ∧ entry = .normal ∧ x.lane ≠ .dark ∧ (x.cell = .aActive ∨ x.cell = .bActive)
             ∧ j % (4096 / segs) < x.pulse / segs + (if j / (4096 / segs) < x.pulse % segs then 1 else 0)
     (∀ (p : RowPhase) (l : Nat) (s : State), testDriving s = none → s.scan.state = .scanning → s.scan.phase = some p →
        shows s p.row p.entry s.scan.segments l (p.latch l))
     ∧ (∀ s : State, s.scan.state = .scanning → s.sense.test = none →
        ∃ t, exec .rowPhaseEnd s = .next t ∧ ∀ l, l < 144 →
          shows t s.scan.nextRow (rowNow s s.scan.nextRow)
              (if s.scan.nextRow = 0 then s.unit.params.repeats else s.scan.segments) l
              ⟨laneNow s l, (cellEntry s s.scan.nextRow l).state, cellAt s.comp.pulses s.scan.nextRow l 0⟩
            ∧ traceSelected t l = (match (cellEntry s s.scan.nextRow l).state with | .bActive => .b | _ => .a)))

/-! ## Invariants of every step -/

/-- The part after reset meets every law below. -/
def Obligations.ResetMeetsTheLaws : Prop :=
  Capacities State.reset ∧ ParamRanges State.reset.unit.params ∧ DriveLaw State.reset ∧ TimerLaw State.reset
    ∧ StandbyQuiet State.reset ∧ OneRecordPerTarget State.reset ∧ TableRanges State.reset ∧ CountLimits State.reset
    ∧ SlotLaneLaw State.reset

/-- No step makes a queue, buffer or list longer than the manual's bound. -/
def Obligations.StepKeepsTheCapacities : Prop :=
∀ s t : State, Capacities s → step s = .next t → Capacities t

/-- Every step leaves the Scan Driver in the state that drive enable and the tests call for (R9, R10). -/
def Obligations.StepKeepsTheDriveLaw : Prop :=
 ∀ s t : State, DriveLaw s → step s = .next t → DriveLaw t

/-- Every step leaves the timers and the video state as their modes allow. No step takes a parameter out of its range,
or a short limit to its open limit. -/
def Obligations.StepKeepsTheTimersAndParameters : Prop :=
  (∀ s t : State, TimerLaw s → step s = .next t → TimerLaw t)
  ∧ (∀ s t : State, ParamRanges s.unit.params → step s = .next t → ParamRanges t.unit.params)

/-- Every step that leaves the part in STANDBY leaves nothing in progress there. -/
def Obligations.StepKeepsStandbyQuiet : Prop :=
∀ s t : State, StandbyQuiet s → step s = .next t → StandbyQuiet t

/-- No step gives a target a second record. -/
def Obligations.StepKeepsOneRecordPerTarget : Prop :=
  ∀ s t : State, OneRecordPerTarget s → step s = .next t → OneRecordPerTarget t

/-- No step takes a pulse length, a video code or a gain out of its range, or changes the size of a table other than
with the depth of the tile. No step takes a count past its limit, or a subordinate address below the tile's own. -/
def Obligations.StepKeepsTheTablesAndCounts : Prop :=
  (∀ s t : State, TableRanges s → step s = .next t → TableRanges t)
  ∧ (∀ s t : State, CountLimits s → step s = .next t → CountLimits t)
end

