-- ==== Sys2Proof/Laws/State.lean ====
section
/-! SUPPORT. Laws/State.lean: what each block setter does to each block, so that no proof unfolds a record update. -/

namespace Sys2Proof.Machine

/-! ## withStraps -/

@[simp] theorem State.withStraps_straps (s : State) (x) : (s.withStraps x).straps = x := rfl
@[simp] theorem State.withStraps_link (s : State) (x) : (s.withStraps x).link = s.link := rfl
@[simp] theorem State.withStraps_unit (s : State) (x) : (s.withStraps x).unit = s.unit := rfl
@[simp] theorem State.withStraps_ctl (s : State) (x) : (s.withStraps x).ctl = s.ctl := rfl
@[simp] theorem State.withStraps_store (s : State) (x) : (s.withStraps x).store = s.store := rfl
@[simp] theorem State.withStraps_comp (s : State) (x) : (s.withStraps x).comp = s.comp := rfl
@[simp] theorem State.withStraps_scan (s : State) (x) : (s.withStraps x).scan = s.scan := rfl
@[simp] theorem State.withStraps_sense (s : State) (x) : (s.withStraps x).sense = s.sense := rfl
@[simp] theorem State.withStraps_track (s : State) (x) : (s.withStraps x).track = s.track := rfl
@[simp] theorem State.withStraps_corr (s : State) (x) : (s.withStraps x).corr = s.corr := rfl
@[simp] theorem State.withStraps_repair (s : State) (x) : (s.withStraps x).repair = s.repair := rfl
@[simp] theorem State.withStraps_freeUsed (s : State) (x) : (s.withStraps x).freeUsed = s.freeUsed := rfl
@[simp] theorem State.withStraps_pending (s : State) (x) : (s.withStraps x).pending = s.pending := rfl
@[simp] theorem State.withStraps_withStraps (s : State) (x y) : (s.withStraps x).withStraps y = s.withStraps y := rfl
@[simp] theorem State.withStraps_self (s : State) : s.withStraps s.straps = s := rfl

/-! ## withLink -/

@[simp] theorem State.withLink_straps (s : State) (x) : (s.withLink x).straps = s.straps := rfl
@[simp] theorem State.withLink_link (s : State) (x) : (s.withLink x).link = x := rfl
@[simp] theorem State.withLink_unit (s : State) (x) : (s.withLink x).unit = s.unit := rfl
@[simp] theorem State.withLink_ctl (s : State) (x) : (s.withLink x).ctl = s.ctl := rfl
@[simp] theorem State.withLink_store (s : State) (x) : (s.withLink x).store = s.store := rfl
@[simp] theorem State.withLink_comp (s : State) (x) : (s.withLink x).comp = s.comp := rfl
@[simp] theorem State.withLink_scan (s : State) (x) : (s.withLink x).scan = s.scan := rfl
@[simp] theorem State.withLink_sense (s : State) (x) : (s.withLink x).sense = s.sense := rfl
@[simp] theorem State.withLink_track (s : State) (x) : (s.withLink x).track = s.track := rfl
@[simp] theorem State.withLink_corr (s : State) (x) : (s.withLink x).corr = s.corr := rfl
@[simp] theorem State.withLink_repair (s : State) (x) : (s.withLink x).repair = s.repair := rfl
@[simp] theorem State.withLink_freeUsed (s : State) (x) : (s.withLink x).freeUsed = s.freeUsed := rfl
@[simp] theorem State.withLink_pending (s : State) (x) : (s.withLink x).pending = s.pending := rfl
@[simp] theorem State.withLink_withLink (s : State) (x y) : (s.withLink x).withLink y = s.withLink y := rfl
@[simp] theorem State.withLink_self (s : State) : s.withLink s.link = s := rfl

/-! ## withUnit -/

@[simp] theorem State.withUnit_straps (s : State) (x) : (s.withUnit x).straps = s.straps := rfl
@[simp] theorem State.withUnit_link (s : State) (x) : (s.withUnit x).link = s.link := rfl
@[simp] theorem State.withUnit_unit (s : State) (x) : (s.withUnit x).unit = x := rfl
@[simp] theorem State.withUnit_ctl (s : State) (x) : (s.withUnit x).ctl = s.ctl := rfl
@[simp] theorem State.withUnit_store (s : State) (x) : (s.withUnit x).store = s.store := rfl
@[simp] theorem State.withUnit_comp (s : State) (x) : (s.withUnit x).comp = s.comp := rfl
@[simp] theorem State.withUnit_scan (s : State) (x) : (s.withUnit x).scan = s.scan := rfl
@[simp] theorem State.withUnit_sense (s : State) (x) : (s.withUnit x).sense = s.sense := rfl
@[simp] theorem State.withUnit_track (s : State) (x) : (s.withUnit x).track = s.track := rfl
@[simp] theorem State.withUnit_corr (s : State) (x) : (s.withUnit x).corr = s.corr := rfl
@[simp] theorem State.withUnit_repair (s : State) (x) : (s.withUnit x).repair = s.repair := rfl
@[simp] theorem State.withUnit_freeUsed (s : State) (x) : (s.withUnit x).freeUsed = s.freeUsed := rfl
@[simp] theorem State.withUnit_pending (s : State) (x) : (s.withUnit x).pending = s.pending := rfl
@[simp] theorem State.withUnit_withUnit (s : State) (x y) : (s.withUnit x).withUnit y = s.withUnit y := rfl
@[simp] theorem State.withUnit_self (s : State) : s.withUnit s.unit = s := rfl

/-! ## withCtl -/

@[simp] theorem State.withCtl_straps (s : State) (x) : (s.withCtl x).straps = s.straps := rfl
@[simp] theorem State.withCtl_link (s : State) (x) : (s.withCtl x).link = s.link := rfl
@[simp] theorem State.withCtl_unit (s : State) (x) : (s.withCtl x).unit = s.unit := rfl
@[simp] theorem State.withCtl_ctl (s : State) (x) : (s.withCtl x).ctl = x := rfl
@[simp] theorem State.withCtl_store (s : State) (x) : (s.withCtl x).store = s.store := rfl
@[simp] theorem State.withCtl_comp (s : State) (x) : (s.withCtl x).comp = s.comp := rfl
@[simp] theorem State.withCtl_scan (s : State) (x) : (s.withCtl x).scan = s.scan := rfl
@[simp] theorem State.withCtl_sense (s : State) (x) : (s.withCtl x).sense = s.sense := rfl
@[simp] theorem State.withCtl_track (s : State) (x) : (s.withCtl x).track = s.track := rfl
@[simp] theorem State.withCtl_corr (s : State) (x) : (s.withCtl x).corr = s.corr := rfl
@[simp] theorem State.withCtl_repair (s : State) (x) : (s.withCtl x).repair = s.repair := rfl
@[simp] theorem State.withCtl_freeUsed (s : State) (x) : (s.withCtl x).freeUsed = s.freeUsed := rfl
@[simp] theorem State.withCtl_pending (s : State) (x) : (s.withCtl x).pending = s.pending := rfl
@[simp] theorem State.withCtl_withCtl (s : State) (x y) : (s.withCtl x).withCtl y = s.withCtl y := rfl
@[simp] theorem State.withCtl_self (s : State) : s.withCtl s.ctl = s := rfl

/-! ## withStore -/

@[simp] theorem State.withStore_straps (s : State) (x) : (s.withStore x).straps = s.straps := rfl
@[simp] theorem State.withStore_link (s : State) (x) : (s.withStore x).link = s.link := rfl
@[simp] theorem State.withStore_unit (s : State) (x) : (s.withStore x).unit = s.unit := rfl
@[simp] theorem State.withStore_ctl (s : State) (x) : (s.withStore x).ctl = s.ctl := rfl
@[simp] theorem State.withStore_store (s : State) (x) : (s.withStore x).store = x := rfl
@[simp] theorem State.withStore_comp (s : State) (x) : (s.withStore x).comp = s.comp := rfl
@[simp] theorem State.withStore_scan (s : State) (x) : (s.withStore x).scan = s.scan := rfl
@[simp] theorem State.withStore_sense (s : State) (x) : (s.withStore x).sense = s.sense := rfl
@[simp] theorem State.withStore_track (s : State) (x) : (s.withStore x).track = s.track := rfl
@[simp] theorem State.withStore_corr (s : State) (x) : (s.withStore x).corr = s.corr := rfl
@[simp] theorem State.withStore_repair (s : State) (x) : (s.withStore x).repair = s.repair := rfl
@[simp] theorem State.withStore_freeUsed (s : State) (x) : (s.withStore x).freeUsed = s.freeUsed := rfl
@[simp] theorem State.withStore_pending (s : State) (x) : (s.withStore x).pending = s.pending := rfl
@[simp] theorem State.withStore_withStore (s : State) (x y) : (s.withStore x).withStore y = s.withStore y := rfl
@[simp] theorem State.withStore_self (s : State) : s.withStore s.store = s := rfl

/-! ## withComp -/

@[simp] theorem State.withComp_straps (s : State) (x) : (s.withComp x).straps = s.straps := rfl
@[simp] theorem State.withComp_link (s : State) (x) : (s.withComp x).link = s.link := rfl
@[simp] theorem State.withComp_unit (s : State) (x) : (s.withComp x).unit = s.unit := rfl
@[simp] theorem State.withComp_ctl (s : State) (x) : (s.withComp x).ctl = s.ctl := rfl
@[simp] theorem State.withComp_store (s : State) (x) : (s.withComp x).store = s.store := rfl
@[simp] theorem State.withComp_comp (s : State) (x) : (s.withComp x).comp = x := rfl
@[simp] theorem State.withComp_scan (s : State) (x) : (s.withComp x).scan = s.scan := rfl
@[simp] theorem State.withComp_sense (s : State) (x) : (s.withComp x).sense = s.sense := rfl
@[simp] theorem State.withComp_track (s : State) (x) : (s.withComp x).track = s.track := rfl
@[simp] theorem State.withComp_corr (s : State) (x) : (s.withComp x).corr = s.corr := rfl
@[simp] theorem State.withComp_repair (s : State) (x) : (s.withComp x).repair = s.repair := rfl
@[simp] theorem State.withComp_freeUsed (s : State) (x) : (s.withComp x).freeUsed = s.freeUsed := rfl
@[simp] theorem State.withComp_pending (s : State) (x) : (s.withComp x).pending = s.pending := rfl
@[simp] theorem State.withComp_withComp (s : State) (x y) : (s.withComp x).withComp y = s.withComp y := rfl
@[simp] theorem State.withComp_self (s : State) : s.withComp s.comp = s := rfl

/-! ## withScan -/

@[simp] theorem State.withScan_straps (s : State) (x) : (s.withScan x).straps = s.straps := rfl
@[simp] theorem State.withScan_link (s : State) (x) : (s.withScan x).link = s.link := rfl
@[simp] theorem State.withScan_unit (s : State) (x) : (s.withScan x).unit = s.unit := rfl
@[simp] theorem State.withScan_ctl (s : State) (x) : (s.withScan x).ctl = s.ctl := rfl
@[simp] theorem State.withScan_store (s : State) (x) : (s.withScan x).store = s.store := rfl
@[simp] theorem State.withScan_comp (s : State) (x) : (s.withScan x).comp = s.comp := rfl
@[simp] theorem State.withScan_scan (s : State) (x) : (s.withScan x).scan = x := rfl
@[simp] theorem State.withScan_sense (s : State) (x) : (s.withScan x).sense = s.sense := rfl
@[simp] theorem State.withScan_track (s : State) (x) : (s.withScan x).track = s.track := rfl
@[simp] theorem State.withScan_corr (s : State) (x) : (s.withScan x).corr = s.corr := rfl
@[simp] theorem State.withScan_repair (s : State) (x) : (s.withScan x).repair = s.repair := rfl
@[simp] theorem State.withScan_freeUsed (s : State) (x) : (s.withScan x).freeUsed = s.freeUsed := rfl
@[simp] theorem State.withScan_pending (s : State) (x) : (s.withScan x).pending = s.pending := rfl
@[simp] theorem State.withScan_withScan (s : State) (x y) : (s.withScan x).withScan y = s.withScan y := rfl
@[simp] theorem State.withScan_self (s : State) : s.withScan s.scan = s := rfl

/-! ## withSense -/

@[simp] theorem State.withSense_straps (s : State) (x) : (s.withSense x).straps = s.straps := rfl
@[simp] theorem State.withSense_link (s : State) (x) : (s.withSense x).link = s.link := rfl
@[simp] theorem State.withSense_unit (s : State) (x) : (s.withSense x).unit = s.unit := rfl
@[simp] theorem State.withSense_ctl (s : State) (x) : (s.withSense x).ctl = s.ctl := rfl
@[simp] theorem State.withSense_store (s : State) (x) : (s.withSense x).store = s.store := rfl
@[simp] theorem State.withSense_comp (s : State) (x) : (s.withSense x).comp = s.comp := rfl
@[simp] theorem State.withSense_scan (s : State) (x) : (s.withSense x).scan = s.scan := rfl
@[simp] theorem State.withSense_sense (s : State) (x) : (s.withSense x).sense = x := rfl
@[simp] theorem State.withSense_track (s : State) (x) : (s.withSense x).track = s.track := rfl
@[simp] theorem State.withSense_corr (s : State) (x) : (s.withSense x).corr = s.corr := rfl
@[simp] theorem State.withSense_repair (s : State) (x) : (s.withSense x).repair = s.repair := rfl
@[simp] theorem State.withSense_freeUsed (s : State) (x) : (s.withSense x).freeUsed = s.freeUsed := rfl
@[simp] theorem State.withSense_pending (s : State) (x) : (s.withSense x).pending = s.pending := rfl
@[simp] theorem State.withSense_withSense (s : State) (x y) : (s.withSense x).withSense y = s.withSense y := rfl
@[simp] theorem State.withSense_self (s : State) : s.withSense s.sense = s := rfl

/-! ## withTrack -/

@[simp] theorem State.withTrack_straps (s : State) (x) : (s.withTrack x).straps = s.straps := rfl
@[simp] theorem State.withTrack_link (s : State) (x) : (s.withTrack x).link = s.link := rfl
@[simp] theorem State.withTrack_unit (s : State) (x) : (s.withTrack x).unit = s.unit := rfl
@[simp] theorem State.withTrack_ctl (s : State) (x) : (s.withTrack x).ctl = s.ctl := rfl
@[simp] theorem State.withTrack_store (s : State) (x) : (s.withTrack x).store = s.store := rfl
@[simp] theorem State.withTrack_comp (s : State) (x) : (s.withTrack x).comp = s.comp := rfl
@[simp] theorem State.withTrack_scan (s : State) (x) : (s.withTrack x).scan = s.scan := rfl
@[simp] theorem State.withTrack_sense (s : State) (x) : (s.withTrack x).sense = s.sense := rfl
@[simp] theorem State.withTrack_track (s : State) (x) : (s.withTrack x).track = x := rfl
@[simp] theorem State.withTrack_corr (s : State) (x) : (s.withTrack x).corr = s.corr := rfl
@[simp] theorem State.withTrack_repair (s : State) (x) : (s.withTrack x).repair = s.repair := rfl
@[simp] theorem State.withTrack_freeUsed (s : State) (x) : (s.withTrack x).freeUsed = s.freeUsed := rfl
@[simp] theorem State.withTrack_pending (s : State) (x) : (s.withTrack x).pending = s.pending := rfl
@[simp] theorem State.withTrack_withTrack (s : State) (x y) : (s.withTrack x).withTrack y = s.withTrack y := rfl
@[simp] theorem State.withTrack_self (s : State) : s.withTrack s.track = s := rfl

/-! ## withCorr -/

@[simp] theorem State.withCorr_straps (s : State) (x) : (s.withCorr x).straps = s.straps := rfl
@[simp] theorem State.withCorr_link (s : State) (x) : (s.withCorr x).link = s.link := rfl
@[simp] theorem State.withCorr_unit (s : State) (x) : (s.withCorr x).unit = s.unit := rfl
@[simp] theorem State.withCorr_ctl (s : State) (x) : (s.withCorr x).ctl = s.ctl := rfl
@[simp] theorem State.withCorr_store (s : State) (x) : (s.withCorr x).store = s.store := rfl
@[simp] theorem State.withCorr_comp (s : State) (x) : (s.withCorr x).comp = s.comp := rfl
@[simp] theorem State.withCorr_scan (s : State) (x) : (s.withCorr x).scan = s.scan := rfl
@[simp] theorem State.withCorr_sense (s : State) (x) : (s.withCorr x).sense = s.sense := rfl
@[simp] theorem State.withCorr_track (s : State) (x) : (s.withCorr x).track = s.track := rfl
@[simp] theorem State.withCorr_corr (s : State) (x) : (s.withCorr x).corr = x := rfl
@[simp] theorem State.withCorr_repair (s : State) (x) : (s.withCorr x).repair = s.repair := rfl
@[simp] theorem State.withCorr_freeUsed (s : State) (x) : (s.withCorr x).freeUsed = s.freeUsed := rfl
@[simp] theorem State.withCorr_pending (s : State) (x) : (s.withCorr x).pending = s.pending := rfl
@[simp] theorem State.withCorr_withCorr (s : State) (x y) : (s.withCorr x).withCorr y = s.withCorr y := rfl
@[simp] theorem State.withCorr_self (s : State) : s.withCorr s.corr = s := rfl

/-! ## withRepair -/

@[simp] theorem State.withRepair_straps (s : State) (x) : (s.withRepair x).straps = s.straps := rfl
@[simp] theorem State.withRepair_link (s : State) (x) : (s.withRepair x).link = s.link := rfl
@[simp] theorem State.withRepair_unit (s : State) (x) : (s.withRepair x).unit = s.unit := rfl
@[simp] theorem State.withRepair_ctl (s : State) (x) : (s.withRepair x).ctl = s.ctl := rfl
@[simp] theorem State.withRepair_store (s : State) (x) : (s.withRepair x).store = s.store := rfl
@[simp] theorem State.withRepair_comp (s : State) (x) : (s.withRepair x).comp = s.comp := rfl
@[simp] theorem State.withRepair_scan (s : State) (x) : (s.withRepair x).scan = s.scan := rfl
@[simp] theorem State.withRepair_sense (s : State) (x) : (s.withRepair x).sense = s.sense := rfl
@[simp] theorem State.withRepair_track (s : State) (x) : (s.withRepair x).track = s.track := rfl
@[simp] theorem State.withRepair_corr (s : State) (x) : (s.withRepair x).corr = s.corr := rfl
@[simp] theorem State.withRepair_repair (s : State) (x) : (s.withRepair x).repair = x := rfl
@[simp] theorem State.withRepair_freeUsed (s : State) (x) : (s.withRepair x).freeUsed = s.freeUsed := rfl
@[simp] theorem State.withRepair_pending (s : State) (x) : (s.withRepair x).pending = s.pending := rfl
@[simp] theorem State.withRepair_withRepair (s : State) (x y) : (s.withRepair x).withRepair y = s.withRepair y := rfl
@[simp] theorem State.withRepair_self (s : State) : s.withRepair s.repair = s := rfl

/-! ## withFreeUsed -/

@[simp] theorem State.withFreeUsed_straps (s : State) (x) : (s.withFreeUsed x).straps = s.straps := rfl
@[simp] theorem State.withFreeUsed_link (s : State) (x) : (s.withFreeUsed x).link = s.link := rfl
@[simp] theorem State.withFreeUsed_unit (s : State) (x) : (s.withFreeUsed x).unit = s.unit := rfl
@[simp] theorem State.withFreeUsed_ctl (s : State) (x) : (s.withFreeUsed x).ctl = s.ctl := rfl
@[simp] theorem State.withFreeUsed_store (s : State) (x) : (s.withFreeUsed x).store = s.store := rfl
@[simp] theorem State.withFreeUsed_comp (s : State) (x) : (s.withFreeUsed x).comp = s.comp := rfl
@[simp] theorem State.withFreeUsed_scan (s : State) (x) : (s.withFreeUsed x).scan = s.scan := rfl
@[simp] theorem State.withFreeUsed_sense (s : State) (x) : (s.withFreeUsed x).sense = s.sense := rfl
@[simp] theorem State.withFreeUsed_track (s : State) (x) : (s.withFreeUsed x).track = s.track := rfl
@[simp] theorem State.withFreeUsed_corr (s : State) (x) : (s.withFreeUsed x).corr = s.corr := rfl
@[simp] theorem State.withFreeUsed_repair (s : State) (x) : (s.withFreeUsed x).repair = s.repair := rfl
@[simp] theorem State.withFreeUsed_freeUsed (s : State) (x) : (s.withFreeUsed x).freeUsed = x := rfl
@[simp] theorem State.withFreeUsed_pending (s : State) (x) : (s.withFreeUsed x).pending = s.pending := rfl
@[simp] theorem State.withFreeUsed_withFreeUsed (s : State) (x y) : (s.withFreeUsed x).withFreeUsed y = s.withFreeUsed y := rfl
@[simp] theorem State.withFreeUsed_self (s : State) : s.withFreeUsed s.freeUsed = s := rfl

/-! ## withPending -/

@[simp] theorem State.withPending_straps (s : State) (x) : (s.withPending x).straps = s.straps := rfl
@[simp] theorem State.withPending_link (s : State) (x) : (s.withPending x).link = s.link := rfl
@[simp] theorem State.withPending_unit (s : State) (x) : (s.withPending x).unit = s.unit := rfl
@[simp] theorem State.withPending_ctl (s : State) (x) : (s.withPending x).ctl = s.ctl := rfl
@[simp] theorem State.withPending_store (s : State) (x) : (s.withPending x).store = s.store := rfl
@[simp] theorem State.withPending_comp (s : State) (x) : (s.withPending x).comp = s.comp := rfl
@[simp] theorem State.withPending_scan (s : State) (x) : (s.withPending x).scan = s.scan := rfl
@[simp] theorem State.withPending_sense (s : State) (x) : (s.withPending x).sense = s.sense := rfl
@[simp] theorem State.withPending_track (s : State) (x) : (s.withPending x).track = s.track := rfl
@[simp] theorem State.withPending_corr (s : State) (x) : (s.withPending x).corr = s.corr := rfl
@[simp] theorem State.withPending_repair (s : State) (x) : (s.withPending x).repair = s.repair := rfl
@[simp] theorem State.withPending_freeUsed (s : State) (x) : (s.withPending x).freeUsed = s.freeUsed := rfl
@[simp] theorem State.withPending_pending (s : State) (x) : (s.withPending x).pending = x := rfl
@[simp] theorem State.withPending_withPending (s : State) (x y) : (s.withPending x).withPending y = s.withPending y := rfl
@[simp] theorem State.withPending_self (s : State) : s.withPending s.pending = s := rfl

end Sys2Proof.Machine
end

