-- ==== Sys2Proof/Laws/Notices.lean ====
section
/-! SUPPORT. Laws/Notices.lean: what an event of a notice kind can change. -/

namespace Sys2Proof.Machine

/-- All that an event of a notice kind does: it may set that kind's flag (R176). -/
theorem raise_eq (k : NoticeKind) (s : State) :
    raise k s = s.withUnit { s.unit with
      notices := (if s.unit.params.noticeMask.get k then s.unit.notices.set k true else s.unit.notices) } := by
  unfold raise; split <;> rfl

@[simp] theorem raise_straps (k : NoticeKind) (s : State) : (raise k s).straps = s.straps := by simp [raise_eq]
@[simp] theorem raise_link (k : NoticeKind) (s : State) : (raise k s).link = s.link := by simp [raise_eq]
@[simp] theorem raise_ctl (k : NoticeKind) (s : State) : (raise k s).ctl = s.ctl := by simp [raise_eq]
@[simp] theorem raise_store (k : NoticeKind) (s : State) : (raise k s).store = s.store := by simp [raise_eq]
@[simp] theorem raise_comp (k : NoticeKind) (s : State) : (raise k s).comp = s.comp := by simp [raise_eq]
@[simp] theorem raise_scan (k : NoticeKind) (s : State) : (raise k s).scan = s.scan := by simp [raise_eq]
@[simp] theorem raise_sense (k : NoticeKind) (s : State) : (raise k s).sense = s.sense := by simp [raise_eq]
@[simp] theorem raise_track (k : NoticeKind) (s : State) : (raise k s).track = s.track := by simp [raise_eq]
@[simp] theorem raise_corr (k : NoticeKind) (s : State) : (raise k s).corr = s.corr := by simp [raise_eq]
@[simp] theorem raise_repair (k : NoticeKind) (s : State) : (raise k s).repair = s.repair := by simp [raise_eq]
@[simp] theorem raise_freeUsed (k : NoticeKind) (s : State) : (raise k s).freeUsed = s.freeUsed := by simp [raise_eq]
@[simp] theorem raise_pending (k : NoticeKind) (s : State) : (raise k s).pending = s.pending := by simp [raise_eq]
@[simp] theorem raise_replies (k : NoticeKind) (s : State) : (raise k s).unit.replies = s.unit.replies := by
  simp [raise_eq]
@[simp] theorem raise_resetWaiting (k : NoticeKind) (s : State) :
    (raise k s).unit.resetWaiting = s.unit.resetWaiting := by simp [raise_eq]
@[simp] theorem raise_params (k : NoticeKind) (s : State) : (raise k s).unit.params = s.unit.params := by simp [raise_eq]
@[simp] theorem raise_defectsSince (k : NoticeKind) (s : State) :
    (raise k s).unit.defectsSince = s.unit.defectsSince := by simp [raise_eq]

/-- Setting a flag and reading one. -/
theorem NoticeFlags.get_set (f : NoticeFlags) (k j : NoticeKind) (b : Bool) :
    (f.set k b).get j = if j = k then b else f.get j := by cases k <;> cases j <;> rfl

end Sys2Proof.Machine
end

