-- ==== Sys2Proof/Laws/Maps.lean ====
section
/-! SUPPORT. Laws/Maps.lean: reading a table after a write, what applying a change can touch, and the frame of the Pending
Change List and the Defect List. -/

namespace Sys2Proof.Machine

/-! ## Tables -/

/-- A write to an entry the table holds is read back. -/
theorem cellAt_cellSet_same {α : Type} (t : CellTable α) (r l : Nat) (v d : α) (hr : r < t.length)
    (hl : l < (t.getD r []).length) : cellAt (cellSet t r l v) r l d = v := by
  have h1 : (t[r]?).getD [] = t[r] := by simp [hr]
  simp only [List.getD_eq_getElem?_getD, h1] at hl
  simp [cellAt, cellSet, List.getD_eq_getElem?_getD, hr, hl]

/-- A write leaves every other entry as it was. -/
theorem cellAt_cellSet_other {α : Type} (t : CellTable α) (r l r' l' : Nat) (v d : α) (h : r' ≠ r ∨ l' ≠ l) :
    cellAt (cellSet t r l v) r' l' d = cellAt t r' l' d := by
  by_cases hr : r' = r
  · subst hr
    have hl : l ≠ l' := fun e => h.elim (fun k => k rfl) (fun k => k e.symm)
    by_cases hin : r' < t.length
    · simp [cellAt, cellSet, List.getD_eq_getElem?_getD, hin, hl]
    · simp [cellAt, cellSet, List.getD_eq_getElem?_getD, List.set_eq_of_length_le (Nat.le_of_not_lt hin)]
  · simp [cellAt, cellSet, List.getD_eq_getElem?_getD, Ne.symm hr]

/-- A write keeps the number of rows. -/
@[simp] theorem cellSet_length {α : Type} (t : CellTable α) (r l : Nat) (v : α) : (cellSet t r l v).length = t.length := by
  simp [cellSet]

/-- Every row after a write is as long as some row before it. -/
theorem cellSet_rows {α : Type} (t : CellTable α) (r l : Nat) (v : α) (n : Nat) (h : ∀ row ∈ t, row.length = n) :
    ∀ row ∈ cellSet t r l v, row.length = n := by
  intro row hrow
  by_cases hr : r < t.length
  · rcases List.mem_or_eq_of_mem_set hrow with hm | rfl
    · exact h row hm
    · rw [List.length_set, List.getD_eq_getElem?_getD]
      simpa [hr] using h t[r] (List.getElem_mem hr)
  · rw [cellSet, List.set_eq_of_length_le (Nat.le_of_not_lt hr)] at hrow
    exact h row hrow

/-- An entry of a table built from its entries. -/
theorem cellAt_cellBuild {α : Type} (n : Nat) (f : Nat → Nat → α) (r l : Nat) (d : α) (hr : r < n) (hl : l < 144) :
    cellAt (cellBuild n f) r l d = f r l := by
  simp [cellAt, cellBuild, List.getD_eq_getElem?_getD, hr, hl]

/-! ## Setting a health -/

@[simp] theorem setHealth_eq (x : DieRef) (h : Health) (s : State) :
    setHealth x h s = s.withRepair { s.repair with
      cells := cellSet s.repair.cells x.row x.lane ((cellEntry s x.row x.lane).withHealth x.die h) } := rfl

/-! ## What the Repair Engine's list operations leave as it is -/

/-- Nothing changes but the Repair Engine, the pulse lengths, and the Message Unit's flags, parameters and count of
defects. -/
structure ListFrame (s t : State) : Prop where
  straps       : t.straps = s.straps
  link         : t.link = s.link
  ctl          : t.ctl = s.ctl
  store        : t.store = s.store
  gains        : t.comp.gains = s.comp.gains
  clipCount    : t.comp.clipCount = s.comp.clipCount
  scan         : t.scan = s.scan
  sense        : t.sense = s.sense
  track        : t.track = s.track
  corr         : t.corr = s.corr
  freeUsed     : t.freeUsed = s.freeUsed
  pending      : t.pending = s.pending
  replies      : t.unit.replies = s.unit.replies
  resetWaiting : t.unit.resetWaiting = s.unit.resetWaiting
  params       : t.unit.params = s.unit.params

theorem ListFrame.refl (s : State) : ListFrame s s := by constructor <;> rfl

theorem ListFrame.trans {s t u : State} (h : ListFrame s t) (k : ListFrame t u) : ListFrame s u := by
  cases h; cases k; constructor <;> simp_all

theorem ListFrame.withRepair (s : State) (x : Repair) : ListFrame s (s.withRepair x) := by constructor <;> rfl

theorem ListFrame.raise (k : NoticeKind) (s : State) : ListFrame s (raise k s) := by constructor <;> simp

theorem ListFrame.zeroVictims (s : State) : ListFrame s (zeroVictims s) := by constructor <;> rfl

/-- One change applied (R112): the maps and slots alone, but for the notices of R113. -/
theorem ListFrame.applyChange (frame : Nat) (s : State) (c : Change) : ListFrame s (applyChange frame s c) := by
  unfold Machine.applyChange
  split
  · exact .withRepair _ _
  · dsimp only
    split
    · exact (ListFrame.withRepair _ _).trans (.raise _ _)
    · exact .withRepair _ _
  · dsimp only
    split
    · exact .withRepair _ _
    · exact (ListFrame.withRepair _ _).trans (.raise _ _)
  · exact .withRepair _ _

/-- The whole list applied (R112). -/
theorem ListFrame.applyChangesAt (frame : Nat) (s : State) : ListFrame s (applyChangesAt frame s) := by
  have h : ∀ (cs : List Change) (t : State), ListFrame t (cs.foldl (Machine.applyChange frame) t) := by
    intro cs
    induction cs with
    | nil => exact .refl
    | cons c cs ih => exact fun t => (ListFrame.applyChange frame t c).trans (ih _)
  exact (h s.repair.changes s).trans (.withRepair _ _)

/-- The application, with the zeroing that follows it outside RUN (R47, R112). -/
theorem ListFrame.applyChanges (s : State) : ListFrame s (applyChanges s) := by
  unfold Machine.applyChanges
  dsimp only
  split
  · exact .applyChangesAt _ _
  · exact (ListFrame.applyChangesAt _ _).trans (.zeroVictims _)

/-- The application empties the list (R112). -/
@[simp] theorem applyChanges_changes (s : State) : (applyChanges s).repair.changes = [] := by
  unfold Machine.applyChanges
  dsimp only
  split <;> simp [Machine.applyChangesAt, Machine.zeroVictims]

/-- A slot that stays as it is moves nothing (R113). -/
@[simp] theorem slotMoves_self (x : SlotState) : slotMoves x x = false := by cases x <;> simp [slotMoves]

/-- When a lane change sets LANE_EVENT pending (R113): it binds a slot, displaces one, or the lane enters or leaves DARK. -/
theorem laneChangeShows_iff (l : Nat) (st : LaneState) (disp : Disposition) (frame : Nat) (s : State) :
    laneChangeShows s l st disp frame = true ↔
      ((∃ k, st = .spared k) ∨ (∃ f, .bound l f ∈ s.repair.slots) ∨ (laneNow s l = .dark ↔ st ≠ .dark)) := by
  unfold laneChangeShows
  by_cases h : ∃ k, st = .spared k
  · obtain ⟨k, rfl⟩ := h; simp [LaneState.slot]
  · have hs : st.slot = none := by cases st <;> simp_all [LaneState.slot]
    have e : (List.zipWith slotMoves s.repair.slots (slotsAfter s.repair.slots l st disp frame)).any id = true
        ↔ ∃ f, .bound l f ∈ s.repair.slots := by
      simp only [slotsAfter, hs]
      have : ∀ xs : List SlotState, (xs.mapIdx fun k x => if (none : Option Nat) = some k then SlotState.bound l frame
        else if x.boundTo l then disp.toSlot else x) = xs.map fun x => if x.boundTo l then disp.toSlot else x := by
        intro xs; simp [List.mapIdx_eq_iff]
      rw [this]
      induction s.repair.slots with
      | nil => simp
      | cons x xs ih =>
        have hx : slotMoves x (if x.boundTo l then disp.toSlot else x) = true ↔ ∃ f, x = .bound l f := by
          cases x with
          | bound a b =>
            by_cases hab : a = l
            · subst hab; cases disp <;> simp [SlotState.boundTo, Disposition.toSlot, slotMoves]
            · simp [SlotState.boundTo, hab, slotMoves]
          | _ => simp [SlotState.boundTo, slotMoves]
        simp only [List.map_cons, List.zipWith_cons_cons, List.any_cons, id, Bool.or_eq_true, ih, hx, List.mem_cons]
        constructor
        · rintro (⟨f, rfl⟩ | ⟨f, hf⟩)
          · exact ⟨f, .inl rfl⟩
          · exact ⟨f, .inr hf⟩
        · rintro ⟨f, rfl | hf⟩
          · exact .inl ⟨f, rfl⟩
          · exact .inr ⟨f, hf⟩
    rw [hs]
    simp only [Option.isSome_none, Bool.false_or, Bool.or_eq_true, e, h, false_or]
    apply or_congr Iff.rfl
    by_cases a : laneNow s l = .dark <;> by_cases b : st = .dark <;> simp [a, b]

/-- The application of one entry neither reads nor writes the list it stands in (R112). -/
theorem applyChange_withChanges (frame : Nat) (s : State) (cs : List Change) (c : Change) :
    applyChange frame (s.withRepair { s.repair with changes := cs }) c
      = (applyChange frame s c).withRepair { (applyChange frame s c).repair with changes := cs } := by
  cases c with
  | cell r l st => rfl
  | lane l st d =>
    unfold applyChange
    dsimp only
    have : laneChangeShows (s.withRepair { s.repair with changes := cs }) l st d frame = laneChangeShows s l st d frame := rfl
    rw [this]; split
    · simp [raise_eq]; rfl
    · rfl
  | row r st =>
    unfold applyChange
    dsimp only
    have : rowNow (s.withRepair { s.repair with changes := cs }) r = rowNow s r := rfl
    rw [this]; split
    · rfl
    · simp [raise_eq]; rfl
  | removal k q => rfl

@[simp] theorem applyChange_repair_changes (frame : Nat) (s : State) (c : Change) :
    (applyChange frame s c).repair.changes = s.repair.changes := by
  cases c <;> unfold applyChange <;> dsimp only <;> (try split) <;> simp

/-- Entries added (R111, R112). -/
theorem ListFrame.addChanges (cs : List Change) (s : State) : ListFrame s (addChanges cs s) := by
  unfold Machine.addChanges
  dsimp only
  split
  · exact (ListFrame.withRepair _ _).trans (.applyChanges _)
  · exact .withRepair _ _

/-- Outside STANDBY an added entry joins the tail and nothing else happens (R111). -/
theorem addChanges_waits (cs : List Change) (s : State) (h : s.ctl.mode ≠ .standby) :
    addChanges cs s = s.withRepair { s.repair with changes := s.repair.changes ++ cs } := by
  simp [Machine.addChanges, h]

/-- A record is counted and noticed (R135, R178). -/
theorem ListFrame.countDefect (s : State) : ListFrame s (countDefect s) :=
  ListFrame.trans (t := s.withUnit _) (by constructor <;> rfl) (.raise _ _)

theorem countDefect_repair (s : State) : (countDefect s).repair = s.repair := by simp [countDefect]
theorem countDefect_defectsSince (s : State) :
    (countDefect s).unit.defectsSince = min (s.unit.defectsSince + 1) 65535 := by simp [countDefect, satAdd]

/-- A record joins the tail in place of any of its target (R131, R132). -/
theorem ListFrame.addRecord (x : Defect) (s : State) : ListFrame s (addRecord x s) := .withRepair _ _

theorem addRecord_repair (x : Defect) (s : State) :
    (addRecord x s).repair = { s.repair with
      defects := s.repair.defects.filter (fun y => !(y.target == x.target)) ++ [{ x with seq := s.repair.seqCounter }]
      seqCounter := (s.repair.seqCounter + 1) % 65536 } := rfl

end Sys2Proof.Machine
end

