-- ==== Sys2Proof/Laws/Decisions.lean ====
section
/-! SUPPORT. Laws/Decisions.lean: what the fault path, from the take of a descriptor to the completion of a decision or a
bind, leaves as it is. -/

namespace Sys2Proof.Machine

/-- Nothing changes but the Suspect Tracker, the Correlator, the Repair Engine, the tried marks, the pulse lengths, the
policy, and the Message Unit's flags and count of defects. -/
structure FaultFrame (s t : State) : Prop where
  straps       : t.straps = s.straps
  link         : t.link = s.link
  ctl          : t.ctl = s.ctl
  store        : t.store = s.store
  gains        : t.comp.gains = s.comp.gains
  clipCount    : t.comp.clipCount = s.comp.clipCount
  scan         : t.scan = s.scan
  sense        : t.sense = { s.sense with tried := t.sense.tried }
  pending      : t.pending = s.pending
  replies      : t.unit.replies = s.unit.replies
  resetWaiting : t.unit.resetWaiting = s.unit.resetWaiting
  params       : t.unit.params = { s.unit.params with policy := t.unit.params.policy }

theorem FaultFrame.refl (s : State) : FaultFrame s s := by constructor <;> rfl

theorem FaultFrame.trans {s t u : State} (h : FaultFrame s t) (k : FaultFrame t u) : FaultFrame s u := by
  obtain ⟨h1, h2, h3, h4, h5, h6, h7, h8, h9, h10, h11, h12⟩ := h
  obtain ⟨k1, k2, k3, k4, k5, k6, k7, k8, k9, k10, k11, k12⟩ := k
  constructor
  · rw [k1, h1]
  · rw [k2, h2]
  · rw [k3, h3]
  · rw [k4, h4]
  · rw [k5, h5]
  · rw [k6, h6]
  · rw [k7, h7]
  · rw [k8, h8]
  · rw [k9, h9]
  · rw [k10, h10]
  · rw [k11, h11]
  · rw [k12, h12]

theorem FaultFrame.ofList {s t : State} (h : ListFrame s t) : FaultFrame s t := by
  cases h; constructor <;> simp_all

theorem FaultFrame.withRepair (s : State) (x : Repair) : FaultFrame s (s.withRepair x) := by constructor <;> rfl
theorem FaultFrame.withTrack (s : State) (x : Tracker) : FaultFrame s (s.withTrack x) := by constructor <;> rfl
theorem FaultFrame.withCorr (s : State) (x : Correlator) : FaultFrame s (s.withCorr x) := by constructor <;> rfl
theorem FaultFrame.withFreeUsed (s : State) (x : Nat) : FaultFrame s (s.withFreeUsed x) := by constructor <;> rfl
theorem FaultFrame.tried (s : State) (x : Tried) : FaultFrame s (s.withSense { s.sense with tried := x }) := by
  constructor <;> rfl
theorem FaultFrame.raise (k : NoticeKind) (s : State) : FaultFrame s (raise k s) := .ofList (.raise k s)
theorem FaultFrame.setSlot (k : Nat) (x : SlotState) (s : State) : FaultFrame s (setSlot k x s) := .withRepair _ _
theorem FaultFrame.setHealth (x : DieRef) (h : Health) (s : State) : FaultFrame s (Machine.setHealth x h s) :=
  .withRepair _ _

/-! ## The held line and the removals (R83 to R86) -/

theorem FaultFrame.fillOnce (s : State) : FaultFrame s (fillOnce s) := by
  unfold Machine.fillOnce
  repeat' split
  all_goals first | exact .refl _ | exact .withTrack _ _

theorem FaultFrame.foldl {α : Type} (f : State → α → State) (h : ∀ t a, FaultFrame t (f t a)) :
    ∀ (xs : List α) (t : State), FaultFrame t (xs.foldl f t) := by
  intro xs
  induction xs with
  | nil => exact .refl
  | cons a xs ih => exact fun t => (h t a).trans (ih _)

theorem FaultFrame.fillHeld (s : State) : FaultFrame s (fillHeld s) := .foldl _ (fun t _ => .fillOnce t) _ _

theorem FaultFrame.removeDies (p : DieRef → Bool) (s : State) : FaultFrame s (removeDies p s) :=
  (FaultFrame.withTrack _ _).trans (.fillHeld _)

/-! ## Decisions (R115 to R121) -/

theorem FaultFrame.leaveUnrecorded (s : State) : FaultFrame s (leaveUnrecorded s) :=
  (FaultFrame.withRepair _ _).trans (.raise _ _)

theorem FaultFrame.decisionRecord (t : Target) (k : DefectKind) (a : DefectAction) (slot : Option Nat) (v hot : Bool)
    (s : State) : FaultFrame s (decisionRecord t k a slot v hot s) :=
  (FaultFrame.ofList (.addRecord _ _)).trans (.ofList (.countDefect _))

theorem FaultFrame.addChanges (cs : List Change) (s : State) : FaultFrame s (addChanges cs s) :=
  .ofList (.addChanges cs s)

theorem FaultFrame.cellEffects (x : DieRef) (k : FaultKind) (hot : Bool) (c : DefectAction × Option CellState)
    (s : State) : FaultFrame s (cellEffects x k hot c s) := by
  have h : FaultFrame s (dieRemoval x (Machine.decisionRecord (.die x.row x.lane x.die) k.defect c.1 none false hot
      (Machine.setHealth x k.health s))) :=
    ((FaultFrame.setHealth _ _ _).trans (.decisionRecord _ _ _ _ _ _ _)).trans (.removeDies _ _)
  unfold Machine.cellEffects
  dsimp only
  split
  · exact h.trans (.addChanges _ _)
  · exact h

theorem FaultFrame.decideCell (auto : Bool) (x : DieRef) (k : FaultKind) (hot : Bool) (s : State) :
    FaultFrame s (decideCell auto x k hot s) := by
  unfold Machine.decideCell
  repeat' split
  · exact .leaveUnrecorded _
  · exact .withRepair _ _
  · exact .cellEffects _ _ _ _ _

theorem FaultFrame.decideRow (auto : Bool) (r : Nat) (hot : Bool) (s : State) :
    FaultFrame s (decideRow auto r hot s) := by
  have h : ∀ a, FaultFrame s (rowRemoval r (Machine.decisionRecord (.row r) .rowDead a none false hot s)) := fun a =>
    (FaultFrame.decisionRecord _ _ _ _ _ _ _).trans (.removeDies _ _)
  unfold Machine.decideRow
  repeat' split
  · exact .leaveUnrecorded _
  · exact (h _).trans (.addChanges _ _)
  · exact .withRepair _ _
  · exact h _

theorem FaultFrame.suspendPolicy (s : State) : FaultFrame s (suspendPolicy s) := by constructor <;> rfl

theorem FaultFrame.decideWide (x : DieRef) (hot : Bool) (s : State) : FaultFrame s (decideWide x hot s) := by
  unfold Machine.decideWide
  split
  · exact .leaveUnrecorded _
  · exact (((FaultFrame.decisionRecord _ _ _ _ _ _ _).trans (.removeDies _ _)).trans (.suspendPolicy _)).trans
      (.raise _ _)

theorem FaultFrame.adviseLane (l : Nat) (hot : Bool) (s : State) : FaultFrame s (adviseLane l hot s) := by
  unfold Machine.adviseLane
  split
  · exact .decisionRecord _ _ _ _ _ _ _
  · exact .leaveUnrecorded _

theorem FaultFrame.freeReserved (l : Nat) (ks : List Nat) (s : State) : FaultFrame s (freeReserved l ks s) :=
  .withRepair _ _

theorem FaultFrame.blame (ks : List Nat) (s : State) : FaultFrame s (blame ks s) := by
  unfold Machine.blame
  dsimp only
  split
  · exact (FaultFrame.withRepair _ _).trans (.raise _ _)
  · exact .withRepair _ _

theorem FaultFrame.finishRecord (l : Nat) (hot : Bool) (f : LaneFinish) (s : State) :
    FaultFrame s (finishRecord l hot f s) := by
  unfold Machine.finishRecord
  split
  · exact (FaultFrame.decisionRecord _ _ _ _ _ _ _).trans (.blame _ _)
  · exact (FaultFrame.decisionRecord _ _ _ _ _ _ _).trans (.freeReserved _ _ _)
  · exact .decisionRecord _ _ _ _ _ _ _

theorem FaultFrame.finishLane (l : Nat) (hot : Bool) (f : LaneFinish) (iso : Bool) (s : State) :
    FaultFrame s (finishLane l hot f iso s) := by
  unfold Machine.finishLane
  repeat' split
  · exact .refl _
  · exact (FaultFrame.freeReserved _ _ _).trans (.leaveUnrecorded _)
  · exact .finishRecord _ _ _ _
  · exact (FaultFrame.finishRecord _ _ _ _).trans (.addChanges _ _)
  · exact .withRepair _ _

/-! ## The Correlation Check (R88 to R100) -/

theorem FaultFrame.endCheck (s : State) : FaultFrame s (endCheck s) :=
  (((FaultFrame.withCorr _ _).trans (.tried _ _)).trans (.withRepair _ _)).trans (.fillHeld _)

theorem FaultFrame.verifyDie (x : DieRef) (s : State) : FaultFrame s (verifyDie x s).2 := by
  unfold Machine.verifyDie
  split
  · exact .refl _
  · exact .withFreeUsed _ _

theorem FaultFrame.startVerify (c : Check) (x : DieRef) (k : Nat) (tried : List Nat) (iso : Bool) (s : State) :
    FaultFrame s (startVerify c x k tried iso s) :=
  ((FaultFrame.setSlot _ _ _).trans (.withCorr _ _)).trans (.tried _ _)

theorem FaultFrame.searchSlot (c : Check) (iso : Bool) (s : State) : FaultFrame s (searchSlot c iso s) := by
  unfold Machine.searchSlot
  split
  · exact (FaultFrame.verifyDie _ _).trans (.startVerify _ _ _ _ _ _)
  · exact (FaultFrame.finishLane _ _ _ _ _).trans (.endCheck _)

theorem FaultFrame.isolate (l : Nat) (hot : Bool) (s : State) : FaultFrame s (isolate l hot s) := by
  unfold Machine.isolate
  split
  · exact (FaultFrame.leaveUnrecorded _).trans (.endCheck _)
  · split
    · exact ((FaultFrame.decisionRecord _ _ _ _ _ _ _).trans (.withRepair _ _)).trans (.addChanges _ _)
    · exact .withRepair _ _

theorem FaultFrame.autoLane (c : Check) (s : State) : FaultFrame s (autoLane c s) := by
  unfold Machine.autoLane
  repeat' split
  · exact .isolate _ _ _
  · exact .withRepair _ _
  · exact .searchSlot _ _ _

theorem FaultFrame.releaseHold (s : State) : FaultFrame s (releaseHold s) := by
  unfold Machine.releaseHold
  repeat' split
  · exact .refl _
  · exact (FaultFrame.withRepair _ _).trans (.searchSlot _ _ _)
  · exact .refl _

theorem FaultFrame.handOutcome (c : Check) (s : State) : FaultFrame s (handOutcome c s) := by
  unfold Machine.handOutcome
  split
  · exact (FaultFrame.decideWide _ _ _).trans (.endCheck _)
  · exact (FaultFrame.decideRow _ _ _ _).trans (.endCheck _)
  · exact (FaultFrame.decideCell _ _ _ _ _).trans (.endCheck _)
  · dsimp only
    split
    · exact (FaultFrame.removeDies _ _).trans (.autoLane _ _)
    · exact ((FaultFrame.removeDies _ _).trans (.adviseLane _ _ _)).trans (.endCheck _)

theorem FaultFrame.startCheck (d : Descriptor) (s : State) : FaultFrame s (startCheck d s) := by
  have h : ∀ c : Check, FaultFrame s ((s.withCorr { check := some c }).withSense { s.sense with tried := .clear }) :=
    fun c => (FaultFrame.withCorr _ _).trans (.tried _ _)
  unfold Machine.startCheck
  dsimp only
  split
  · exact (h _).trans (.handOutcome _ _)
  · exact h _

theorem FaultFrame.takeOne (s : State) : FaultFrame s (takeOne s) := by
  unfold Machine.takeOne
  split
  · exact .refl _
  · dsimp only
    split
    · exact (FaultFrame.withTrack _ _).trans (.fillHeld _)
    · split
      · exact (FaultFrame.withTrack _ _).trans (.startCheck _ _)
      · exact ((FaultFrame.withTrack _ _).trans (.decideCell _ _ _ _ _)).trans (.fillHeld _)
      · exact ((FaultFrame.withTrack _ _).trans (.decideCell _ _ _ _ _)).trans (.fillHeld _)

theorem FaultFrame.takeLoop (n : Nat) : ∀ s : State, FaultFrame s (takeLoop n s) := by
  induction n with
  | zero => exact .refl
  | succ n ih =>
    intro s
    unfold Machine.takeLoop
    split
    · exact (FaultFrame.takeOne _).trans (ih _)
    · exact .refl _

theorem FaultFrame.takeAll (s : State) : FaultFrame s (takeAll s) := .takeLoop _ _

/-- What follows at once from a change in the fault path (R89, R117). -/
theorem FaultFrame.settle (s : State) : FaultFrame s (settle s) := (FaultFrame.releaseHold _).trans (.takeAll _)

theorem FaultFrame.probeDone (n : Nat) (r : TestResult) (s : State) : FaultFrame s (probeDone n r s) := by
  unfold Machine.probeDone
  split
  · exact .refl _
  · dsimp only
    split
    · exact (FaultFrame.withCorr _ _).trans (.handOutcome _ _)
    · exact .withCorr _ _

theorem FaultFrame.verifyDone (c : Check) (v : Verify) (r : TestResult) (s : State) :
    FaultFrame s (verifyDone c v r s) := by
  have h (f : LaneFinish) : FaultFrame s (Machine.endCheck (Machine.finishLane c.die.lane c.hotSeen f v.isolated s)) :=
    (FaultFrame.finishLane _ _ _ _ _).trans (.endCheck _)
  have k (j : Nat) : FaultFrame s
      (Machine.startVerify c v.die j v.tried v.isolated (Machine.setSlot v.slot .free s)) :=
    (FaultFrame.setSlot _ _ _).trans (.startVerify _ _ _ _ _ _)
  unfold Machine.verifyDone
  cases r
  · exact h _
  · dsimp only
    split
    · exact k _
    · exact h _
  · dsimp only
    split
    · exact k _
    · exact h _
  · exact .refl _

/-! ## The manual bind and what an application makes room for (R115, R117, R127) -/

theorem FaultFrame.endBind (b : Bind) (r : Reply) (s : State) : FaultFrame s (endBind b r s) := .withRepair _ _

theorem FaultFrame.completeBind (b : Bind) (t frame : Nat) (temp : Int) (s : State) :
    FaultFrame s (completeBind b t frame temp s) := by
  unfold Machine.completeBind
  split
  · exact (((FaultFrame.ofList (.addRecord _ _)).trans (.ofList (.countDefect _))).trans (.addChanges _ _)).trans
      (.endBind _ _ _)
  · exact (FaultFrame.setSlot _ _ _).trans (.endBind _ _ _)

theorem FaultFrame.bindDone (b : Bind) (r : TestResult) (t : Nat) (s : State) : FaultFrame s (bindDone b r t s) := by
  unfold Machine.bindDone
  repeat' split
  all_goals first
    | exact .refl _
    | exact (FaultFrame.setSlot _ _ _).trans (.endBind _ _ _)
    | exact .completeBind _ _ _ _ _
    | exact .withRepair _ _

theorem FaultFrame.bindRoom (s : State) : FaultFrame s (bindRoom s) := by
  unfold Machine.bindRoom
  repeat' split
  all_goals first
    | exact .refl _
    | exact .completeBind _ _ _ _ _

theorem FaultFrame.takeWaiting (s : State) : FaultFrame s (takeWaiting s) := by
  unfold Machine.takeWaiting
  split
  · exact .refl _
  · dsimp only
    split
    · exact (FaultFrame.withRepair _ _).trans (.decideCell _ _ _ _ _)
    · exact (FaultFrame.withRepair _ _).trans (.decideRow _ _ _ _)
    · exact (FaultFrame.withRepair _ _).trans (.finishLane _ _ _ _ _)

theorem FaultFrame.addIsolation (s : State) : FaultFrame s (addIsolation s) := by
  unfold Machine.addIsolation
  repeat' split
  all_goals first
    | exact .refl _
    | exact .isolate _ _ _

theorem FaultFrame.waitingIn (s : State) : FaultFrame s (Machine.addIsolation (Machine.takeWaiting s)) :=
  (FaultFrame.takeWaiting s).trans (.addIsolation _)

theorem FaultFrame.useRoom (s : State) : FaultFrame s (useRoom s) := by
  have h (t : State) : FaultFrame t (Machine.bindRoom (Machine.addIsolation (Machine.takeWaiting t))) :=
    (FaultFrame.waitingIn t).trans (.bindRoom _)
  have k (t : State) : FaultFrame t (Machine.addIsolation (Machine.takeWaiting (Machine.bindRoom t))) :=
    (FaultFrame.bindRoom t).trans (.waitingIn _)
  have f : FaultFrame s (s.withFreeUsed (s.freeUsed + 1)) := .withFreeUsed _ _
  unfold Machine.useRoom
  split
  · dsimp only
    split
    · exact f.trans (k _)
    · exact f.trans (h _)
  · exact h s

/-- After an application (R89, R115, R117, R127). -/
theorem FaultFrame.afterApplication (s : State) : FaultFrame s (afterApplication s) :=
  (FaultFrame.useRoom _).trans (.settle _)

end Sys2Proof.Machine
end

