-- ==== Sys2Proof/Laws/Requests.lean ====
section
/-! SUPPORT. Laws/Requests.lean: what presenting, taking and answering a request can change, and what a request row does
with a message that reaches its owner. -/

namespace Sys2Proof.Machine

/-! ## Answers -/

/-- A reply enters at the tail and changes nothing else (R165). -/
theorem pushReply_unit (r : Reply) (s : State) :
    (pushReply r s).unit = { s.unit with replies := s.unit.replies ++ [r] } := rfl

@[simp] theorem pushReply_straps (r : Reply) (s : State) : (pushReply r s).straps = s.straps := by rfl
@[simp] theorem pushReply_link (r : Reply) (s : State) : (pushReply r s).link = s.link := by rfl
@[simp] theorem pushReply_ctl (r : Reply) (s : State) : (pushReply r s).ctl = s.ctl := by rfl
@[simp] theorem pushReply_store (r : Reply) (s : State) : (pushReply r s).store = s.store := by rfl
@[simp] theorem pushReply_comp (r : Reply) (s : State) : (pushReply r s).comp = s.comp := by rfl
@[simp] theorem pushReply_scan (r : Reply) (s : State) : (pushReply r s).scan = s.scan := by rfl
@[simp] theorem pushReply_sense (r : Reply) (s : State) : (pushReply r s).sense = s.sense := by rfl
@[simp] theorem pushReply_track (r : Reply) (s : State) : (pushReply r s).track = s.track := by rfl
@[simp] theorem pushReply_corr (r : Reply) (s : State) : (pushReply r s).corr = s.corr := by rfl
@[simp] theorem pushReply_repair (r : Reply) (s : State) : (pushReply r s).repair = s.repair := by rfl
@[simp] theorem pushReply_freeUsed (r : Reply) (s : State) : (pushReply r s).freeUsed = s.freeUsed := by rfl
@[simp] theorem pushReply_pending (r : Reply) (s : State) : (pushReply r s).pending = s.pending := by rfl
@[simp] theorem pushReply_replies (r : Reply) (s : State) : (pushReply r s).unit.replies = s.unit.replies ++ [r] := rfl
@[simp] theorem pushReply_resetWaiting (r : Reply) (s : State) :
    (pushReply r s).unit.resetWaiting = s.unit.resetWaiting := rfl
@[simp] theorem pushReply_params (r : Reply) (s : State) : (pushReply r s).unit.params = s.unit.params := rfl
@[simp] theorem pushReply_notices (r : Reply) (s : State) : (pushReply r s).unit.notices = s.unit.notices := rfl
@[simp] theorem pushReply_defectsSince (r : Reply) (s : State) :
    (pushReply r s).unit.defectsSince = s.unit.defectsSince := rfl

/-- An answer is one reply at the tail, and none for a broadcast (R164, R165). -/
theorem answer_eq (kind : Byte) (q : Request) (x : ReplyStatus) (c : List Byte) (s : State) :
    answer kind q x c s = if q.broadcast then s else s.replying (replyOf kind q (statusByte x) c) := by
  unfold answer; split <;> rfl

@[simp] theorem answer_straps (kind : Byte) (q : Request) (x : ReplyStatus) (c : List Byte) (s : State) :
    (answer kind q x c s).straps = s.straps := by unfold answer; split <;> rfl
@[simp] theorem answer_link (kind : Byte) (q : Request) (x : ReplyStatus) (c : List Byte) (s : State) :
    (answer kind q x c s).link = s.link := by unfold answer; split <;> rfl
@[simp] theorem answer_ctl (kind : Byte) (q : Request) (x : ReplyStatus) (c : List Byte) (s : State) :
    (answer kind q x c s).ctl = s.ctl := by unfold answer; split <;> rfl
@[simp] theorem answer_store (kind : Byte) (q : Request) (x : ReplyStatus) (c : List Byte) (s : State) :
    (answer kind q x c s).store = s.store := by unfold answer; split <;> rfl
@[simp] theorem answer_comp (kind : Byte) (q : Request) (x : ReplyStatus) (c : List Byte) (s : State) :
    (answer kind q x c s).comp = s.comp := by unfold answer; split <;> rfl
@[simp] theorem answer_scan (kind : Byte) (q : Request) (x : ReplyStatus) (c : List Byte) (s : State) :
    (answer kind q x c s).scan = s.scan := by unfold answer; split <;> rfl
@[simp] theorem answer_sense (kind : Byte) (q : Request) (x : ReplyStatus) (c : List Byte) (s : State) :
    (answer kind q x c s).sense = s.sense := by unfold answer; split <;> rfl
@[simp] theorem answer_track (kind : Byte) (q : Request) (x : ReplyStatus) (c : List Byte) (s : State) :
    (answer kind q x c s).track = s.track := by unfold answer; split <;> rfl
@[simp] theorem answer_corr (kind : Byte) (q : Request) (x : ReplyStatus) (c : List Byte) (s : State) :
    (answer kind q x c s).corr = s.corr := by unfold answer; split <;> rfl
@[simp] theorem answer_repair (kind : Byte) (q : Request) (x : ReplyStatus) (c : List Byte) (s : State) :
    (answer kind q x c s).repair = s.repair := by unfold answer; split <;> rfl
@[simp] theorem answer_freeUsed (kind : Byte) (q : Request) (x : ReplyStatus) (c : List Byte) (s : State) :
    (answer kind q x c s).freeUsed = s.freeUsed := by unfold answer; split <;> rfl
@[simp] theorem answer_pending (kind : Byte) (q : Request) (x : ReplyStatus) (c : List Byte) (s : State) :
    (answer kind q x c s).pending = s.pending := by unfold answer; split <;> rfl
@[simp] theorem answer_params (kind : Byte) (q : Request) (x : ReplyStatus) (c : List Byte) (s : State) :
    (answer kind q x c s).unit.params = s.unit.params := by unfold answer; split <;> rfl
@[simp] theorem answer_resetWaiting (kind : Byte) (q : Request) (x : ReplyStatus) (c : List Byte) (s : State) :
    (answer kind q x c s).unit.resetWaiting = s.unit.resetWaiting := by unfold answer; split <;> rfl
@[simp] theorem answer_notices (kind : Byte) (q : Request) (x : ReplyStatus) (c : List Byte) (s : State) :
    (answer kind q x c s).unit.notices = s.unit.notices := by unfold answer; split <;> rfl
@[simp] theorem answer_defectsSince (kind : Byte) (q : Request) (x : ReplyStatus) (c : List Byte) (s : State) :
    (answer kind q x c s).unit.defectsSince = s.unit.defectsSince := by unfold answer; split <;> rfl

/-- A refusal answers with the status alone (R179). -/
theorem refuse_eq (kind : Byte) (q : Request) (x : ReplyStatus) (s : State) :
    refuse kind q x s = if q.broadcast then s else s.replying (replyOf kind q (statusByte x) []) :=
  answer_eq kind q x [] s

@[simp] theorem State.replying_straps (r : Reply) (s : State) : (s.replying r).straps = s.straps := by rfl
@[simp] theorem State.replying_link (r : Reply) (s : State) : (s.replying r).link = s.link := by rfl
@[simp] theorem State.replying_ctl (r : Reply) (s : State) : (s.replying r).ctl = s.ctl := by rfl
@[simp] theorem State.replying_store (r : Reply) (s : State) : (s.replying r).store = s.store := by rfl
@[simp] theorem State.replying_comp (r : Reply) (s : State) : (s.replying r).comp = s.comp := by rfl
@[simp] theorem State.replying_scan (r : Reply) (s : State) : (s.replying r).scan = s.scan := by rfl
@[simp] theorem State.replying_sense (r : Reply) (s : State) : (s.replying r).sense = s.sense := by rfl
@[simp] theorem State.replying_track (r : Reply) (s : State) : (s.replying r).track = s.track := by rfl
@[simp] theorem State.replying_corr (r : Reply) (s : State) : (s.replying r).corr = s.corr := by rfl
@[simp] theorem State.replying_repair (r : Reply) (s : State) : (s.replying r).repair = s.repair := by rfl
@[simp] theorem State.replying_freeUsed (r : Reply) (s : State) : (s.replying r).freeUsed = s.freeUsed := by rfl
@[simp] theorem State.replying_pending (r : Reply) (s : State) : (s.replying r).pending = s.pending := by rfl

/-! ## Presenting and taking (R152, R153, log 4) -/

/-- Presenting a request changes the ports' buffers alone. -/
theorem present_eq (kind : Byte) (q : Request) (s : State) :
    present kind q s = s.withLink (present kind q s).link := by unfold present; split <;> rfl

/-- A take changes the ports' buffers alone. -/
theorem atTake_eq (kind : Byte) (q : Request) (s : State) : atTake kind q s = s.withLink (atTake kind q s).link := by
  unfold atTake takeHead; rw [present_eq]; rfl

@[simp] theorem present_straps (kind : Byte) (q : Request) (s : State) :
    (present kind q s).straps = s.straps := by rw [present_eq]; rfl
@[simp] theorem present_unit (kind : Byte) (q : Request) (s : State) :
    (present kind q s).unit = s.unit := by rw [present_eq]; rfl
@[simp] theorem present_ctl (kind : Byte) (q : Request) (s : State) :
    (present kind q s).ctl = s.ctl := by rw [present_eq]; rfl
@[simp] theorem present_store (kind : Byte) (q : Request) (s : State) :
    (present kind q s).store = s.store := by rw [present_eq]; rfl
@[simp] theorem present_comp (kind : Byte) (q : Request) (s : State) :
    (present kind q s).comp = s.comp := by rw [present_eq]; rfl
@[simp] theorem present_scan (kind : Byte) (q : Request) (s : State) :
    (present kind q s).scan = s.scan := by rw [present_eq]; rfl
@[simp] theorem present_sense (kind : Byte) (q : Request) (s : State) :
    (present kind q s).sense = s.sense := by rw [present_eq]; rfl
@[simp] theorem present_track (kind : Byte) (q : Request) (s : State) :
    (present kind q s).track = s.track := by rw [present_eq]; rfl
@[simp] theorem present_corr (kind : Byte) (q : Request) (s : State) :
    (present kind q s).corr = s.corr := by rw [present_eq]; rfl
@[simp] theorem present_repair (kind : Byte) (q : Request) (s : State) :
    (present kind q s).repair = s.repair := by rw [present_eq]; rfl
@[simp] theorem present_freeUsed (kind : Byte) (q : Request) (s : State) :
    (present kind q s).freeUsed = s.freeUsed := by rw [present_eq]; rfl
@[simp] theorem present_pending (kind : Byte) (q : Request) (s : State) :
    (present kind q s).pending = s.pending := by rw [present_eq]; rfl
@[simp] theorem atTake_straps (kind : Byte) (q : Request) (s : State) :
    (atTake kind q s).straps = s.straps := by rw [atTake_eq]; rfl
@[simp] theorem atTake_unit (kind : Byte) (q : Request) (s : State) :
    (atTake kind q s).unit = s.unit := by rw [atTake_eq]; rfl
@[simp] theorem atTake_ctl (kind : Byte) (q : Request) (s : State) :
    (atTake kind q s).ctl = s.ctl := by rw [atTake_eq]; rfl
@[simp] theorem atTake_store (kind : Byte) (q : Request) (s : State) :
    (atTake kind q s).store = s.store := by rw [atTake_eq]; rfl
@[simp] theorem atTake_comp (kind : Byte) (q : Request) (s : State) :
    (atTake kind q s).comp = s.comp := by rw [atTake_eq]; rfl
@[simp] theorem atTake_scan (kind : Byte) (q : Request) (s : State) :
    (atTake kind q s).scan = s.scan := by rw [atTake_eq]; rfl
@[simp] theorem atTake_sense (kind : Byte) (q : Request) (s : State) :
    (atTake kind q s).sense = s.sense := by rw [atTake_eq]; rfl
@[simp] theorem atTake_track (kind : Byte) (q : Request) (s : State) :
    (atTake kind q s).track = s.track := by rw [atTake_eq]; rfl
@[simp] theorem atTake_corr (kind : Byte) (q : Request) (s : State) :
    (atTake kind q s).corr = s.corr := by rw [atTake_eq]; rfl
@[simp] theorem atTake_repair (kind : Byte) (q : Request) (s : State) :
    (atTake kind q s).repair = s.repair := by rw [atTake_eq]; rfl
@[simp] theorem atTake_freeUsed (kind : Byte) (q : Request) (s : State) :
    (atTake kind q s).freeUsed = s.freeUsed := by rw [atTake_eq]; rfl
@[simp] theorem atTake_pending (kind : Byte) (q : Request) (s : State) :
    (atTake kind q s).pending = s.pending := by rw [atTake_eq]; rfl

/-- Only the buffers of the ports are changed by presenting a request. -/
theorem present_link (kind : Byte) (q : Request) (s : State) :
    (present kind q s).link = { s.link with
      upBuf := (present kind q s).link.upBuf, downBuf := (present kind q s).link.downBuf } := by
  unfold present; split <;> rfl

/-- Only the buffers of the ports are changed by a take. -/
theorem atTake_link (kind : Byte) (q : Request) (s : State) :
    (atTake kind q s).link = { s.link with
      upBuf := (atTake kind q s).link.upBuf, downBuf := (atTake kind q s).link.downBuf } := by
  unfold atTake takeHead; rw [present_eq, present_link]; rfl

@[simp] theorem atTake_upRx (kind : Byte) (q : Request) (s : State) :
    (atTake kind q s).link.upRx = s.link.upRx := by rw [atTake_link]
@[simp] theorem present_upRx (kind : Byte) (q : Request) (s : State) :
    (present kind q s).link.upRx = s.link.upRx := by rw [present_link]
@[simp] theorem atTake_downRx (kind : Byte) (q : Request) (s : State) :
    (atTake kind q s).link.downRx = s.link.downRx := by rw [atTake_link]
@[simp] theorem present_downRx (kind : Byte) (q : Request) (s : State) :
    (present kind q s).link.downRx = s.link.downRx := by rw [present_link]
@[simp] theorem atTake_upCounts (kind : Byte) (q : Request) (s : State) :
    (atTake kind q s).link.upCounts = s.link.upCounts := by rw [atTake_link]
@[simp] theorem present_upCounts (kind : Byte) (q : Request) (s : State) :
    (present kind q s).link.upCounts = s.link.upCounts := by rw [present_link]
@[simp] theorem atTake_downCounts (kind : Byte) (q : Request) (s : State) :
    (atTake kind q s).link.downCounts = s.link.downCounts := by rw [atTake_link]
@[simp] theorem present_downCounts (kind : Byte) (q : Request) (s : State) :
    (present kind q s).link.downCounts = s.link.downCounts := by rw [present_link]
@[simp] theorem atTake_partner (kind : Byte) (q : Request) (s : State) :
    (atTake kind q s).link.partner = s.link.partner := by rw [atTake_link]
@[simp] theorem present_partner (kind : Byte) (q : Request) (s : State) :
    (present kind q s).link.partner = s.link.partner := by rw [present_link]
@[simp] theorem atTake_address (kind : Byte) (q : Request) (s : State) :
    (atTake kind q s).link.address = s.link.address := by rw [atTake_link]
@[simp] theorem present_address (kind : Byte) (q : Request) (s : State) :
    (present kind q s).link.address = s.link.address := by rw [present_link]
@[simp] theorem atTake_subordinate (kind : Byte) (q : Request) (s : State) :
    (atTake kind q s).link.subordinate = s.link.subordinate := by rw [atTake_link]
@[simp] theorem present_subordinate (kind : Byte) (q : Request) (s : State) :
    (present kind q s).link.subordinate = s.link.subordinate := by rw [present_link]
@[simp] theorem atTake_passBuf (kind : Byte) (q : Request) (s : State) :
    (atTake kind q s).link.passBuf = s.link.passBuf := by rw [atTake_link]
@[simp] theorem present_passBuf (kind : Byte) (q : Request) (s : State) :
    (present kind q s).link.passBuf = s.link.passBuf := by rw [present_link]
@[simp] theorem atTake_lastServed (kind : Byte) (q : Request) (s : State) :
    (atTake kind q s).link.lastServed = s.link.lastServed := by rw [atTake_link]
@[simp] theorem present_lastServed (kind : Byte) (q : Request) (s : State) :
    (present kind q s).link.lastServed = s.link.lastServed := by rw [present_link]
@[simp] theorem atTake_hold (kind : Byte) (q : Request) (s : State) :
    (atTake kind q s).link.hold = s.link.hold := by rw [atTake_link]
@[simp] theorem present_hold (kind : Byte) (q : Request) (s : State) :
    (present kind q s).link.hold = s.link.hold := by rw [present_link]
@[simp] theorem atTake_upTx (kind : Byte) (q : Request) (s : State) :
    (atTake kind q s).link.upTx = s.link.upTx := by rw [atTake_link]
@[simp] theorem present_upTx (kind : Byte) (q : Request) (s : State) :
    (present kind q s).link.upTx = s.link.upTx := by rw [present_link]
@[simp] theorem atTake_downBusy (kind : Byte) (q : Request) (s : State) :
    (atTake kind q s).link.downBusy = s.link.downBusy := by rw [atTake_link]
@[simp] theorem present_downBusy (kind : Byte) (q : Request) (s : State) :
    (present kind q s).link.downBusy = s.link.downBusy := by rw [present_link]
@[simp] theorem atTake_inLinkReset (kind : Byte) (q : Request) (s : State) :
    (atTake kind q s).link.inLinkReset = s.link.inLinkReset := by rw [atTake_link]
@[simp] theorem present_inLinkReset (kind : Byte) (q : Request) (s : State) :
    (present kind q s).link.inLinkReset = s.link.inLinkReset := by rw [present_link]

/-- A message that the link has put at the head is not presented again. -/
theorem present_of_headIs {kind : Byte} {q : Request} {s : State} (h : headIs kind q s = true) : present kind q s = s := by
  simp [present, arrivesNow, h]

/-- A message that the link has put at the head is not charged to misroute. -/
theorem untaken_of_headIs {kind : Byte} {q : Request} {s : State} (h : headIs kind q s = true) : untaken kind q s = s := by
  simp [untaken, arrivesNow, h, present_of_headIs h]

/-- A request that is not taken is presented, or charged to misroute. -/
theorem untaken_cases (kind : Byte) (q : Request) (s : State) :
    untaken kind q s = present kind q s
      ∨ untaken kind q s = charge .up .misroute s ∧ q.broadcast = false ∧ s.link.address = 0 ∧ upGoOut s = true := by
  unfold untaken
  split
  · rename_i h
    simp only [arrivesNow, routesNowhere, Bool.and_eq_true, Bool.not_eq_true', beq_iff_eq] at h
    exact .inr ⟨rfl, h.2.1, h.2.2, h.1.1.2⟩
  · exact .inl rfl

/-! ## Reading the state at a take -/

@[simp] theorem depth_withLink (s : State) (x : Link) : depth (s.withLink x) = depth s := rfl
@[simp] theorem depth_present (kind : Byte) (q : Request) (s : State) : depth (present kind q s) = depth s := by
  simp [depth]
@[simp] theorem depth_atTake (kind : Byte) (q : Request) (s : State) : depth (atTake kind q s) = depth s := by
  simp [depth]
@[simp] theorem cellEntry_atTake (kind : Byte) (q : Request) (s : State) (r l : Nat) :
    cellEntry (atTake kind q s) r l = cellEntry s r l := by simp [cellEntry]
@[simp] theorem laneNow_atTake (kind : Byte) (q : Request) (s : State) (l : Nat) :
    laneNow (atTake kind q s) l = laneNow s l := by simp [laneNow]
@[simp] theorem rowNow_atTake (kind : Byte) (q : Request) (s : State) (r : Nat) :
    rowNow (atTake kind q s) r = rowNow s r := by simp [rowNow]
@[simp] theorem slotNow_atTake (kind : Byte) (q : Request) (s : State) (k : Nat) :
    slotNow (atTake kind q s) k = slotNow s k := by simp [slotNow]

/-! ## A request row -/

/-- A request that may not be taken stands in its buffer, or is charged to misroute. -/
theorem request_held {kind : Byte} {q : Request} {s : State} (owner : Bool → State → State)
    (h : taken kind q s = false) : request kind q owner s = .next (untaken kind q s) := by
  simp [request, h]

/-- A request that is taken is judged in the state at its take. -/
theorem request_taken {kind : Byte} {q : Request} {s : State} (owner : Bool → State → State)
    (h : taken kind q s = true) :
    request kind q owner s
      = .next (judge kind q (headDown (present kind q s)) (owner (headDown (present kind q s))) (atTake kind q s)) := by
  simp [request, h]

/-- A request that is dispatched has the effect its owner gives it, on the state at its take (R164). -/
theorem request_dispatched {kind : Byte} {q : Request} {s : State} (owner : Bool → State → State)
    (h : Dispatched kind q s) :
    request kind q owner s = .next (owner (headDown (present kind q s)) (atTake kind q s)) := by
  obtain ⟨ht, hl, hb⟩ := h
  rw [request_taken owner ht]
  have hb' : (q.broadcast && !acceptsBroadcast kind) = false := by
    cases hq : q.broadcast
    · rfl
    · simp [hb hq]
  simp [judge, hb', hl]

/-- A REPAIR row reaches the Repair Engine with its own operation (R123). -/
theorem repairRow_dispatched {op : Nat} {q : Request} {s : State} (owner : State → State) (h : RepairDispatched op q s) :
    repairRow op q owner s = .next (owner (atTake kRepair q s)) := by
  obtain ⟨hd, hop⟩ := h
  have hn : namesAnother op q = false := by simp [namesAnother, hop]
  simp only [repairRow, hn, Bool.false_eq_true, if_false]
  rw [request_dispatched _ hd]
  simp [hop]

/-- A request is dispatched when these three hold, as one Boolean to evaluate. -/
theorem dispatched_iff (kind : Byte) (q : Request) (s : State) :
    Dispatched kind q s
      ↔ (taken kind q s && lengthFits kind q.payload.length && (!q.broadcast || acceptsBroadcast kind)) = true := by
  unfold Dispatched
  cases q.broadcast <;> simp [and_assoc]

/-- An addressed request is all that a REPAIR can be (R152, R164). -/
theorem RepairDispatched.addressed {op : Nat} {q : Request} {s : State} (h : RepairDispatched op q s) :
    q.broadcast = false := by
  cases hq : q.broadcast
  · rfl
  · have := h.1.2.2 hq
    simp [acceptsBroadcast] at this

end Sys2Proof.Machine
end

