-- ==== Sys2Proof/Laws/Sense.lean ====
section
/-! SUPPORT. Laws/Sense.lean: what grants and claims, the Scan Driver's events, window openings and the deferred replies
leave as they are. -/

namespace Sys2Proof.Machine

/-- Nothing changes but the Scan Driver and, in the Sense Unit, the test in flight with what a grant and the end of a window
move. -/
structure GrantFrame (s t : State) : Prop where
  straps       : t.straps = s.straps
  link         : t.link = s.link
  unit         : t.unit = s.unit
  ctl          : t.ctl = s.ctl
  store        : t.store = s.store
  comp         : t.comp = s.comp
  track        : t.track = s.track
  corr         : t.corr = s.corr
  repair       : t.repair = s.repair
  freeUsed     : t.freeUsed = s.freeUsed
  pending      : t.pending = s.pending
  windowNumber : t.sense.windowNumber = s.sense.windowNumber
  budget       : t.sense.budget = s.sense.budget
  sample       : t.sense.sample = s.sense.sample
  sensorFault  : t.sense.sensorFault = s.sense.sensorFault
  spots        : t.sense.spots = s.sense.spots

theorem GrantFrame.refl (s : State) : GrantFrame s s := by constructor <;> rfl

theorem GrantFrame.trans {s t u : State} (h : GrantFrame s t) (k : GrantFrame t u) : GrantFrame s u := by
  obtain ⟨h1, h2, h3, h4, h5, h6, h7, h8, h9, h10, h11, h12, h13, h14, h15, h16⟩ := h
  obtain ⟨k1, k2, k3, k4, k5, k6, k7, k8, k9, k10, k11, k12, k13, k14, k15, k16⟩ := k
  exact ⟨k1.trans h1, k2.trans h2, k3.trans h3, k4.trans h4, k5.trans h5, k6.trans h6, k7.trans h7, k8.trans h8,
    k9.trans h9, k10.trans h10, k11.trans h11, k12.trans h12, k13.trans h13, k14.trans h14, k15.trans h15, k16.trans h16⟩

theorem GrantFrame.withScan (s : State) (x : ScanDriver) : GrantFrame s (s.withScan x) := by constructor <;> rfl
theorem GrantFrame.withTest (s : State) (x : Option TestRecord) :
    GrantFrame s (s.withSense { s.sense with test := x }) := by constructor <;> rfl
theorem GrantFrame.closeWindow (s : State) : GrantFrame s (closeWindow s) := by constructor <;> rfl
theorem GrantFrame.takeGrant (g : Grant) (s : State) : GrantFrame s (takeGrant g s) := by constructor <;> rfl
theorem GrantFrame.startPhase (s : State) : GrantFrame s (startPhase s) := .withScan _ _

/-! ## The Scan Driver and the claim (R10, R53) -/

theorem GrantFrame.releaseLines (s : State) : GrantFrame s (releaseLines s) := by
  unfold Machine.releaseLines
  split
  · exact .startPhase _
  · exact .withScan _ _
  · exact .refl _
  · exact .refl _

theorem GrantFrame.driveRises (s : State) : GrantFrame s (driveRises s) := by
  unfold Machine.driveRises
  split
  · exact (GrantFrame.withScan _ _).trans (.startPhase _)
  · exact .withScan _ _
  · exact .refl _
  · exact .refl _

theorem GrantFrame.connect (t : TestRecord) (d : TestDriver) (s : State) : GrantFrame s (connect t d s) :=
  (GrantFrame.withTest s _).trans (.withScan _ _)

theorem GrantFrame.takeClaim (t : TestRecord) (st : ScanState) (s : State) : GrantFrame s (takeClaim t st s).1 := by
  unfold Machine.takeClaim
  dsimp only
  split
  · exact (GrantFrame.withScan _ _).trans (.connect _ _ _)
  · exact ((GrantFrame.withScan _ _).trans (.withTest _ _)).trans (.releaseLines _)

theorem GrantFrame.grantDecision (n : Nat) : ∀ s : State, GrantFrame s (grantDecision n s) := by
  induction n with
  | zero => exact .refl
  | succ n ih =>
    intro s
    unfold Machine.grantDecision
    split
    · split
      · exact .closeWindow _
      · rename_i g _
        dsimp only
        have h := (GrantFrame.takeGrant g s).trans (.takeClaim (formTest s g) .lent (Machine.takeGrant g s))
        split
        · split
          · rename_i heq
            rw [heq] at h
            exact h.trans (ih _)
          · rename_i heq
            rw [heq] at h
            exact h
        · exact .takeGrant _ _
    · exact .refl _

/-- A grant decision and what follows from it (R52). -/
theorem GrantFrame.decideGrant (s : State) : GrantFrame s (decideGrant s) := .grantDecision _ _

theorem GrantFrame.claimAtPhaseEnd (st : ScanState) (s : State) : GrantFrame s (claimAtPhaseEnd st s) := by
  unfold Machine.claimAtPhaseEnd
  split
  · exact .refl _
  · rename_i t _
    have h := GrantFrame.takeClaim t st s
    split
    · rename_i heq
      rw [heq] at h
      exact h.trans (.decideGrant _)
    · rename_i heq
      rw [heq] at h
      exact h

theorem GrantFrame.driveFalls (s : State) : GrantFrame s (driveFalls s) := by
  unfold Machine.driveFalls
  split
  · split
    · exact .claimAtPhaseEnd _ _
    · exact .withScan _ _
  · exact .withScan _ _
  · exact .refl _
  · exact .refl _

theorem GrantFrame.scanComposed (s : State) : GrantFrame s (scanComposed s) := by
  unfold Machine.scanComposed
  dsimp only
  split
  · split
    · exact (GrantFrame.withScan _ _).trans (.claimAtPhaseEnd _ _)
    · exact (GrantFrame.withScan _ _).trans (.startPhase _)
  · exact .withScan _ _
  · exact .withScan _ _
  · exact .withScan _ _

/-! ## Deferred replies (R66, R127, R166) -/

/-- Nothing changes but the Local Reply Queue, the Spot Test Queue and the manual bind's record. -/
structure OfferFrame (s t : State) : Prop where
  straps       : t.straps = s.straps
  link         : t.link = s.link
  unit         : t.unit = { s.unit with replies := t.unit.replies }
  ctl          : t.ctl = s.ctl
  store        : t.store = s.store
  comp         : t.comp = s.comp
  scan         : t.scan = s.scan
  sense        : t.sense = { s.sense with spots := t.sense.spots }
  track        : t.track = s.track
  corr         : t.corr = s.corr
  repair       : t.repair = { s.repair with bind := t.repair.bind }
  freeUsed     : t.freeUsed = s.freeUsed
  pending      : t.pending = s.pending

theorem OfferFrame.refl (s : State) : OfferFrame s s := by constructor <;> rfl

theorem OfferFrame.trans {s t u : State} (h : OfferFrame s t) (k : OfferFrame t u) : OfferFrame s u := by
  obtain ⟨h1, h2, h3, h4, h5, h6, h7, h8, h9, h10, h11, h12, h13⟩ := h
  obtain ⟨k1, k2, k3, k4, k5, k6, k7, k8, k9, k10, k11, k12, k13⟩ := k
  refine ⟨k1.trans h1, k2.trans h2, ?_, k4.trans h4, k5.trans h5, k6.trans h6, k7.trans h7, ?_, k9.trans h9,
    k10.trans h10, ?_, k12.trans h12, k13.trans h13⟩
  · rw [k3, h3]
  · rw [k8, h8]
  · rw [k11, h11]

theorem OfferFrame.enterSpot (s : State) : OfferFrame s (enterSpot s) := by
  unfold Machine.enterSpot
  repeat' split
  all_goals first
    | exact .refl _
    | (constructor <;> rfl)

theorem OfferFrame.enterSpots (s : State) : OfferFrame s (enterSpots s) := by
  have h : ∀ (xs : List Nat) (t : State), OfferFrame t (xs.foldl (fun t _ => Machine.enterSpot t) t) := by
    intro xs
    induction xs with
    | nil => exact .refl
    | cons a xs ih => exact fun t => (OfferFrame.enterSpot t).trans (ih _)
  exact h _ _

theorem OfferFrame.enterBind (s : State) : OfferFrame s (enterBind s) := by
  unfold Machine.enterBind
  repeat' split
  all_goals first
    | exact .refl _
    | (constructor <;> rfl)

/-- The deferred replies offered (R166). -/
theorem OfferFrame.offerReplies (s : State) : OfferFrame s (offerReplies s) :=
  (OfferFrame.enterSpots s).trans (.enterBind _)

end Sys2Proof.Machine
end

