-- ==== Sys2Proof/Laws/Effects.lean ====
section
/-! SUPPORT. Laws/Effects.lean: what the shared operations of the fault path and of the deferred replies make of the state,
in the words of the statements: a record added, a decision left unrecorded, slots blamed or freed, an isolation, a bind at GOOD, and a spot reply. -/

namespace Sys2Proof.Machine

/-- An event of a notice kind sets that kind's flag where the mask enables it, and never clears it (R176). -/
theorem raise_or (k : NoticeKind) (s : State) :
    raise k s = s.withUnit { s.unit with
      notices := s.unit.notices.set k (s.unit.notices.get k || s.unit.params.noticeMask.get k) } := by
  rw [raise_eq]
  cases h : s.unit.params.noticeMask.get k <;> cases k <;> simp [NoticeFlags.get, NoticeFlags.set]

/-- A record added is counted and noticed (R135). -/
theorem countDefect_eq (s : State) : countDefect s = s.withUnit (unitNoted s) := by
  rw [countDefect, raise_or]; rfl

/-- All that the record of a decision does: it replaces its target's and is counted and noticed (R115, R131, R135). -/
theorem decisionRecord_eq (t : Target) (k : DefectKind) (a : DefectAction) (slot : Option Nat) (verifyFailed hotSeen : Bool)
    (s : State) :
    decisionRecord t k a slot verifyFailed hotSeen s
      = (s.withRepair { s.repair with
          defects := listWith s (record s t k a slot verifyFailed hotSeen .sensed)
          seqCounter := (s.repair.seqCounter + 1) % 65536 }).withUnit (unitNoted s) := by
  simp only [decisionRecord, countDefect_eq]; rfl

/-- A decision left unrecorded counts one and sets LIST_FULL (R115). -/
theorem leaveUnrecorded_eq (s : State) :
    leaveUnrecorded s
      = (s.withRepair { s.repair with unrecorded := min (s.repair.unrecorded + 1) 65535 }).withUnit (unitFull s) := by
  rw [leaveUnrecorded, raise_or]; rfl

/-- Slots blamed: those of the list that are FREE turn FAILED, with LANE_EVENT when there is one (R113, R118). -/
theorem blame_eq (ks : List Nat) (s : State) :
    blame ks s
      = (s.withRepair { s.repair with
          slots := s.repair.slots.mapIdx fun k x => if blamed ks k x then .failed else x }).withUnit
          { s.unit with notices := { s.unit.notices with
              laneEvent := s.unit.notices.laneEvent
                || (ks.any (fun k => blamed ks k (slotNow s k)) && s.unit.params.noticeMask.laneEvent) } } := by
  simp only [blame]
  split
  · rename_i h; rw [raise_or, h]; rfl
  · rename_i h; rw [Bool.eq_false_iff.mpr h]; simp; rfl

/-- All that an isolation outside STANDBY does (R115, R117): it is left unrecorded and ends the check, or its record and its
entry are made together, or it waits with nothing made. -/
theorem isolate_eq (l : Nat) (hot : Bool) {s : State} (h : s.ctl.mode ≠ .standby) :
    isolate l hot s =
      if recordRoom s (.lane l) then
        if changeRoom 1 s then
          (s.withRepair { s.repair with
            defects := listWith s (record s (.lane l) .laneDead .laneDark none false hot .sensed)
            seqCounter := (s.repair.seqCounter + 1) % 65536
            changes := s.repair.changes ++ [.lane l .dark .failed]
            heldLane := some ⟨true, false⟩ }).withUnit (unitNoted s)
        else s.withRepair { s.repair with heldLane := some ⟨false, true⟩ }
      else endCheck (leaveUnrecorded s) := by
  cases hr : recordRoom s (.lane l) <;> cases hc : changeRoom 1 s <;> simp [isolate, decisionRecord_eq, addChanges, h, hr, hc]
  rfl

/-- All that a bind does at GOOD: with no place for its record it ends with FULL and its slot FREE, whatever room the
changes have (R127, R135); with a place it completes, or waits for that room. -/
theorem bindDone_good (b : Bind) (t : Nat) (s : State) :
    bindDone b .good t s =
      if recordRoom s (.lane b.lane) then
        if changeRoom 1 s then completeBind b t (s.store.frameCount % 65536) s.sense.sample s
        else s.withRepair { s.repair with
          bind := some { b with stage := .waitsForRoom t (s.store.frameCount % 65536) s.sense.sample } }
      else endBind b (replyTo kRepair b.src b.tag .full []) (setSlot b.slot .free s) := by
  cases hr : recordRoom s (.lane b.lane) <;> cases hc : changeRoom 1 s <;> simp [bindDone, completeBind, hr, hc]

/-- The reply of an entry whose result is in, or that was aborted (R66, R67). -/
theorem spotReply_due {e : SpotEntry} (h : e.status ≠ .waiting) : spotReply e = some (dueReply e) := by
  unfold spotReply dueReply
  cases hs : e.status with
  | waiting => exact absurd hs h
  | done r t hot x =>
    cases r <;> cases x <;> cases hot <;> cases hd : e.die.die <;>
      simp [replyTo, dieBytes, dieByte, byteOf, statusByte, kTest, withReplyMarker, resultByte, effectByte, flagByte, hd]
  | aborted =>
    cases hd : e.die.die <;> simp [replyTo, dieBytes, dieByte, byteOf, statusByte, kTest, withReplyMarker, hd]

/-- The head entry of the Spot Test Queue leaves with its reply as soon as a place is free (R66). -/
theorem enterSpot_cons {s : State} {e : SpotEntry} {rest : List SpotEntry} (h : s.sense.spots = e :: rest)
    (he : e.status ≠ .waiting) :
    enterSpot s = if s.unit.replies.length < 8 then
        (s.withSense { s.sense with spots := rest }).replying (dueReply e) else s := by
  simp [enterSpot, h, spotReply_due he, replyRoom, Config.replyPlaces, pushReply, State.replying]

/-- An empty queue, or one with a WAITING entry at its head, gives no reply (R66). -/
theorem enterSpot_waits {s : State} (h : ∀ e, s.sense.spots.head? = some e → e.status = .waiting) : enterSpot s = s := by
  unfold enterSpot
  cases hs : s.sense.spots with
  | nil => rfl
  | cons e rest =>
    have : e.status = .waiting := h e (by rw [hs]; rfl)
    simp [spotReply, this]

end Sys2Proof.Machine
end

