-- ==== Sys2Proof/Laws/Formats.lean ====
section
/-! SUPPORT. Laws/Formats.lean: reading back the numbers that the part writes into its records and replies (R179). -/

namespace Sys2Proof.Machine

/-- One byte of a number is the number mod 256. -/
@[simp] theorem byteOf_toNat (n : Nat) : (byteOf n).toNat = n % 256 := by simp [byteOf]

/-- A number written as two bytes, the lower first, reads back mod 65536 wherever it stands. -/
theorem le16At_le16 (before : List Byte) (n : Nat) (after : List Byte) :
    le16At (before ++ le16 n ++ after) before.length = n % 65536 := by
  simp [le16At, byteAt, le16]
  omega

/-- A signed number of 16 bits reads back from its two bytes. -/
theorem signed16_emod (x : Int) (h1 : -32768 ≤ x) (h2 : x < 32768) : signed16 (x % 65536).toNat = x := by
  simp only [signed16]; split <;> omega

end Sys2Proof.Machine
end

