-- ==== Sys2Proof/WellFormed.lean ====
section
/-! DEFINITION. WellFormed.lean: the commands the part can meet: payloads of at most 512 bytes (R145, 11.1), and a kind
that fits its row (R164). -/

namespace Sys2Proof

/-- A payload that a valid header can declare (R145). -/
def payloadFits (p : List Byte) : Bool := decide (p.length ≤ 512)

/-- The request has a payload that a valid header can declare. -/
def Request.wf (q : Request) : Bool := payloadFits q.payload

/-- A kind of no request and without the reply marker, for KIND_REFUSAL (R164). -/
def refusedKind (kind : Byte) : Bool := !Machine.isRequestKind kind && !Machine.hasReplyMarker kind

/-- The command is well formed. -/
def Instr.wf (i : Instr) : Bool :=
  match i with
  | .powerOnReset _ _ => true
  | .linkReset _ _ => true
  | .linkResetRelease => true
  | .startByteReceived _ => true
  | .headerComplete _ _ _ => true
  | .messageReceived _ payload _ _ => payloadFits payload
  | .gapTimeout _ received => payloadFits received
  | .downGoAsserted => true
  | .upTransmitStart _ => true
  | .upTransmitEnd _ => true
  | .downTransmitStart _ => true
  | .downTransmitEnd => true
  | .enum q => q.wf
  | .ident q => q.wf
  | .status q => q.wf
  | .setParam q => q.wf
  | .getParam q => q.wf
  | .loadGain q => q.wf
  | .readGain q => q.wf
  | .row q => q.wf
  | .frame q _ => q.wf
  | .mode q => q.wf
  | .frameTimerExpiry => true
  | .holdTimerExpiry => true
  | .blankWindowTimerExpiry _ => true
  | .rowPhaseEnd => true
  | .testCompletion _ => true
  | .descriptorTake => true
  | .waitingDecisionTaken => true
  | .isolationEntryAdded => true
  | .laneHoldRelease => true
  | .bindWaitComplete => true
  | .deferredReplyEnter _ => true
  | .test q => q.wf
  | .selectA q => q.wf
  | .selectB q => q.wf
  | .conceal q => q.wf
  | .forceOff q => q.wf
  | .releaseCell q => q.wf
  | .releaseDie q => q.wf
  | .releaseRow q => q.wf
  | .bind q => q.wf
  | .unbindLane q => q.wf
  | .unbindSlot q => q.wf
  | .readDefects q => q.wf
  | .loadDefects q => q.wf
  | .clearDefects q => q.wf
  | .readSuspects q => q.wf
  | .readSpares q => q.wf
  | .readMap q => q.wf
  | .clearCounts q => q.wf
  | .reset q _ => q.wf
  | .chainReset q => q.wf
  | .chainResetHoldStart => true
  | .chainResetHoldEnd => true
  | .kindRefusal kind q => q.wf && refusedKind kind
  | .replyMarkedDrop kind q => q.wf && Machine.hasReplyMarker kind

end Sys2Proof
end

