-- ==== Sys2Proof/Tests/Slice0.lean ====
section
/-! SUPPORT. Tests/Slice0.lean: ill-formed commands that WellFormed refuses, worked examples of the manual, and for every
statement that has hypotheses a concrete state and operands that meet them, clause by clause. -/

namespace Sys2Proof.Tests

open Sys2Proof.Machine

-- One theorem at a time: elaborated at once, the evaluations below wait on each other and each holds a thread.
set_option Elab.async false

/-! ## WellFormed refuses -/

/-- A payload one byte longer than a header can declare. -/
def longPayload : List Byte := List.replicate 513 0

theorem test_wf_request_payload : (Instr.ident ⟨false, 1, 7, longPayload⟩).wf = false := by decide +kernel
theorem test_wf_message_payload : (Instr.messageReceived .up longPayload 0 0x5A).wf = false := by decide +kernel
theorem test_wf_gap_bytes : (Instr.gapTimeout .up longPayload).wf = false := by decide +kernel
theorem test_wf_refused_request_kind : (Instr.kindRefusal 0x15 ⟨false, 1, 7, []⟩).wf = false := by decide
theorem test_wf_refused_marked_kind : (Instr.kindRefusal 0x96 ⟨false, 1, 7, []⟩).wf = false := by decide
theorem test_wf_drop_unmarked_kind : (Instr.replyMarkedDrop 0x16 ⟨false, 1, 7, []⟩).wf = false := by decide
theorem test_wf_accepts : (Instr.kindRefusal 0x16 ⟨false, 1, 7, []⟩).wf = true := by decide

/-! ## Values the manual works out -/

/-- 3.5 and 1.9: cell (5, 33) of the worked cases, e = 3500, g = 1180, b = 200, four segments. -/
theorem test_stages_3166 : scaledCode (gainedCode 3500 1180) 200 = 3166 := by decide
theorem test_segments_3166 : (List.range 4).map (segmentPulse 3166 4) = [792, 792, 791, 791] := by decide

/-- 3.5: cell (4, 30), e = 1300, g = 900; and cell (5, 27), e = 1529, g = 1024, where the gain stage rounds. -/
theorem test_stages_897 : scaledCode (gainedCode 1300 900) 200 = 897 := by decide
theorem test_stages_1200 : scaledCode (gainedCode 1529 1024) 200 = 1200 := by decide

/-- 3.5: coefficient index of die A of cell (5, 27). -/
theorem test_coeffIndex : coeffIndex 5 27 .a = 1494 := by decide

/-- 11.3: lanes 0 and 1 holding 0x123 and 0xABC. -/
theorem test_row_codes : unpackCodes [0x23, 0xC1, 0xAB] = [0x123, 0xABC] := by decide

/-- 11.4: a CONCEALED cell with die A OPEN and die B SHORT. -/
theorem test_cell_byte : cellByte ⟨.concealed, .openDie, .shortDie⟩ = 106 := by decide

/-- 5.7: record S at window 2013: hits 1 and the fourth flip confirm INTERMITTENT. -/
theorem test_flips_confirm :
    confirmsAs .default ((⟨⟨6, 52, .a⟩, .openDie, 0, 1, 3, 0, none, none⟩ : Suspect).failed .openDie 2013)
      = some .intermittent := by decide

/-- 2.5: FRAME 11 with no rows before it counts as incomplete, and no frame number was skipped after 10. -/
theorem test_frame_incomplete :
    (({ FrameStore.fresh 8 with frameCount := 1, lastNumber := 10, frameSeen := true }).arrival 11).incomplete = 1
      ∧ (({ FrameStore.fresh 8 with frameCount := 1, lastNumber := 10, frameSeen := true }).arrival 11).skipped = 0 := by
  decide +kernel

/-- R32: a number that lies behind the expected one wraps: 9 after 10 skips 65534. -/
theorem test_frame_skipped :
    skippedBy { FrameStore.fresh 8 with lastNumber := 10, frameSeen := true } 9 = 65534 := by decide +kernel

/-- R144: the check value of a CRC with this polynomial and initial value, over the nine digits. -/
theorem test_crc : crcOf [0x31, 0x32, 0x33, 0x34, 0x35, 0x36, 0x37, 0x38, 0x39] = 0x29B1 := by decide +kernel

/-! ## States the witnesses use -/

/-- The part after reset, once enumeration has made it tile 5, the last of its chain. -/
def fresh : State := State.reset.withLink { State.reset.link with address := 5, subordinate := 5 }

/-- A request with source 1 and tag 7, addressed or broadcast. -/
def rq (p : List Byte) : Request := ⟨false, 1, 7, p⟩
def bq (p : List Byte) : Request := ⟨true, 1, 7, p⟩

/-- The part in RUN with a video state, its timers as that state has them. -/
def running (v : VideoState) : State :=
  fresh.withCtl ⟨.run, v, some 40, if v = .holding then some 1000 else none, none, .power⟩

/-- The part in BLANK. -/
def blanking : State := fresh.withCtl ⟨.blank, .dark, none, none, some 10, .power⟩

/-- A state with the Repair Engine, the Tracker or the Link changed. -/
def repaired (f : Repair → Repair) (s : State) : State := s.withRepair (f s.repair)
def linked (f : Link → Link) (s : State) : State := s.withLink (f s.link)

/-- A record of a target, as LOAD_DEFECTS might have left it. -/
def recordFor (t : Target) (k : DefectKind) (a : DefectAction) (n : Nat) : Defect :=
  ⟨n, t, k, a, none, false, false, .sensed, 0, 25⟩

/-- The part after reset with one record in its list. -/
def listedOne (x : Defect) : State := repaired (fun r => { r with defects := [x] }) fresh

/-- 8.7: LANE (58), SPARE_BOUND, slot 4, HOT_SEEN. -/
def lane58Bytes : List Byte := [52, 0, 1, 0, 58, 0, 3, 3, 4, 2, 65, 156, 84, 0]

/-- A check of die (3, 58, A) in PROBING with no probe. -/
def checkOn58 : Check := ⟨⟨3, 58, .a⟩, 3, 0, 40000, true, [], none⟩

/-- A walk test of die (6, 50, B), its claim waiting. -/
def walkTest : TestRecord := ⟨.walk, ⟨6, 50, .b⟩, 2, 90, false, 0, none⟩

/-- The header of an addressed STATUS. -/
def statusTo (dst : Byte) : Header := ⟨dst, 0, 0x03, 7, 0⟩

/-- A request that is dispatched, by evaluation. -/
theorem dispatched {kind : Byte} {q : Request} {s : State}
    (h : (taken kind q s && lengthFits kind q.payload.length && (!q.broadcast || acceptsBroadcast kind)) = true) :
    Dispatched kind q s := (dispatched_iff kind q s).mpr h

/-! ## Witnesses: queue and take -/

theorem witness_StepRunsTheFrontCommand :
    (fresh.withPending [.downGoAsserted]).pending = .downGoAsserted :: [] ∧ fresh.pending = [] := ⟨rfl, rfl⟩

theorem witness_EveryCommandCompletes : ∃ t, exec .downGoAsserted fresh = .next t := ⟨_, rfl⟩

/-- An addressed STATUS at the head, taken; the same with a RESET reply waiting, held; and one that arrives, at a tile with no
address and at one with an address. -/
def headStatus : State := linked (fun x => { x with upBuf := [.ready ⟨0, 1, 0x03, 7, []⟩ false, .receiving] }) fresh
theorem witness_TheTakeRemovesTheHeadMessage :
    (headStatus.link.upBuf = .ready ⟨0, 1, 0x03, 7, []⟩ false :: [.receiving] ∧ isRequest 0x03 (rq []) ⟨0, 1, 0x03, 7, []⟩ = true
      ∧ takeable 0x03 (rq []) false headStatus = true)
    ∧ takeable 0x03 (rq []) false (headStatus.withUnit { headStatus.unit with resetWaiting := true }) = false
    ∧ (∀ s : State, s = State.reset ∨ s = fresh →
      s.link.upBuf = [] ∧ s.link.downBuf.length < 2 ∧ s.link.inLinkReset = false ∧ s.link.upRx = .hunt)
    ∧ State.reset.link.address = 0 ∧ fresh.link.address = 5 := by
  refine ⟨by decide +kernel, by decide +kernel, ?_, rfl, rfl⟩
  rintro s (rfl | rfl) <;> exact ⟨rfl, by decide, rfl, rfl⟩

/-- A broadcast IDENT that the link has let into the buffer. -/
def headBroadcast : State := linked (fun x => { x with upBuf := [.ready ⟨255, 1, 0x02, 7, []⟩ false] }) fresh
theorem witness_UndispatchedMessages :
    (taken 0x03 (rq [0]) fresh = true ∧ lengthFits 0x03 (rq [0]).payload.length = false)
    ∧ (taken 0x09 (bq [0]) fresh = true ∧ lengthFits 0x09 (bq [0]).payload.length = false)
    ∧ (taken 0x02 (bq []) headBroadcast = true ∧ acceptsBroadcast 0x02 = false)
    ∧ (taken 0x16 (rq []) fresh = true ∧ isRequestKind 0x16 = false ∧ hasReplyMarker 0x16 = false)
    ∧ (taken 0x80 (rq []) fresh = true ∧ hasReplyMarker 0x80 = true) := by
  decide +kernel

/-! ## Witnesses: resets -/

/-- The tile in a link reset, after its signalling has begun. -/
def inReset : State := linked (fun x => { x with inLinkReset := true }) fresh
theorem witness_LinkResetEndsAndGoSetsThePartner :
    (inReset.link.inLinkReset = true ∧ inReset.link.upBuf = [] ∧ inReset.link.downBuf = [] ∧ inReset.link.passBuf = []
      ∧ holding inReset = false) ∧ fresh.link.inLinkReset = false := ⟨⟨rfl, rfl, rfl, rfl, rfl⟩, rfl⟩
/-- R50: a reading of 130 at the end of the link reset is sampled as 125, with a sensor fault. -/
theorem test_release_samples :
    (linkResetEnd (linked (fun x => { x with releaseReading := 130 }) inReset)).sense.sample = 125
      ∧ (linkResetEnd (linked (fun x => { x with releaseReading := 130 }) inReset)).sense.sensorFault = true := by decide

/-- The reply of an addressed RESET on its way up. -/
def sendingReset : State := linked (fun x => { x with upTx := .own (formed ⟨1, 0, 0x94, 7, [0]⟩) true }) fresh
theorem witness_ResetRequestAndSoftReset :
    Dispatched 0x14 (rq []) fresh ∧ Dispatched 0x14 (bq []) fresh ∧ (∃ w, sendingReset.link.upTx = .own w true)
      ∧ fresh.repair.changes = [] :=
  ⟨dispatched (by decide +kernel), dispatched (by decide +kernel), ⟨_, rfl⟩, rfl⟩

theorem witness_MessageUnitAfterEachReset :
    (∃ w, sendingReset.link.upTx = .own w true) ∧ Dispatched 0x14 (bq []) fresh ∧ (bq []).broadcast = true :=
  ⟨⟨_, rfl⟩, dispatched (by decide +kernel), rfl⟩

/-! ## Witnesses: link ports and Router -/

def upFull : State := linked (fun x => { x with upBuf := [.receiving, .receiving] }) fresh
def passFull : State := linked (fun x => { x with passBuf := List.replicate 4 .receiving }) fresh
theorem witness_StartByteBeginsAMessageOrOverruns :
    (fresh.link.inLinkReset = false ∧ fresh.link.upRx = .hunt ∧ fresh.link.upBuf.length < 2 ∧ fresh.link.downBuf.length < 2)
    ∧ (upFull.link.upRx = .hunt ∧ ¬ (upFull.link.upBuf.length < 2 ∧ upFull.link.downBuf.length < 2))
    ∧ (fresh.link.downRx = .hunt ∧ holding fresh = false ∧ fresh.link.passBuf.length < 4)
    ∧ (passFull.link.downRx = .hunt ∧ holding passFull = false ∧ ¬ passFull.link.passBuf.length < 4) := by
  decide +kernel

/-- Tile 2 of a chain that ends at 4, with its receivers in given states and a place taken in each buffer. -/
def receiving (up down : RxState) : State :=
  linked (fun x => { x with
    upRx := up, downRx := down, upBuf := [.receiving], passBuf := [.receiving], address := 2, subordinate := 4 }) fresh
def tile2 : State := receiving .header .header
theorem witness_HeadersAreCheckedAndRouted :
    (tile2.link.upRx = .header ∧ tile2.link.downRx = .header
      ∧ 512 < ({ statusTo 2 with len := 513 } : Header).len.toNat ∧ ({ statusTo 2 with len := 512 } : Header).len.toNat ≤ 512)
    ∧ (((statusTo 2).dst.toNat = tile2.link.address ∧ tile2.link.address ≠ 0)
      ∧ (tile2.link.address < (statusTo 3).dst.toNat ∧ (statusTo 4).dst.toNat ≤ tile2.link.subordinate)
      ∧ ((statusTo 5).dst.toNat ≠ tile2.link.address
        ∧ ¬ (tile2.link.address < (statusTo 5).dst.toNat ∧ (statusTo 5).dst.toNat ≤ tile2.link.subordinate))
      ∧ (statusTo 254).dst ≠ 255 ∧ (statusTo 255).dst = 255)
    ∧ (!tile2.link.downBusy && tile2.link.downBuf.isEmpty && (statusTo 3).kind != 0x01) = true
    ∧ ((receiving (.skip .overrun none) (.skip .softReset none)).link.upRx = .skip .overrun none
      ∧ (receiving (.skip .overrun none) (.skip .softReset none)).link.downRx = .skip .softReset none) := by
  decide +kernel

theorem witness_EndMarksAreClassified :
    (∀ h up down, (receiving up (.body h false .none)).link.upRx = up ∧ (receiving up down).link.downRx = down)
    ∧ ([] : List Byte).length = (statusTo 2).len.toNat
    ∧ ¬ ((0xA9 : Byte) = 0x5A ∧ (0 : Word16) = messageCrc (statusTo 2) [])
    ∧ ¬ ((0x5A : Byte) = 0x5A ∧ (0 : Word16) = messageCrc (statusTo 2) [])
    ∧ ([0, 4] : List Byte).length = (⟨0, 4, 0x81, 9, 2⟩ : Header).len.toNat :=
  ⟨fun _ _ _ => ⟨rfl, rfl⟩, by decide, by decide +kernel, by decide +kernel, by decide⟩

/-- Every state of a receiver is a case of the statement: the one named here is the state a port is in. -/
theorem witness_GapEndsTheMessage :
    (∀ h b f, (receiving (.body h b f) .header).link.upRx = .body h b f)
    ∧ (∀ why x, (receiving (.skip why x) (.skip why x)).link.upRx = .skip why x
      ∧ (receiving (.skip why x) (.skip why x)).link.downRx = .skip why x)
    ∧ (tile2.link.downRx = .header ∨ ∃ h b f, tile2.link.downRx = .body h b f) ∧ fresh.link.downRx = .hunt :=
  ⟨fun _ _ _ => rfl, fun _ _ => ⟨rfl, rfl⟩, .inl rfl, rfl⟩

/-- A reply waits, a notice waits, and a message from behind is ready. -/
def replyWaits : State := fresh.withUnit { fresh.unit with replies := [⟨1, 0x83, 7, [0], false⟩] }
def noticeWaits : State := fresh.withUnit { fresh.unit with notices := .all true }
def passWaits : State := linked (fun x => { x with passBuf := [.ready (formed ⟨0, 4, 0x83, 7, [0]⟩)] }) fresh
def bothWait (last : Served) : State :=
  linked (fun x => { x with passBuf := passWaits.link.passBuf, lastServed := last }) replyWaits
theorem witness_UpTransmitterServesInTurn :
    (fresh.link.upTx = .idle ∧ fresh.link.inLinkReset = false)
    ∧ (replyWaits.unit.replies = ⟨1, 0x83, 7, [0], false⟩ :: [] ∧ replyWaits.link.lastServed = .passThrough)
    ∧ (noticeWaits.unit.replies = [] ∧ noticeWaits.unit.notices.highest = some .wideFault ∧ passReady noticeWaits = none)
    ∧ (passReady passWaits = some (formed ⟨0, 4, 0x83, 7, [0]⟩) ∧ passWaits.unit.replies = []
      ∧ passWaits.unit.notices.highest = none)
    ∧ (∀ last, (bothWait last).link.upTx = .idle ∧ (bothWait last).link.inLinkReset = false
      ∧ (bothWait last).unit.replies = ⟨1, 0x83, 7, [0], false⟩ :: []
      ∧ passReady (bothWait last) = some (formed ⟨0, 4, 0x83, 7, [0]⟩) ∧ (bothWait last).link.lastServed = last)
    ∧ ((linked (fun x => { x with upTx := .own (formed ⟨1, 0, 0x83, 7, [0]⟩) false }) fresh).link.upTx
        = .own (formed ⟨1, 0, 0x83, 7, [0]⟩) false)
    ∧ ((linked (fun x => { x with upTx := .pass (formed ⟨0, 4, 0x83, 7, [0]⟩) }) passWaits).link.upTx
        = .pass (formed ⟨0, 4, 0x83, 7, [0]⟩)) :=
  ⟨by decide +kernel, by decide +kernel, by decide +kernel, by decide +kernel, fun l => by cases l <;> decide +kernel,
    by decide +kernel, by decide +kernel⟩

def downWaits (busy : Bool) : State :=
  linked (fun x => { x with downBuf := [.ready (formed ⟨3, 0, 0x03, 7, []⟩)], downBusy := busy }) fresh
/-- The copy of a broadcast RESET being sent, its RESET waiting; the same with a second copy behind it, the first RESET having
been discarded. -/
def resetWire : Wire := formed ⟨255, 1, 0x14, 7, []⟩
def resetWaits (copies : List FwdPlace) : State :=
  linked (fun x => { x with
    downBuf := .ready resetWire :: copies, downBusy := true, upBuf := [.receiving, .ready resetWire.msg true] }) fresh
theorem witness_DownTransmitterServesInOrder :
    (∀ busy, (downWaits busy).link.downBuf = .ready (formed ⟨3, 0, 0x03, 7, []⟩) :: [] ∧ (downWaits busy).link.downBusy = busy
      ∧ (downWaits busy).link.inLinkReset = false ∧ (downWaits busy).link.hold = .none)
    ∧ (∀ copies, (resetWaits copies).link.downBuf = .ready resetWire :: copies ∧ (resetWaits copies).link.downBusy = true
      ∧ (resetWaits copies).link.upBuf = [.receiving] ++ .ready resetWire.msg true :: [])
    ∧ (∀ waits : RxPlace → Bool, waits = (fun p => match p with
          | .ready m true => m.dst == 255 && m.kind == 0x14
          | _ => false) →
        (resetWaits []).link.upBuf.countP waits = 1 ∧ waits (.ready resetWire.msg true) = true
          ∧ ∀ p ∈ [RxPlace.receiving], waits p = false)
    ∧ ([FwdPlace.ready resetWire].countP fun p => match p with
        | .ready w => w.msg.dst == 255 && w.msg.kind == 0x14
        | _ => false) = 1 :=
  ⟨by decide +kernel, fun _ => ⟨rfl, rfl, rfl⟩, fun _ h => by subst h; decide +kernel, by decide +kernel⟩

def partnered : State := linked (fun x => { x with partner := true }) fresh
theorem witness_EnumAssignsAddresses :
    (Dispatched 0x01 (bq [254]) partnered ∧ (bq [254]).payload = [254] ∧ headDown (present 0x01 (bq [254]) partnered) = true)
    ∧ (Dispatched 0x01 (bq [1]) fresh ∧ headDown (present 0x01 (bq [1]) fresh) = false)
    ∧ (Dispatched 0x01 (bq [255]) partnered ∧ Dispatched 0x01 (bq [0]) fresh) ∧ Dispatched 0x01 (rq [5]) fresh :=
  ⟨⟨dispatched (by decide +kernel), rfl, by decide +kernel⟩, ⟨dispatched (by decide +kernel), by decide +kernel⟩,
    ⟨dispatched (by decide +kernel), dispatched (by decide +kernel)⟩, dispatched (by decide +kernel)⟩

def held (h : ChainHold) (busy : Bool) : State := linked (fun x => { x with hold := h, downBusy := busy }) fresh
theorem witness_ChainResetHoldsTheLineBelow :
    (Dispatched 0x15 (rq []) (held (.holding 1 7 2) false) ∧ (held (.holding 1 7 2) false).link.hold ≠ .none)
    ∧ (Dispatched 0x15 (rq []) (held .none true) ∧ (held .none true).link.downBusy = true)
    ∧ (Dispatched 0x15 (rq []) fresh ∧ fresh.link.hold = .none ∧ fresh.link.downBusy = false)
    ∧ ((held (.waiting 1 7) false).link.hold = .waiting 1 7 ∧ (held (.waiting 1 7) false).link.downBusy = false)
    ∧ ((held (.holding 1 7 2) false).unit.replies.length < 8) :=
  ⟨⟨dispatched (by decide +kernel), by decide +kernel⟩, ⟨dispatched (by decide +kernel), rfl⟩,
    ⟨dispatched (by decide +kernel), rfl, rfl⟩, ⟨rfl, rfl⟩, by decide +kernel⟩

/-- A spot test done, one aborted and one that waits, and a full Local Reply Queue. -/
def spotEntry : SpotEntry := ⟨1, 7, ⟨0, 0, .a⟩, .done .good 30 false .none⟩
def repliesFull (s : State) : State := s.withUnit { s.unit with replies := List.replicate 8 ⟨1, 0x83, 7, [0], false⟩ }
def abortedSpot : SpotEntry := ⟨1, 8, ⟨7, 143, .b⟩, .aborted⟩
def waitingSpot : SpotEntry := ⟨1, 7, ⟨7, 143, .b⟩, .waiting⟩
def spotting (xs : List SpotEntry) (s : State) : State := s.withSense { s.sense with spots := xs }
def bindOf (st : BindStage) : Machine.Bind := ⟨58, 4, ⟨0, 58, .a⟩, 1, 7, st⟩
theorem witness_DeferredRepliesEnter :
    fresh.unit.replies.length < 8 ∧ ¬ (repliesFull fresh).unit.replies.length < 8
    ∧ ((spotting [spotEntry, abortedSpot, waitingSpot, abortedSpot] fresh).sense.spots
        = [spotEntry, abortedSpot] ++ [waitingSpot, abortedSpot]
      ∧ (∀ e ∈ [spotEntry, abortedSpot], e.status ≠ .waiting)
      ∧ ([waitingSpot, abortedSpot].head?.map SpotEntry.status) = some .waiting)
    ∧ dueReply abortedSpot = ⟨1, 0x8B, 8, [11, 7, 143, 1, 0, 0, 0, 0], false⟩
    ∧ ((repaired (fun x => { x with bind := some (bindOf (.ended ⟨1, 0x8C, 7, [0], false⟩)) }) fresh).repair.bind
        = some (bindOf (.ended ⟨1, 0x8C, 7, [0], false⟩)))
    ∧ (held (.due ⟨1, 0x95, 7, [0], false⟩) false).link.hold = .due ⟨1, 0x95, 7, [0], false⟩ := by
  decide +kernel

/-! ## Witnesses: parameters and reads -/

theorem witness_InformationRequestsAreAnswered :
    Dispatched 0x13 (rq []) fresh ∧ Dispatched 0x13 (bq []) fresh ∧ Dispatched 0x02 (rq []) fresh
      ∧ Dispatched 0x03 (rq []) fresh :=
  ⟨dispatched (by decide +kernel), dispatched (by decide +kernel), dispatched (by decide +kernel),
    dispatched (by decide +kernel)⟩

/-- A WIDE record at the tail of the list, and a record of another kind. -/
theorem witness_NoticesAreRaisedAndCarryTheState :
    ((listedOne (recordFor (.die 0 0 .a) .wide .none 40)).repair.defects = [] ++ recordFor (.die 0 0 .a) .wide .none 40 :: []
      ∧ (recordFor (.die 0 0 .a) .wide .none 40).kind = .wide)
    ∧ (∀ x ∈ (listedOne (recordFor (.row 7) .rowDead .none 40)).repair.defects, x.kind ≠ .wide)
    ∧ fresh.repair.defects = [] :=
  ⟨⟨rfl, rfl⟩, by decide, rfl⟩

theorem witness_RecordsAreLaidOutAsTheFormatsSay :
    (RecordFits 8 { recordFor (.lane 143) .laneDead .spareBound 7 with slot := some 11, verifyFailed := true, hotSeen := true }
      ∧ RecordFits 16 { recordFor (.cell 15 143) .manual .forceOff 7 with temp := -40 })
    ∧ (recordFor (.lane 143) .laneDead .spareBound 7).frame < 65536
    ∧ (loadRecord fresh lane58Bytes).isSome = true
    ∧ ({ checkOn58 with probes := List.replicate 4 ⟨none, .pass⟩ } : Check).probes.length = 4 := by
  refine ⟨⟨?_, ?_⟩, by decide, by decide +kernel, by decide⟩ <;> simp [RecordFits, recordFor]

/-- Values at the ends of the ranges, and one past them; every id, and the two beyond the table. -/
theorem witness_SetParamStoresPairsInOrder :
    (∀ id : Fin 22, Dispatched 0x04 (rq [BitVec.ofNat 8 id.val, 0xFF, 0]) fresh) ∧ Dispatched 0x04 (bq [0x02, 8, 0]) fresh
    ∧ (min 59 254 < fresh.unit.params.openLimit.red ∧ fresh.unit.params.openLimit.red ≤ min 60 254)
    ∧ (fresh.unit.params.shortLimit.red < max 1 (min 3 255) ∧ max 1 (min 2 255) ≤ fresh.unit.params.shortLimit.red)
    ∧ (min 89 254 < fresh.unit.params.openLimit.green ∧ fresh.unit.params.openLimit.blue ≤ min 90 254)
    ∧ (fresh.unit.params.shortLimit.blue < max 1 (min 3 255) ∧ max 1 (min 2 255) ≤ fresh.unit.params.shortLimit.green)
    ∧ Dispatched 0x04 (rq [0x11, 1, 0]) fresh ∧ Dispatched 0x04 (rq [0x13, 2, 0, 0x01, 0, 1]) fresh
    ∧ setPair .default 0x15 0 = .refused ∧ setPair .default 0x01 256 = .stored { Params.default with brightness := 255 } true :=
  ⟨fun id => dispatched (by revert id; decide +kernel), dispatched (by decide +kernel), by decide, by decide, by decide,
    by decide, dispatched (by decide +kernel), dispatched (by decide +kernel), by decide, by decide⟩

theorem witness_GetParamReturnsStoredValues :
    Dispatched 0x05 (rq [0x01, 0x14]) fresh ∧ Dispatched 0x05 (rq [0x14, 0x15]) fresh
      ∧ (∀ i ∈ (rq [0x01, 0x14]).payload, 1 ≤ i.toNat ∧ i.toNat ≤ 0x14) ∧ 0x14 < (0x15 : Byte).toNat :=
  ⟨dispatched (by decide +kernel), dispatched (by decide +kernel), by decide, by decide⟩

/-- The last gain of the smallest tile is at index 2303. -/
theorem witness_GainsAreLoadedAndRead :
    (Dispatched 0x06 (rq [0xFF, 0x08, 0x00, 0x04]) fresh ∧ words16 [0x00, 0x04] = [1024]
      ∧ le16At [0xFF, 0x08] 0 + 1 ≤ 288 * depth fresh ∧ fresh.comp.gains.length = 288 * depth fresh)
    ∧ (Dispatched 0x06 (rq [0x00, 0x09, 0x00, 0x04]) fresh ∧ 288 * depth fresh < le16At [0x00, 0x09] 0 + 1)
    ∧ (Dispatched 0x07 (rq [0xFF, 0x08, 1]) fresh ∧ Dispatched 0x07 (rq [0, 0, 0]) fresh) :=
  ⟨⟨dispatched (by decide +kernel), by decide, by decide, List.length_replicate⟩,
    ⟨dispatched (by decide +kernel), by decide⟩, dispatched (by decide +kernel), dispatched (by decide +kernel)⟩

theorem witness_ListsAreReadInPages :
    (Dispatched 0x0D (rq [0, 32]) fresh ∧ Dispatched 0x0D (rq [0, 33]) fresh ∧ Dispatched 0x0D (rq [0, 0]) fresh)
    ∧ Dispatched 0x10 (rq [0, 0]) fresh ∧ Dispatched 0x10 (rq [1, 0]) fresh ∧ Dispatched 0x10 (rq [2, 0]) fresh :=
  ⟨⟨dispatched (by decide +kernel), dispatched (by decide +kernel), dispatched (by decide +kernel)⟩,
    dispatched (by decide +kernel), dispatched (by decide +kernel), dispatched (by decide +kernel)⟩

theorem witness_MapsAreRead :
    Dispatched 0x11 (rq []) fresh ∧ Dispatched 0x12 (rq [5, 3]) fresh ∧ Dispatched 0x12 (rq [6, 3]) fresh
      ∧ byteAt [5, 3] 0 + byteAt [5, 3] 1 ≤ depth fresh ∧ depth fresh < byteAt [6, 3] 0 + byteAt [6, 3] 1 :=
  ⟨dispatched (by decide +kernel), dispatched (by decide +kernel), dispatched (by decide +kernel), by decide, by decide⟩

/-! ## Witnesses: video -/

theorem witness_RowsAndFramesFillTheFrameStore :
    (Dispatched 0x08 (rq (7 :: List.replicate 216 0xFF)) fresh ∧ Dispatched 0x08 (rq (8 :: List.replicate 216 0xFF)) fresh)
    ∧ Dispatched 0x09 (bq [10, 0]) fresh ∧ fresh.ctl.mode ≠ .run ∧ fresh.store.lastNumber < 65536 :=
  ⟨⟨dispatched (by decide +kernel), dispatched (by decide +kernel)⟩, dispatched (by decide +kernel), by decide, by decide⟩

/-- DARK with every row of the fill buffer received. -/
def filled : State := (running .dark).withStore { fresh.store with rowFlags := List.replicate 8 true }
/-- A claim of the walk test waits while the scan runs; the same with lane 50 DARK. -/
def scanning : State := (running .holding).withScan { fresh.scan with state := .scanning, phase := some ⟨0, .normal, []⟩ }
def claiming (x : TestRecord) : State := scanning.withSense { fresh.sense with test := some x }
def darkLane : State := repaired (fun x => { x with lanes := x.lanes.set 50 .dark }) (claiming walkTest)
theorem connects_own {s : State} (h : laneNow s walkTest.die.lane = .normal) : ConnectsTo s walkTest .own := by
  unfold ConnectsTo
  rw [h]
  rfl
/-- The state that a FRAME leaves. -/
def framed (s : State) : State := match exec (.frame (bq [10, 0]) 25) s with | .next t => t | _ => s
theorem witness_FrameInRun_claim :
    (∀ s ∈ [claiming walkTest, darkLane], Dispatched 0x09 (bq [10, 0]) s ∧ s.ctl.mode = .run ∧ s.scan.state = .scanning
      ∧ s.sense.test = some walkTest ∧ walkTest.driver = none)
    ∧ laneNow (framed (claiming walkTest)) walkTest.die.lane = .normal ∧ ConnectsTo (framed (claiming walkTest)) walkTest .own
    ∧ Withdrawn (framed darkLane) walkTest ∧ darkLane.sense.windowOpen = false := by
  have h : laneNow (framed (claiming walkTest)) walkTest.die.lane = .normal := by decide +kernel
  refine ⟨fun s hs => ?_, h, ?_, ⟨by decide +kernel, .inl rfl⟩, rfl⟩
  · simp only [List.mem_cons, List.not_mem_nil, or_false] at hs
    rcases hs with rfl | rfl <;> exact ⟨dispatched (by decide +kernel), rfl, rfl, rfl, rfl⟩
  · exact connects_own h
theorem witness_FrameInRunIsAFrameBoundary :
    (Dispatched 0x09 (bq [10, 0]) filled ∧ filled.ctl.mode = .run ∧ filled.store.rowFlags.all id = true
      ∧ filled.ctl.video ≠ .live ∧ filled.unit.params.noticeMask.videoState = true
      ∧ filled.repair.waiting = none ∧ filled.repair.bind = none ∧ FaultPathQuiet filled)
    ∧ (filled.scan.state = .stopped ∧ filled.ctl.video = .dark ∧ claimWaiting filled = false)
    ∧ (∀ st, (filled.withScan { filled.scan with state := st }).scan.state = st) :=
  ⟨⟨dispatched (by decide +kernel), rfl, by decide, by decide, rfl, rfl, rfl, ⟨rfl, nofun, rfl⟩⟩,
    ⟨rfl, rfl, by decide +kernel⟩, fun _ => rfl⟩

/-- HOLDING with a test holding the lines. -/
def yielded : State := (running .holding).withScan { fresh.scan with state := .yielded }
theorem connects_claiming : ConnectsTo (claiming walkTest) walkTest .own := connects_own (by decide +kernel)
theorem withdrawn_darkLane : Withdrawn darkLane walkTest := ⟨by decide +kernel, .inl rfl⟩
theorem witness_TimersRunOut_claim :
    (∀ s ∈ [claiming walkTest, darkLane], s.ctl.holdTimer.isSome = true ∧ s.ctl.video = .holding ∧ s.scan.state = .scanning
      ∧ s.sense.test = some walkTest ∧ walkTest.driver = none)
    ∧ ConnectsTo (claiming walkTest) walkTest .own ∧ Withdrawn darkLane walkTest ∧ darkLane.sense.windowOpen = false :=
  ⟨by decide +kernel, connects_claiming, withdrawn_darkLane, rfl⟩
theorem witness_TimersRunOut :
    ((running .live).ctl.frameTimer.isSome = true ∧ (running .live).ctl.video = .live ∧ (running .dark).ctl.video ≠ .live)
    ∧ (scanning.ctl.holdTimer.isSome = true ∧ scanning.ctl.video = .holding ∧ scanning.scan.state = .scanning
      ∧ claimWaiting scanning = false)
    ∧ (yielded.ctl.holdTimer.isSome = true ∧ yielded.scan.state = .yielded)
    ∧ blanking.ctl.mode = .blank ∧ blanking.ctl.blankTimer.isSome = true
    ∧ blanking.repair.waiting = none ∧ blanking.repair.bind = none ∧ blanking.repair.changes = [] := by
  decide +kernel
theorem witness_quiet : FaultPathQuiet blanking ∧ FaultPathQuiet fresh ∧ FaultPathQuiet (running .live) :=
  ⟨⟨rfl, nofun, rfl⟩, ⟨rfl, nofun, rfl⟩, ⟨rfl, nofun, rfl⟩⟩

theorem witness_ModeEntersTheModeAsked :
    (Dispatched 0x0A (rq [0]) fresh ∧ Dispatched 0x0A (rq [3]) fresh)
    ∧ (Dispatched 0x0A (bq [1]) fresh ∧ fresh.ctl.mode ≠ .run)
    ∧ (Dispatched 0x0A (rq [2]) (running .live) ∧ (running .live).ctl.mode ≠ .blank)
    ∧ (Dispatched 0x0A (rq [0]) (running .live) ∧ (running .live).ctl.mode ≠ .standby
      ∧ (running .live).repair.waiting = none ∧ (running .live).repair.bind = none ∧ (running .live).corr.check = none) :=
  ⟨⟨dispatched (by decide +kernel), dispatched (by decide +kernel)⟩, ⟨dispatched (by decide +kernel), by decide⟩,
    ⟨dispatched (by decide +kernel), by decide⟩, dispatched (by decide +kernel), by decide, rfl, rfl, rfl⟩

/-- A MODE to BLANK while a claim waits in HOLDING, and one to STANDBY with two spot tests waiting. -/
theorem witness_ModeEnters_claim_and_spots :
    (Dispatched 0x0A (rq [2]) (claiming walkTest) ∧ (claiming walkTest).ctl.mode ≠ .blank
      ∧ driveEnable (claiming walkTest) = true ∧ ConnectsTo (claiming walkTest) walkTest .own)
    ∧ (Dispatched 0x0A (rq [0]) (spotting [waitingSpot, waitingSpot] blanking) ∧ blanking.ctl.mode ≠ .standby
      ∧ (∀ e ∈ [waitingSpot, waitingSpot], e.status = .waiting) ∧ blanking.repair.bind = none) :=
  ⟨⟨dispatched (by decide +kernel), by decide, by decide, connects_claiming⟩, dispatched (by decide +kernel), by decide,
    by decide, rfl⟩

/-! ## Witnesses: scan and sensing -/

theorem witness_RowPhaseEndsServeTheLines :
    (scanning.scan.state = .scanning ∧ claimWaiting scanning = false)
    ∧ ((claiming walkTest).sense.test = some walkTest ∧ walkTest.driver = none ∧ ConnectsTo (claiming walkTest) walkTest .own)
    ∧ (darkLane.scan.state = .scanning ∧ darkLane.sense.test = some walkTest ∧ Withdrawn darkLane walkTest
      ∧ darkLane.sense.windowOpen = false) :=
  ⟨⟨rfl, by decide +kernel⟩, ⟨rfl, rfl, connects_claiming⟩, rfl, rfl, withdrawn_darkLane, rfl⟩

/-- The knee at the short limit, one tick past it, at the open limit and one tick past it. -/
theorem witness_TestsAreClassified :
    (2 ≤ walkTest.openLimit ∧ 2 ≤ walkTest.shortLimit) ∧ walkTest.shortLimit < 3 ∧ 90 ≤ walkTest.openLimit
      ∧ walkTest.openLimit < 91 := by decide

def driving : State := claiming { walkTest with driver := some .own }
/-- The walk test of die (6, 50, B) while it drives. -/
def drivingTest : TestRecord := { walkTest with driver := some .own }
/-- A suspect record of a die, in WATCH. -/
def watched (x : DieRef) (hits passes flips : Nat) : Suspect := ⟨x, .openDie, hits, passes, flips, 0, some 1999, none⟩
def suspecting (xs : List Suspect) (s : State) : State := s.withTrack { s.track with suspects := xs }
theorem mayBeWatched_driving : MayBeWatched driving walkTest.die :=
  ⟨by decide +kernel, by decide +kernel, by decide +kernel, by decide +kernel, nofun, nofun, nofun, nofun⟩
theorem witness_WalkResultsAreApplied :
    (driving.sense.test = some drivingTest ∧ driving.sense.windowOpen = false
      ∧ FaultPathQuiet driving ∧ (∀ x ∈ driving.track.suspects, x.die ≠ walkTest.die) ∧ HasCell driving 6 50)
    ∧ (classify walkTest (some 29) = .good ∧ classify walkTest none = .openDie ∧ classify walkTest (some 1) = .shortDie
      ∧ classify { walkTest with hot := true } none = .inconclusive)
    ∧ (MayBeWatched driving walkTest.die ∧ driving.track.suspects.length < 32)
    ∧ ¬ MayBeWatched (setHealth walkTest.die .flaky driving) walkTest.die
    ∧ 32 ≤ (suspecting (List.replicate 32 (watched ⟨0, 0, .a⟩ 1 0 0)) driving).track.suspects.length :=
  ⟨⟨rfl, rfl, ⟨rfl, nofun, rfl⟩, nofun, by unfold HasCell; decide +kernel⟩, by decide,
    ⟨mayBeWatched_driving, by decide +kernel⟩, fun h => absurd h.1 (by decide +kernel), by decide +kernel⟩

/-- The walk test has just passed in an open window of four slots, in the scan or outside it. -/
def granting (st : ScanState) (s : State) : State :=
  (s.withScan { s.scan with state := st }).withSense
    { s.sense with test := some drivingTest, windowOpen := true, budget := 4, used := 3 }
def probing (x : DieRef) : Check := { checkOn58 with probes := [⟨some x, .pending⟩, ⟨none, .pass⟩, ⟨none, .pass⟩, ⟨none, .pass⟩] }
def checked (c : Check) (s : State) : State := s.withCorr ⟨some c⟩
def verifyOf58 : Verify := ⟨4, ⟨3, 58, .a⟩, [4], false⟩
/-- The states of the six cases: a verify of the check, one of a bind, a probe, a spot entry, a retest, the walk. -/
def grantStates : List State :=
  let base := granting .yielded (running .live)
  [checked { checkOn58 with verify := some verifyOf58 } base, repaired (fun x => { x with bind := some (bindOf .verifying) }) base,
    checked (probing ⟨4, 58, .a⟩) base, spotting [waitingSpot] base, suspecting [watched ⟨0, 0, .a⟩ 1 0 0] base, base]
theorem grants (s : State) (h : s ∈ grantStates) : GrantComesNext drivingTest (some 29) s ∧ s.scan.state = .yielded := by
  simp only [grantStates, List.mem_cons, List.not_mem_nil, or_false] at h
  rcases h with rfl | rfl | rfl | rfl | rfl | rfl
  all_goals
    refine ⟨⟨rfl, rfl, rfl, by decide, ?_, rfl, nofun, .inr ⟨?_, ?_⟩, rfl, by decide⟩, rfl⟩
  all_goals first | decide +kernel | (intro b r hb; cases hb <;> nofun)
/-- The same outside the scan, with the lines lent to the test. -/
theorem grants_lent (s : State) (h : s ∈ grantStates) :
    GrantComesNext drivingTest (some 29) (s.withScan { s.scan with state := .lent })
      ∧ (s.withScan { s.scan with state := .lent }).scan.state = .lent := by
  obtain ⟨⟨h1, h2, h3, h4, h5, h6, h7, h8, h9, h10⟩, _⟩ := grants s h
  exact ⟨⟨h1, h2, h3, h4, h5, h6, h7, h8, h9, h10⟩, rfl⟩
theorem witness_GrantsGoToTheFirstEligibleSource :
    (∀ s ∈ grantStates, GrantComesNext drivingTest (some 29) s ∧ s.scan.state = .yielded)
    ∧ laneNow (checked (probing ⟨4, 58, .a⟩) (granting .lent (running .live))) 58 ≠ .dark
    ∧ (∀ s ∈ grantStates, s.sense.tried = ⟨false, false, false, false, false⟩)
    ∧ (∀ s ∈ grantStates.drop 2, NoVerifyDue s) ∧ (∀ s ∈ grantStates.drop 3, NoProbeDue s)
    ∧ (∀ s ∈ grantStates.drop 4, NoSpotWaits s)
    ∧ MayBeRetested (suspecting [watched ⟨0, 0, .a⟩ 1 0 0] (granting .yielded (running .live))) (watched ⟨0, 0, .a⟩ 1 0 0)
    ∧ (GrantComesNext drivingTest (some 29) (spotting [waitingSpot] (granting .lent blanking))
      ∧ NoVerifyDue (spotting [waitingSpot] (granting .lent blanking)) ∧ NoProbeDue (spotting [waitingSpot] (granting .lent blanking)))
    ∧ (let s := repaired (fun x => { x with lanes := x.lanes.set 58 .dark }) (checked (probing ⟨4, 58, .a⟩) (granting .lent blanking))
      GrantComesNext drivingTest (some 29) s ∧ laneNow s 58 = .dark ∧ s.sense.used + 1 = s.sense.budget) := by
  refine ⟨grants, by decide +kernel, by decide +kernel, ?_, ?_, ?_, ?_, ⟨?_, ?_, ?_⟩, ?_⟩
  · intro s h
    simp only [grantStates, List.drop_succ_cons, List.drop_zero, List.mem_cons, List.not_mem_nil, or_false] at h
    rcases h with rfl | rfl | rfl | rfl <;> exact .inr ⟨by intro c hc; cases hc <;> rfl, nofun⟩
  · intro s h
    simp only [grantStates, List.drop_succ_cons, List.drop_zero, List.mem_cons, List.not_mem_nil, or_false] at h
    rcases h with rfl | rfl | rfl <;> nofun
  · intro s h
    simp only [grantStates, List.drop_succ_cons, List.drop_zero, List.mem_cons, List.not_mem_nil, or_false] at h
    rcases h with rfl | rfl <;> nofun
  · unfold MayBeRetested; decide +kernel
  · exact ⟨rfl, rfl, rfl, by decide, nofun, rfl, nofun, .inr ⟨by decide, nofun⟩, rfl, by decide⟩
  · exact .inr ⟨nofun, nofun⟩
  · nofun
  · exact ⟨⟨rfl, rfl, rfl, by decide, nofun, rfl, nofun, .inr ⟨nofun, nofun⟩, rfl, by decide⟩, by decide +kernel⟩

/-- The walk's turn with the cursor at its first position, and at its last, (B, 7, 143), whose die is not passed; a tile whose
rows are all LOST passes every die. -/
def walking (c : WalkPos) : State := (granting .yielded (running .live)).withSense { (granting .yielded (running .live)).sense with cursor := c }
def allLost : State := repaired (fun x => { x with rows := List.replicate 8 .lost }) (walking ⟨.a, 0, 0⟩)
theorem witness_TheWalkTakesTheNextDie :
    (∀ c, GrantComesNext drivingTest (some 29) (walking c) ∧ (walking c).scan.state = .yielded
      ∧ GrantComesNext drivingTest (some 29) ((walking c).withScan { fresh.scan with state := .lent }) ∧ NoVerifyDue (walking c)
      ∧ NoProbeDue (walking c) ∧ NoSpotWaits (walking c) ∧ (∀ x ∈ (walking c).track.suspects, ¬ MayBeRetested (walking c) x)
      ∧ (walking c).unit.params.walkEnable = true ∧ (walking c).sense.hot = false ∧ (walking c).track.suspects.length < 32)
    ∧ (walkPosition fresh 0 = ⟨.a, 0, 0⟩ ∧ walkPosition fresh 2303 = ⟨.b, 7, 143⟩ ∧ 2303 < 2 * (144 * depth fresh))
    ∧ ¬ WalkPasses (walking ⟨.b, 7, 143⟩) ⟨7, 143, .b⟩
    ∧ (∀ r l d, r < 8 → WalkPasses allLost ⟨r, l, d⟩) := by
  refine ⟨fun c => ⟨⟨rfl, rfl, rfl, by decide, nofun, rfl, nofun, .inr ⟨nofun, nofun⟩, rfl, show 3 < 4 by decide⟩, rfl,
    ⟨rfl, rfl, rfl, by decide, nofun, rfl, nofun, .inr ⟨nofun, nofun⟩, rfl, show 3 < 4 by decide⟩, .inr ⟨nofun, nofun⟩, nofun, nofun, nofun, rfl, rfl, show 0 < 32 by decide⟩, by decide +kernel, ?_, ?_⟩
  · rintro (h | h | h | h | h | h | h | ⟨_, h, _⟩ | h | ⟨_, _, h⟩ | ⟨_, _, h, _⟩)
    all_goals first | (revert h; decide +kernel) | nomatch h
  · intro r l d hr
    exact .inl (List.getD_replicate _ hr)

/-- A record of the walk test's die: one hit short of confirmation, HELD, and one pass short of clearing. -/
def onRecord (x : Suspect) : State := suspecting [watched ⟨0, 0, .a⟩ 1 0 0, x] driving
def heldSuspect : Suspect := { watched walkTest.die 3 0 0 with held := some ⟨.openDie, 7, 1⟩ }
theorem witness_ResultsMoveTheSuspectRecords :
    (∀ x, EndsAlone drivingTest (onRecord x) ∧ NoReplyDue (onRecord x)
      ∧ (onRecord x).track.suspects = [watched ⟨0, 0, .a⟩ 1 0 0] ++ x :: []
      ∧ (∀ y ∈ [watched ⟨0, 0, .a⟩ 1 0 0] ++ ([] : List Suspect), y.die ≠ drivingTest.die)
      ∧ (onRecord x).track.queue.length + (if (onRecord x).corr.check = none then 0 else 1) < 8)
    ∧ HasCell driving 6 50
    ∧ ((watched walkTest.die 2 0 0).die = drivingTest.die ∧ driving.unit.params.confirmHits ≤ (watched walkTest.die 2 0 0).hits + 1)
    ∧ (driving.unit.params.confirmHits ≤ (watched walkTest.die 0 2 0).passes + 1
      ∧ driving.unit.params.flipLimit ≤ (watched walkTest.die 0 2 3).flips + 1)
    ∧ heldSuspect.held ≠ none
    ∧ 8 ≤ ((onRecord heldSuspect).withTrack { (onRecord heldSuspect).track with
        queue := List.replicate 8 ⟨⟨0, 1, .a⟩, .shortDie, 3, 0, 0⟩ }).track.queue.length :=
  ⟨fun x => ⟨⟨rfl, rfl, rfl, rfl⟩, .inr ⟨nofun, nofun⟩, rfl, by decide, show 0 < 8 by decide⟩, by unfold HasCell; decide +kernel,
    ⟨rfl, by decide⟩, ⟨by decide, by decide⟩, nofun, by decide +kernel⟩

/-- A spot test in flight, its entry behind no other WAITING one. -/
def spotTest : TestRecord := { drivingTest with source := .spot }
def spotRuns (before : List SpotEntry) (s : State) : State :=
  s.withSense { s.sense with test := some spotTest, spots := before ++ [waitingSpot] }
theorem witness_SpotTestsAreQueuedAndReported :
    ((Dispatched 0x0B (rq [7, 143, 1]) fresh ∧ fresh.ctl.mode = .standby)
      ∧ (Dispatched 0x0B (rq [8, 143, 1]) blanking ∧ blanking.ctl.mode ≠ .standby ∧ ¬ 8 < depth blanking)
      ∧ (Dispatched 0x0B (rq [7, 143, 1]) (blanking.withSense { fresh.sense with spots := List.replicate 8 spotEntry }))
      ∧ (Dispatched 0x0B (rq [7, 143, 1]) blanking ∧ 7 < depth blanking ∧ blanking.sense.spots.length < 8))
    ∧ (∀ before, EndsAlone spotTest (spotRuns before driving) ∧ spotTest.source = .spot
      ∧ (spotRuns before driving).sense.spots = before ++ waitingSpot :: [] ∧ waitingSpot.status = .waiting
      ∧ (spotRuns before driving).track.queue = [])
    ∧ (EffectOf (spotRuns [] driving) spotTest.die .good .none ∧ EffectOf (spotRuns [] driving) spotTest.die .openDie .new)
    ∧ ((spotRuns [] driving).unit.replies.length < 8 ∧ 8 ≤ (spotRuns [] (repliesFull driving)).unit.replies.length) :=
  ⟨⟨⟨dispatched (by decide +kernel), rfl⟩, ⟨dispatched (by decide +kernel), by decide, by decide⟩,
      dispatched (by decide +kernel), dispatched (by decide +kernel), by decide, by decide⟩,
    fun _ => ⟨⟨rfl, rfl, rfl, rfl⟩, rfl, rfl, rfl, rfl⟩,
    ⟨.inr (.inl ⟨nofun, .inl ⟨rfl, rfl⟩⟩), .inr (.inl ⟨nofun, .inr ⟨.inl rfl, .inl ⟨by decide, mayBeWatched_driving, rfl⟩⟩⟩)⟩,
    by decide +kernel, by decide +kernel⟩

/-! ## Witnesses: the fault path -/

def queued (d : Descriptor) : State := (running .live).withTrack ⟨[], [d]⟩
def shortFault : Descriptor := ⟨⟨6, 50, .a⟩, .shortDie, 3, 0, 0⟩
def openFault : Descriptor := ⟨⟨6, 50, .a⟩, .openDie, 3, 0, 0⟩
/-- Every cell is CONCEALED: no probe is eligible. -/
def noneEligible : State :=
  repaired (fun x => { x with cells := List.replicate 8 (List.replicate 144 ⟨.concealed, .openDie, .openDie⟩) }) (queued openFault)
theorem witness_DescriptorsAreDecidedCell :
    ((queued shortFault).corr.check = none ∧ (queued shortFault).ctl.mode ≠ .standby
      ∧ (queued shortFault).repair.waiting = none ∧ (queued shortFault).track.queue = [shortFault]
      ∧ (queued shortFault).track.suspects = [] ∧ (queued shortFault).repair.heldLane = none ∧ shortFault.kind ≠ .openDie
      ∧ plannedLane (queued shortFault) 50 ≠ .dark ∧ plannedRow (queued shortFault) 6 ≠ .lost
      ∧ (queued shortFault).unit.params.policy = .auto ∧ HasCell (queued shortFault) 6 50
      ∧ (queued shortFault).repair.changes.length < 16 ∧ (queued shortFault).repair.defects.length < 192)
    ∧ (noneEligible.track.queue = [openFault] ∧ HasCell noneEligible 6 50
      ∧ ∀ i, ¬ LaneCandidate noneEligible ⟨6, 50, .a⟩ i ∧ ¬ RowCandidate noneEligible ⟨6, 50, .a⟩ i) := by
  refine ⟨⟨rfl, by decide, rfl, rfl, rfl, rfl, by decide, by decide +kernel, by decide +kernel, rfl,
    by unfold HasCell; decide +kernel, by decide, by decide⟩, rfl, by unfold HasCell; decide +kernel, fun i => ⟨?_, ?_⟩⟩
  · rintro ⟨hi, _, _, d, hd, _⟩
    have : i < 7 := hi
    interval_cases i <;> exact absurd hd (by cases d <;> decide +kernel)
  · rintro ⟨hi, _, _, d, hd, _⟩
    interval_cases i <;> exact absurd hd (by cases d <;> decide +kernel)

/-- Lane 50 is DARK in the current maps and so in the planned ones. -/
def explained : State := repaired (fun x => { x with lanes := x.lanes.set 50 .dark }) (queued openFault)
theorem witness_OpenDescriptorsAreCheckedOrExplained :
    ((queued openFault).track.queue = openFault :: [] ∧ openFault.kind = .openDie
      ∧ plannedLane (queued openFault) 50 ≠ .dark ∧ plannedRow (queued openFault) 6 ≠ .lost
      ∧ LaneCandidate (queued openFault) openFault.die 0 ∧ RowCandidate (queued openFault) openFault.die 4)
    ∧ (explained.corr.check = none ∧ explained.ctl.mode ≠ .standby ∧ explained.repair.waiting = none
      ∧ explained.repair.heldLane = none ∧ explained.track.queue = [openFault] ∧ plannedLane explained 50 = .dark) :=
  ⟨⟨rfl, rfl, by decide +kernel, by decide +kernel,
      ⟨by decide, by decide +kernel, by decide +kernel, .a, by decide +kernel, by decide +kernel⟩,
      ⟨by decide, by decide +kernel, by decide +kernel, .a, by decide +kernel, by decide +kernel⟩⟩,
    rfl, by decide, rfl, rfl, rfl, by decide +kernel⟩

/-- Probe 0 of a check drives, with its fellow on the lane FAIL or PASS and the two of the row as given. -/
def probeTest : TestRecord := { drivingTest with source := .probe 0, die := ⟨4, 58, .a⟩ }
def probesOf (a b x y : ProbeResult) : Check :=
  { checkOn58 with probes := [⟨some ⟨4, 58, .a⟩, a⟩, ⟨some ⟨5, 58, .a⟩, b⟩, ⟨some ⟨3, 82, .a⟩, x⟩, ⟨some ⟨3, 106, .a⟩, y⟩] }
def lastProbe (c : Check) (s : State) : State := checked c (s.withSense { s.sense with test := some probeTest })
theorem witness_ProbesDecideTheOutcome :
    (∀ c, EndsAlone probeTest (lastProbe c driving) ∧ NoReplyDue (lastProbe c driving) ∧ probeTest.source = .probe 0
      ∧ (lastProbe c driving).corr.check = some c ∧ (lastProbe c driving).ctl.mode ≠ .standby
      ∧ (∀ z ∈ (lastProbe c driving).track.suspects, z.held = none)
      ∧ (lastProbe c driving).repair.defects.length < 192 ∧ (lastProbe c driving).repair.changes.length < 16)
    ∧ (classify probeTest none = .openDie ∧ classify probeTest (some 29) = .good
      ∧ classify { probeTest with hot := true } none = .inconclusive)
    ∧ (∀ a b x y, (probesOf a b x y).verify = none ∧ (probesOf a b x y).probes.map Probe.result = [a, b, x, y])
    ∧ (plannedSlot (lastProbe (probesOf .fail .fail .pass .pass) driving) (2 * (58 / 24)) = .free
      ∧ (plannedCell (lastProbe (probesOf .fail .fail .pass .pass) driving) 3 58).selected = some .a
      ∧ ∀ z ∈ (lastProbe (probesOf .fail .fail .pass .pass) driving).repair.slots, z.isReserved = false)
    ∧ ∀ k, laneNow (lastProbe (probesOf .fail .fail .pass .pass) driving) 58 ≠ .spared k :=
  ⟨fun _ => ⟨⟨rfl, rfl, rfl, rfl⟩, .inr ⟨nofun, nofun⟩, rfl, rfl, show Mode.run ≠ .standby by decide, nofun,
      show 0 < 192 by decide, show 0 < 16 by decide⟩, by decide,
    fun _ _ _ _ => ⟨rfl, rfl⟩, by decide +kernel, fun k h => by
      have e : laneNow (lastProbe (probesOf .fail .fail .pass .pass) driving) 58 = .normal := by decide +kernel
      rw [e] at h; cases h⟩

/-- The lists full: the Defect List of records of other targets, and the Pending Change List. -/
def listFull (s : State) : State :=
  repaired (fun x => { x with defects := List.replicate 192 (recordFor (.cell 0 0) .manual .conceal 0) }) s
def changesFull (s : State) : State := repaired (fun x => { x with changes := List.replicate 16 (.row 0 .normal) }) s
/-- Each outcome of the last probe with a full list, and lane 58 SPARED, held by another slot, and with its slots FAILED. -/
theorem witness_Probes_without_room :
    (∀ f ∈ [listFull, changesFull], ∀ c, EndsAlone probeTest (lastProbe c (f driving)) ∧ NoReplyDue (lastProbe c (f driving))
      ∧ (lastProbe c (f driving)).ctl.mode ≠ .standby ∧ (∀ z ∈ (lastProbe c (f driving)).track.suspects, z.held = none))
    ∧ (192 ≤ (listFull driving).repair.defects.length
      ∧ (∀ x ∈ [Target.die 3 58 .a, .row 3, .lane 58], ∀ z ∈ (listFull driving).repair.defects, z.target ≠ x))
    ∧ 16 ≤ (changesFull driving).repair.changes.length ∧ (changesFull driving).repair.defects.length < 192
    ∧ laneNow (repaired (fun x => { x with lanes := x.lanes.set 58 (.spared 4) }) driving) 58 = .spared 4
    ∧ SlotState.reserved 10 ∈ (repaired (fun x => { x with slots := x.slots.set 0 (.reserved 10) }) driving).repair.slots
    ∧ (∀ k ∈ [4, 5], plannedSlot (repaired (fun x => { x with slots := List.replicate 12 .failed }) driving) k ≠ .free) := by
  refine ⟨fun f hf c => ?_, by decide +kernel⟩
  simp only [List.mem_cons, List.not_mem_nil, or_false] at hf
  rcases hf with rfl | rfl <;>
    exact ⟨⟨rfl, rfl, rfl, rfl⟩, .inr ⟨nofun, nofun⟩, show Mode.run ≠ .standby by decide, nofun⟩

/-- A verify on slot 4 drives: of a check that has tried slot 4 alone, and of a bind to slot 4 of lane 58. -/
def verifyTest : TestRecord := { drivingTest with source := .verify 4, die := ⟨3, 58, .a⟩ }
def verifying (s : State) : State := s.withSense { s.sense with test := some verifyTest }
def checkVerifies : State :=
  verifying (checked { checkOn58 with verify := some verifyOf58 }
    (repaired (fun x => { x with slots := x.slots.set 4 (.reserved 58) }) driving))
def bindVerifies : State :=
  verifying (repaired (fun x => { x with bind := some (bindOf .verifying), slots := x.slots.set 4 (.reserved 58) }) driving)
/-- A verify on slot 5 of a check that has tried slot 4: slot 4 is FREE and is blamed; and since reserved for a BIND, it is
not. -/
def secondVerify (slot4 : SlotState) : State :=
  verifying (checked { checkOn58 with verify := some ⟨5, ⟨3, 58, .a⟩, [4, 5], false⟩ }
    (repaired (fun x => { x with slots := (x.slots.set 4 slot4).set 5 (.reserved 58) }) driving))
theorem witness_Verifies_second :
    (∀ x, EndsAlone verifyTest (secondVerify x) ∧ NoReplyDue (secondVerify x) ∧ (secondVerify x).ctl.mode ≠ .standby)
    ∧ slotNow (secondVerify .free) 4 = .free ∧ slotNow (secondVerify (.reserved 60)) 4 ≠ .free
    ∧ ¬ (plannedSlot (secondVerify .free) 4 = .free ∧ 4 ∉ [4, 5]) ∧ ¬ (plannedSlot (secondVerify .free) 5 = .free ∧ 5 ∉ [4, 5])
    ∧ (192 ≤ (listFull (secondVerify .free)).repair.defects.length
      ∧ ∀ z ∈ (listFull (secondVerify .free)).repair.defects, z.target ≠ .lane 58)
    ∧ 16 ≤ (changesFull (secondVerify .free)).repair.changes.length :=
  ⟨fun _ => ⟨⟨rfl, rfl, rfl, rfl⟩, .inr ⟨nofun, nofun⟩, show Mode.run ≠ .standby by decide⟩, by decide +kernel⟩
/-- R108, R118: a slot that has failed its verify turns FAILED at the blame while it is FREE, and not once it is held for a
BIND; LANE_EVENT is raised for the first alone. -/
theorem test_blame :
    slotNow (blame [4] (secondVerify .free)) 4 = .failed ∧ (blame [4] (secondVerify .free)).unit.notices.laneEvent = true
      ∧ slotNow (blame [4] (secondVerify (.reserved 60))) 4 = .reserved 60
      ∧ (blame [4] (secondVerify (.reserved 60))).unit.notices.laneEvent = false := by
  decide +kernel
theorem witness_VerifiesMoveTheSlots :
    (EndsAlone verifyTest checkVerifies ∧ NoReplyDue checkVerifies ∧ verifyTest.source = .verify 4
      ∧ checkVerifies.corr.check = some { checkOn58 with verify := some verifyOf58 } ∧ checkVerifies.ctl.mode ≠ .standby
      ∧ (∀ z ∈ checkVerifies.track.suspects, z.held = none) ∧ checkVerifies.repair.defects.length < 192
      ∧ checkVerifies.repair.changes.length < 16 ∧ verifyOf58.slot ∈ verifyOf58.tried
      ∧ plannedSlot checkVerifies (2 * (58 / 24) + 1) = .free ∧ 2 * (58 / 24) + 1 ∉ verifyOf58.tried
      ∧ 2 * (58 / 24) ∈ verifyOf58.tried)
    ∧ (EndsAlone verifyTest bindVerifies ∧ bindVerifies.sense.spots = [] ∧ bindVerifies.corr.check = none
      ∧ bindVerifies.repair.bind = some (bindOf .verifying) ∧ bindVerifies.track.queue = []
      ∧ bindVerifies.repair.changes.length < 16 ∧ bindVerifies.repair.defects.length < 192 ∧ bindVerifies.unit.replies.length < 8)
    ∧ (∀ f ∈ [listFull, changesFull, listFull ∘ changesFull], EndsAlone verifyTest (f bindVerifies)
      ∧ (f bindVerifies).sense.spots = [] ∧ (f bindVerifies).corr.check = none
      ∧ (f bindVerifies).repair.bind = some (bindOf .verifying) ∧ (f bindVerifies).track.queue = [])
    ∧ (16 ≤ (changesFull bindVerifies).repair.changes.length ∧ (changesFull bindVerifies).repair.defects.length < 192)
    ∧ (192 ≤ (listFull bindVerifies).repair.defects.length
      ∧ ∀ z ∈ (listFull bindVerifies).repair.defects, z.target ≠ .lane (bindOf .verifying).lane)
    ∧ (classify verifyTest (some 29) = .good ∧ classify verifyTest none = .openDie) :=
  ⟨⟨⟨rfl, rfl, rfl, rfl⟩, .inr ⟨nofun, nofun⟩, rfl, rfl, by decide, nofun, by decide, by decide, by decide, by decide +kernel,
      by decide, by decide⟩,
    ⟨⟨rfl, rfl, rfl, rfl⟩, rfl, rfl, rfl, rfl, by decide, by decide, by decide⟩, by
      simp only [List.forall_mem_cons]
      exact ⟨⟨⟨rfl, rfl, rfl, rfl⟩, rfl, rfl, rfl, rfl⟩, ⟨⟨rfl, rfl, rfl, rfl⟩, rfl, rfl, rfl, rfl⟩,
        ⟨⟨rfl, rfl, rfl, rfl⟩, rfl, rfl, rfl, rfl⟩, nofun⟩,
    by decide +kernel, by decide +kernel, by decide⟩
/-- R127, R135: at GOOD with both lists full and no record of its lane the bind ends at once with FULL and its slot FREE;
with the Pending Change List alone full it waits. -/
theorem test_bind_full :
    (bindDone (bindOf .verifying) .good 30 (listFull (changesFull bindVerifies))).repair.bind
        = some (bindOf (.ended (replyTo kRepair (bindOf .verifying).src (bindOf .verifying).tag .full [])))
      ∧ slotNow (bindDone (bindOf .verifying) .good 30 (listFull (changesFull bindVerifies))) 4 = .free
      ∧ (bindDone (bindOf .verifying) .good 30 (changesFull bindVerifies)).repair.bind
        = some (bindOf (.waitsForRoom 30 (bindVerifies.store.frameCount % 65536) bindVerifies.sense.sample)) := by
  decide +kernel

def deciding (w : Waiting) : State := repaired (fun x => { x with waiting := some w }) (running .live)
/-- A lane 58 decision that passed on slot 5 after slot 4 failed. -/
def spared58 : Waiting := .lane 58 true (.sparedBy 5 [4, 5])
def bindRoomWaits : State := repaired (fun x => { x with bind := some (bindOf (.waitsForRoom 30 7 25)) }) (running .live)
theorem witness_RoomLetsWaitingDecisionsAndBindsIn :
    (FaultPathQuiet (running .live) ∧ (running .live).track.suspects = [] ∧ (running .live).ctl.mode ≠ .standby)
    ∧ (∀ w ∈ [.cell ⟨6, 50, .a⟩ .openDie true, .row 7 false, .lane 58 true (.allFailed [4, 5]), .lane 58 true .noSlot],
      (deciding w).repair.waiting = some w ∧ FaultPathQuiet (deciding w))
    ∧ ((deciding spared58).repair.waiting = some spared58 ∧ FaultPathQuiet (deciding spared58)
      ∧ (deciding spared58).repair.changes.length < 16 ∧ (deciding spared58).repair.defects.length < 192)
    ∧ (bindRoomWaits.repair.bind = some (bindOf (.waitsForRoom 30 7 25)) ∧ bindRoomWaits.ctl.mode ≠ .standby
      ∧ bindRoomWaits.repair.changes.length < 16 ∧ bindRoomWaits.repair.defects.length < 192
      ∧ FaultPathQuiet bindRoomWaits ∧ bindRoomWaits.sense.spots = [] ∧ bindRoomWaits.unit.replies.length < 8)
    ∧ ((listFull bindRoomWaits).repair.bind = some (bindOf (.waitsForRoom 30 7 25))
      ∧ (listFull bindRoomWaits).ctl.mode ≠ .standby ∧ (listFull bindRoomWaits).repair.changes.length < 16
      ∧ FaultPathQuiet (listFull bindRoomWaits) ∧ (listFull bindRoomWaits).sense.spots = []
      ∧ (listFull bindRoomWaits).unit.replies.length < 8 ∧ 192 ≤ (listFull bindRoomWaits).repair.defects.length
      ∧ ∀ z ∈ (listFull bindRoomWaits).repair.defects, z.target ≠ .lane (bindOf (.waitsForRoom 30 7 25)).lane) :=
  ⟨⟨⟨rfl, nofun, rfl⟩, rfl, by decide⟩, fun _ _ => ⟨rfl, rfl, nofun, rfl⟩, ⟨rfl, ⟨rfl, nofun, rfl⟩, by decide, by decide⟩,
    ⟨rfl, by decide, by decide, by decide, ⟨rfl, nofun, rfl⟩, rfl, by decide⟩,
    rfl, by decide, by decide, ⟨rfl, nofun, rfl⟩, rfl, by decide, by decide +kernel⟩

/-- The check on lane 58 with its decision held: lane 58 still SPARED by slot 4, its isolation waiting, then NORMAL with
slots free, and with none. -/
def isolating : State :=
  repaired (fun x => { x with heldLane := some ⟨false, true⟩, lanes := x.lanes.set 58 (.spared 4) })
    ((running .live).withCorr ⟨some checkOn58⟩)
def resuming (slots : List SlotState) : State :=
  repaired (fun x => { x with heldLane := some ⟨false, false⟩, slots := slots }) ((running .live).withCorr ⟨some checkOn58⟩)
theorem witness_HeldLaneDecisionsResume :
    (isolating.ctl.mode ≠ .standby ∧ isolating.corr.check = some checkOn58 ∧ isolating.repair.heldLane = some ⟨false, true⟩
      ∧ isolating.repair.changes.length < 16 ∧ laneNow isolating 58 = .spared 4 ∧ isolating.repair.defects.length < 192)
    ∧ (16 ≤ (changesFull isolating).repair.changes.length
      ∧ (changesFull isolating).repair.heldLane = some ⟨false, true⟩)
    ∧ (192 ≤ (listFull isolating).repair.defects.length ∧ (listFull isolating).repair.changes.length < 16
      ∧ (∀ z ∈ (listFull isolating).repair.defects, z.target ≠ .lane 58)
      ∧ (listFull isolating).repair.heldLane = some ⟨false, true⟩ ∧ (listFull isolating).track.queue = []
      ∧ (listFull isolating).track.suspects = [])
    ∧ ((resuming (List.replicate 12 .free)).repair.heldLane = some ⟨false, false⟩
      ∧ (laneNow (resuming (List.replicate 12 .free)) 58).slot = none
      ∧ freeSlotFor (resuming (List.replicate 12 .free)) 58 [] = some 4
      ∧ (plannedCell (resuming (List.replicate 12 .free)) 3 58).selected = some .a)
    ∧ ((∀ x ∈ (resuming (List.replicate 12 .failed)).repair.slots, x.isReserved = false)
      ∧ freeSlotFor (resuming (List.replicate 12 .failed)) 58 [] = none
      ∧ (resuming (List.replicate 12 .failed)).repair.slots.length = 12
      ∧ (resuming (List.replicate 12 .failed)).repair.changes.length < 16
      ∧ (resuming (List.replicate 12 .failed)).repair.defects.length < 192) := by
  decide +kernel

/-- R115, R117: with no room the whole isolation waits and the Defect List is as it was; taken when there is room, it adds
its record. -/
theorem test_isolation_waits :
    (isolate 58 true (changesFull isolating)).repair = (changesFull isolating).repair
      ∧ ((addIsolation isolating).repair.defects.map Defect.action) = [.laneDark] := by
  decide +kernel

/-- Lane 58 SPARED by slot 4, and a list of two entries. -/
def bound58 : State :=
  repaired (fun x => { x with lanes := x.lanes.set 58 (.spared 4), slots := x.slots.set 4 (.bound 58 0) }) fresh
theorem witness_ChangesAreApplied :
    (∀ k : Fin 12, ∀ l : Fin 144, (slotNow bound58 k.val).boundTo l.val = true ↔ laneNow bound58 l.val = .spared k.val)
    ∧ bound58.repair.slots.length = 12 ∧ bound58.repair.lanes.length = 144
    ∧ (∀ l' : Fin 144, l'.val ≠ 58 → (slotNow bound58 5).boundTo l'.val = false)
    ∧ (slotNow bound58 4).boundTo 58 = true ∧ .bound 58 0 ∈ bound58.repair.slots ∧ HasCell bound58 7 143
    ∧ (fresh.repair.changes = [] ∧ fresh.ctl.mode ≠ .run ∧ (running .live).repair.changes = [] ∧ (running .live).ctl.mode = .run) := by
  refine ⟨by decide +kernel, by decide +kernel, by decide +kernel, by decide +kernel, by decide +kernel, by decide +kernel, ?_, ?_⟩
  · unfold HasCell; decide +kernel
  · decide +kernel

/-! ## Witnesses: manual repair -/

theorem witness_manual_dispatch (op : Fin 10) : RepairDispatched (op.val + 1) (rq [BitVec.ofNat 8 (op.val + 1), 7, 143, 11]) fresh :=
  ⟨dispatched (by revert op; decide +kernel), by revert op; decide +kernel⟩

/-- A die of cell (7, 143) is SHORT. -/
def badDie (d : Die) : State := setHealth ⟨7, 143, d⟩ .shortDie fresh
def cellQ (op : Byte) : Request := rq [op, 7, 143, 0]
theorem witness_ManualCellActionsAreJudgedAndDone :
    (CellActionFits (cellQ 1) fresh ∧ (cellEntry fresh 7 143).healthA.bad = false ∧ (cellEntry fresh 7 143).healthB.bad = false)
    ∧ (∀ op : Fin 4, RepairDispatched (op.val + 1) (rq [BitVec.ofNat 8 (op.val + 1), 8, 143, 0]) fresh
      ∧ depth fresh ≤ byteAt (rq [BitVec.ofNat 8 (op.val + 1), 8, 143, 0]).payload 1)
    ∧ (∀ op : Fin 4, ∀ s ∈ [fresh, fresh.withCorr ⟨some { checkOn58 with die := ⟨7, 0, .a⟩ }⟩, changesFull fresh, badDie .a,
          badDie .b, listFull fresh],
        RepairDispatched (op.val + 1) (cellQ (BitVec.ofNat 8 (op.val + 1))) s)
    ∧ (cellEntry (badDie .a) 7 143).healthA.bad = true ∧ (cellEntry (badDie .b) 7 143).healthB.bad = true
    ∧ (∀ x ∈ (listFull fresh).repair.defects, x.target ≠ .cell 7 143) := by
  refine ⟨⟨⟨by decide, by decide, nofun, by decide, .inl (by decide), fun _ => rfl⟩, by decide +kernel, by decide +kernel⟩,
    fun op => ⟨⟨dispatched (by revert op; decide +kernel), by revert op; decide +kernel⟩, by revert op; decide +kernel⟩,
    fun op s hs => ⟨dispatched ?_, by revert op; decide +kernel⟩, by decide +kernel⟩
  revert op s
  decide +kernel

/-- Each operation of REPAIR meets its statement of refusals, and so does a payload that names none. -/
theorem witness_RepairsAreRefusedInOrder :
    (∀ op : Fin 10, RepairDispatched (op.val + 1) (rq [BitVec.ofNat 8 (op.val + 1), 7, 143, 11]) fresh)
    ∧ (∀ op : Fin 12, op.val = 0 ∨ op.val = 11 → Dispatched 0x0C (rq [BitVec.ofNat 8 op.val, 7, 143, 11]) fresh)
    ∧ depth fresh ≤ byteAt (rq [1, 8, 143, 0]).payload 1 ∧ slotNow fresh 11 ≠ .failed := by
  refine ⟨fun op => ⟨dispatched (by revert op; decide +kernel), by revert op; decide +kernel⟩,
    fun op _ => dispatched (by revert op; decide +kernel), by decide, by decide +kernel⟩

/-- The part in RUN with one record of each kind of target; in STANDBY it is `listedOne`. -/
def manualOf (t : Target) : Defect := recordFor t .manual .none 40
def listed (t : Target) : State := repaired (fun x => { x with defects := [manualOf t] }) (running .live)
theorem witness_ReleasesUndoRecordedActions :
    ((listed (.cell 7 143)).ctl.mode ≠ .standby ∧ (listed (.cell 7 143)).corr.check = none
      ∧ (listed (.cell 7 143)).repair.changes.length + 2 ≤ 16)
    ∧ (fresh.ctl.mode = .standby ∧ fresh.corr.check = none ∧ fresh.repair.changes = [])
    ∧ (∀ f ∈ [listed, fun t => listedOne (manualOf t)],
      (RepairDispatched 5 (cellQ 5) (f (.cell 7 143)) ∧ (standingRecord (f (.cell 7 143)) (.cell 7 143)).isSome = true
        ∧ standingRecord (f (.row 7)) (.cell 7 143) = none)
      ∧ (RepairDispatched 6 (rq [6, 7, 143, 1]) (f (.die 7 143 .b))
        ∧ (standingRecord (f (.die 7 143 .b)) (.die 7 143 .b)).isSome = true ∧ HasCell (f (.die 7 143 .b)) 7 143)
      ∧ (RepairDispatched 10 (cellQ 10) (f (.row 7)) ∧ (standingRecord (f (.row 7)) (.row 7)).isSome = true)) := by
  refine ⟨by decide +kernel, ⟨rfl, rfl, rfl⟩, fun f hf => ?_⟩
  simp only [List.mem_cons, List.not_mem_nil, or_false] at hf
  rcases hf with rfl | rfl <;>
    exact ⟨⟨⟨dispatched (by decide +kernel), by decide⟩, by decide +kernel, by decide +kernel⟩,
      ⟨⟨dispatched (by decide +kernel), by decide⟩, by decide +kernel, by unfold HasCell; decide +kernel⟩,
      ⟨dispatched (by decide +kernel), by decide⟩, by decide +kernel⟩

/-- BIND of lane 143 to slot 11: row 0 qualifies with die A. -/
def bindQ : Request := rq [7, 0, 143, 11]
theorem witness_BindReservesTheSlot :
    RepairDispatched 7 bindQ fresh ∧ byteAt bindQ.payload 2 < 144 ∧ byteAt bindQ.payload 3 / 2 = byteAt bindQ.payload 2 / 24
    ∧ slotNow fresh (byteAt bindQ.payload 3) = .free ∧ laneNow fresh (byteAt bindQ.payload 2) = .normal
    ∧ (∀ y ∈ fresh.repair.slots, y.target ≠ some (byteAt bindQ.payload 2)) ∧ rowNow fresh 0 = .normal
    ∧ (cellEntry fresh 0 143).state.selected = some .a ∧ (healthOf fresh ⟨0, 143, .a⟩).bad = false :=
  ⟨⟨dispatched (by decide +kernel), by decide⟩, by decide +kernel⟩

def failedSlot : State := repaired (fun x => { x with slots := x.slots.set 11 .failed }) fresh
/-- Lane 143 with its record: NORMAL in RUN, DARK in RUN, and SPARED by slot 11 in STANDBY. -/
def unbinding (st : LaneState) (s : State) : State :=
  repaired (fun x => { x with lanes := x.lanes.set 143 st, defects := [manualOf (.lane 143)] }) s
theorem witness_UnbindFreesLanesAndSlots :
    (∀ st ∈ [LaneState.normal, .dark], RepairDispatched 8 (rq [8, 0, 143, 0]) (unbinding st (running .live))
      ∧ (standingRecord (unbinding st (running .live)) (.lane 143)).isSome = true ∧ plannedLane (unbinding st (running .live)) 143 = st)
    ∧ (∀ st ∈ [LaneState.normal, .dark, .spared 11], RepairDispatched 8 (rq [8, 0, 143, 0]) (unbinding st fresh)
      ∧ (standingRecord (unbinding st fresh) (.lane 143)).isSome = true ∧ laneNow (unbinding st fresh) 143 = st
      ∧ (unbinding st fresh).repair.lanes.length = 144)
    ∧ .bound 143 0 ∈ (repaired (fun x => { x with slots := x.slots.set 11 (.bound 143 0) }) (unbinding (.spared 11) fresh)).repair.slots
    ∧ (RepairDispatched 9 (rq [9, 0, 0, 11]) failedSlot ∧ slotNow failedSlot 11 = .failed)
    ∧ (RepairDispatched 9 (rq [9, 0, 0, 11]) fresh ∧ slotNow fresh 11 ≠ .failed) := by
  refine ⟨fun st h => ?_, fun st h => ?_, by decide +kernel, ⟨⟨dispatched (by decide +kernel), by decide⟩, by decide +kernel⟩,
    ⟨dispatched (by decide +kernel), by decide⟩, by decide +kernel⟩
  · simp only [List.mem_cons, List.not_mem_nil, or_false] at h
    rcases h with rfl | rfl <;> exact ⟨⟨dispatched (by decide +kernel), by decide⟩, by decide +kernel⟩
  · simp only [List.mem_cons, List.not_mem_nil, or_false] at h
    rcases h with rfl | rfl | rfl <;> exact ⟨⟨dispatched (by decide +kernel), by decide⟩, by decide +kernel⟩

/-! ## Witnesses: the Defect List -/

/-- 8.7: LANE (58) as above; ROW (7); CELL (3, 10) FORCE_OFF; and the three in one request. -/
def lane58 : Request := rq lane58Bytes
def row7 : Request := rq [61, 0, 2, 7, 0, 0, 4, 5, 255, 0, 192, 195, 70, 0]
def cell310 : Request := rq [60, 0, 3, 3, 10, 0, 6, 8, 255, 4, 249, 167, 30, 0]
def loadThree : Request := rq (lane58.payload ++ row7.payload ++ cell310.payload)
theorem witness_LoadedRecordsJoinTheList :
    (Dispatched 0x0E lane58 fresh ∧ fresh.ctl.mode = .standby
      ∧ loadRecord fresh lane58.payload = some ⟨0, .lane 58, .laneDead, .spareBound, some 4, false, true, .loaded, 40001, 84⟩)
    ∧ (Dispatched 0x0E row7 fresh ∧ (loadRecord fresh row7.payload).map Defect.target = some (.row 7))
    ∧ (Dispatched 0x0E cell310 fresh ∧ (loadRecord fresh cell310.payload).map Defect.target = some (.cell 3 10)
      ∧ HasCell fresh 3 10)
    ∧ (Dispatched 0x0E loadThree fresh ∧ 14 * 3 = loadThree.payload.length)
    ∧ (Dispatched 0x0E lane58 (running .live) ∧ (running .live).ctl.mode ≠ .standby)
    ∧ loadRecord fresh (lane58.payload.set 6 7) = none :=
  ⟨⟨dispatched (by decide +kernel), rfl, by decide +kernel⟩, ⟨dispatched (by decide +kernel), by decide +kernel⟩,
    ⟨dispatched (by decide +kernel), by decide +kernel, by unfold HasCell; decide +kernel⟩,
    ⟨dispatched (by decide +kernel), by decide⟩, ⟨dispatched (by decide +kernel), by decide⟩, by decide +kernel⟩

/-- 8.7: slot 7 of another group for lane 58 is a CONFLICT. -/
theorem test_load_conflict :
    (loadRecord fresh (lane58.payload.set 8 7)).bind (loadRefusal fresh) = some .conflict := by decide +kernel

/-- A broadcast CLEAR_DEFECTS in the buffer. -/
def clearBroadcast : State := linked (fun x => { x with upBuf := [.ready ⟨255, 1, 0x0F, 7, []⟩ false] }) fresh
theorem witness_ClearDefectsReturnsTheMaps :
    (Dispatched 0x0F (rq []) fresh ∧ fresh.ctl.mode = .standby)
      ∧ (Dispatched 0x0F (rq []) (running .live) ∧ (running .live).ctl.mode ≠ .standby)
      ∧ (taken 0x0F (bq []) clearBroadcast = true ∧ (bq []).broadcast = true) :=
  ⟨⟨dispatched (by decide +kernel), rfl⟩, ⟨dispatched (by decide +kernel), by decide⟩, by decide +kernel, rfl⟩

/-- A bind in progress at a CLEAR_DEFECTS. -/
def binding : State := repaired (fun x => { x with bind := some ⟨143, 11, ⟨0, 143, .a⟩, 1, 7, .verifying⟩ }) fresh
theorem witness_ClearDefects_bind :
    Dispatched 0x0F (rq []) binding ∧ binding.ctl.mode = .standby
      ∧ ∃ b, binding.repair.bind = some b ∧ ∀ r, b.stage ≠ .ended r :=
  ⟨dispatched (by decide +kernel), rfl, _, rfl, nofun⟩

/-! ## Witnesses: arithmetic, pins and laws -/

def onDieB : State := repaired (fun x => { x with cells := cellSet x.cells 7 143 ⟨.bActive, .openDie, .good⟩ }) fresh
theorem witness_StagesFollowTheArithmetic :
    (isLive fresh 7 143 = true ∧ (cellEntry fresh 7 143).state = .aActive)
      ∧ (isLive onDieB 7 143 = true ∧ (cellEntry onDieB 7 143).state = .bActive)
      ∧ CodesFit fresh.store.display ∧ fresh.unit.params.concealShare ≤ 255 :=
  ⟨by decide +kernel, by decide +kernel, by unfold CodesFit; decide +kernel, by decide⟩

/-- R41: a lone victim of code 4095 at the edge lends each of its three live neighbours floor(4095 × 160 / 768). -/
theorem test_lent_share :
    lentShare (repaired (fun x => { x with cells := cellSet x.cells 0 60 ⟨.concealed, .unknown, .unknown⟩ })
      (fresh.withStore { fresh.store with display := cellSet fresh.store.display 0 60 4095 })) 0 60 = 853 := by
  decide +kernel

theorem witness_CompositionFillsTheOutputTable : 7 < depth fresh ∧ (143 : Nat) < 144 := by decide

def lent : State :=
  (blanking.withScan { fresh.scan with state := .lent }).withSense { fresh.sense with test := some { walkTest with driver := some .own } }
theorem witness_PulsesAndPinsFollowTheTables :
    ((4095 : Nat) ≤ 4095 ∧ ((8 : Nat) = 1 ∨ (8 : Nat) = 2 ∨ (8 : Nat) = 4 ∨ 8 = 8))
    ∧ (DriveLaw blanking ∧ driveEnable blanking = false ∧ testDriving blanking = none)
      ∧ (DriveLaw lent ∧ testDriving lent = some ({ walkTest with driver := some .own }, .own))
    ∧ (testDriving scanning = none ∧ scanning.scan.state = .scanning ∧ scanning.scan.phase = some ⟨0, .normal, []⟩
      ∧ scanning.sense.test = none) :=
  ⟨by decide, ⟨⟨by decide +kernel, by decide +kernel⟩, by decide +kernel, by decide +kernel⟩,
    ⟨⟨by decide +kernel, by decide +kernel⟩, by decide +kernel⟩, rfl, rfl, rfl, rfl⟩
/-- R5, R14: in grey slot 0 of a phase with four segments a lane SPARED by slot 4 with pulse 3166 is lit through that slot, and
a DARK lane with the same pulse is not lit. -/
theorem test_phase_outputs :
    let p : RowPhase := ⟨3, .normal, [⟨.spared 4, .aActive, 3166⟩, ⟨.dark, .aActive, 3166⟩]⟩
    let s : State := scanning.withScan { scanning.scan with phase := some p }
    nodeDriver s 0 = .slot 4 ∧ laneLit s 0 0 = true ∧ laneLit s 0 791 = true ∧ laneLit s 0 792 = false
      ∧ nodeDriver s 1 = .nothing ∧ laneLit s 1 0 = false ∧ rowSelected s 3 = true ∧ rowSelected s 4 = false := by
  decide +kernel

/-- The part in BLANK with a command in its queue: it meets every law, and the step answers a next state. -/
def waitingCommand : State := blanking.withPending [.downGoAsserted]
theorem witness_step : ∃ t, step waitingCommand = .next t := ⟨_, rfl⟩
theorem witness_laws_queues : Capacities waitingCommand ∧ ParamRanges waitingCommand.unit.params ∧ CountLimits waitingCommand := by
  refine ⟨⟨?_, ?_, ?_, ?_, ?_, ?_, ?_, ?_, ?_, ?_⟩, ⟨?_, ?_, ?_, ?_, ?_, ?_, ?_, ?_, ?_, ?_, ?_, ?_, ?_⟩,
    ⟨⟨?_, ?_, ?_, ?_, ?_⟩, ⟨?_, ?_, ?_, ?_, ?_⟩, ?_, ?_, ?_, ?_, ?_, ?_, ?_, ?_, ?_, ?_, ?_, ?_⟩⟩ <;> decide +kernel
theorem witness_laws_modes :
    DriveLaw waitingCommand ∧ TimerLaw waitingCommand ∧ StandbyQuiet waitingCommand ∧ OneRecordPerTarget waitingCommand :=
  ⟨⟨by decide +kernel, by decide +kernel⟩, ⟨by decide +kernel, by decide +kernel, by decide +kernel, by decide +kernel⟩,
    ⟨by decide +kernel, by decide +kernel, by decide +kernel, by decide +kernel, by decide +kernel, by decide +kernel⟩,
    by unfold OneRecordPerTarget; decide +kernel⟩
theorem witness_laws_tables : TableRanges waitingCommand := by
  refine ⟨?_, ?_, ?_, ?_, ?_, ?_, ?_, ?_, ?_, ?_⟩ <;> (try unfold CodesFit) <;> (try unfold Shaped) <;> decide +kernel

end Sys2Proof.Tests
end

/-! Gains: how the Coefficient Table is written and read (R37, R38), and what LOAD_GAIN and READ_GAIN do. -/

namespace Sys2Proof.Machine

/-! ## A gain as it is stored -/

/-- R37 counts a gain as clamped when it is stored changed. -/
theorem storedGain_ne_iff (v : Nat) : storedGain v ≠ v ↔ v < 256 ∨ 2047 < v := by
  simp only [storedGain, clampNat]
  omega

/-- The number of clamped gains counts those outside 256..2047. -/
theorem countP_storedGain_ne (vs : List Nat) :
    (vs.countP fun v => decide (storedGain v ≠ v)) = vs.countP fun v => decide (v < 256 ∨ 2047 < v) := by
  simp only [storedGain_ne_iff]

/-- No gain is clamped when all of them lie in 256..2047. -/
theorem countP_outOfRange_eq_zero_iff (vs : List Nat) :
    (vs.countP fun v => decide (v < 256 ∨ 2047 < v)) = 0 ↔ ∀ v ∈ vs, 256 ≤ v ∧ v ≤ 2047 := by
  simp [List.countP_eq_zero]

/-! ## Writing consecutive gains -/

/-- Gains that fit leave the table its length. -/
theorem length_putGains {gains vs : List Nat} {i : Nat} (h : i + vs.length ≤ gains.length) :
    (putGains gains i vs).length = gains.length := by
  simp only [putGains, List.length_append, List.length_take, List.length_drop]
  omega

/-- An index in the written range reads what was written there, and any other reads what it held before. -/
theorem getD_putGains {gains vs : List Nat} {i : Nat} (h : i + vs.length ≤ gains.length) (j d : Nat) :
    (putGains gains i vs).getD j d
      = if i ≤ j ∧ j < i + vs.length then vs.getD (j - i) d else gains.getD j d := by
  have hi : (gains.take i).length = i := List.length_take_of_le (by omega)
  have hiv : (gains.take i ++ vs).length = i + vs.length := by rw [List.length_append, hi]
  unfold putGains
  rcases Nat.lt_or_ge j (i + vs.length) with hj | hj
  · rw [List.getD_append _ _ _ _ (hiv ▸ hj)]
    rcases Nat.lt_or_ge j i with hji | hji
    · rw [List.getD_append _ _ _ _ (hi.symm ▸ hji), if_neg (by omega)]
      simp [List.getD_eq_getElem?_getD, hji]
    · rw [List.getD_append_right _ _ _ _ (hi.symm ▸ hji), hi, if_pos ⟨hji, hj⟩]
  · rw [List.getD_append_right _ _ _ _ (hiv ▸ hj), hiv, if_neg (by omega)]
    simp [List.getD_eq_getElem?_getD, Nat.add_sub_cancel' hj]

/-- A load stores each gain clamped at its index and keeps every other gain (R37). -/
theorem getD_putGains_storedGain {gains vs : List Nat} {i : Nat} (h : i + vs.length ≤ gains.length) (j : Nat) :
    (putGains gains i (vs.map storedGain)).getD j 0
      = if i ≤ j ∧ j < i + vs.length then max 256 (min 2047 (vs.getD (j - i) 0)) else gains.getD j 0 := by
  rw [getD_putGains (by simpa using h), List.length_map]
  split
  · next hj =>
    have hlt : j - i < vs.length := by omega
    simp [List.getD_eq_getElem?_getD, hlt, storedGain, clampNat]
  · rfl

/-! ## The two requests -/

/-- A kind that no tile accepts as a broadcast reaches its owner only addressed (R152, R164). -/
theorem Dispatched.addressed {kind : Byte} {q : Request} {s : State} (h : Dispatched kind q s)
    (hkind : acceptsBroadcast kind = false) : q.broadcast = false := by
  obtain ⟨-, -, haccepts⟩ := h
  cases hq : q.broadcast
  · rfl
  · exact absurd (haccepts hq) (by simp [hkind])

theorem exec_loadGain_dispatched {q : Request} {s : State} (h : Dispatched kLoadGain q s) :
    exec (.loadGain q) s = .next (gainsLoaded q (atTake kLoadGain q s)) :=
  request_dispatched (fun _ => gainsLoaded q) h

theorem exec_readGain_dispatched {q : Request} {s : State} (h : Dispatched kReadGain q s) :
    exec (.readGain q) s = .next (gainsRead q (atTake kReadGain q s)) :=
  request_dispatched (fun _ => gainsRead q) h

section
variable {q : Request} {s : State} (haddr : q.broadcast = false)
include haddr

/-- An addressed request is answered with one reply (R164, R165). -/
theorem answer_addressed (kind : Byte) (x : ReplyStatus) (c : List Byte) :
    answer kind q x c s = s.replying (replyOf kind q (statusByte x) c) := by
  simp [answer_eq, haddr]

theorem gainsLoaded_of_pastEnd
    (hend : 288 * depth s < le16At q.payload 0 + (words16 (q.payload.drop 2)).length) :
    gainsLoaded q s = s.replying (replyOf kLoadGain q 4 []) := by
  rw [gainsLoaded, if_pos hend, refuse, answer_addressed haddr, statusByte]

theorem gainsLoaded_of_fits {vs : List Nat} (hvs : vs = words16 (q.payload.drop 2))
    (hfits : le16At q.payload 0 + vs.length ≤ 288 * depth s) :
    gainsLoaded q s
      = (s.withComp { s.comp with gains := putGains s.comp.gains (le16At q.payload 0) (vs.map storedGain) }).replying
          (replyOf kLoadGain q (if ∀ v ∈ vs, 256 ≤ v ∧ v ≤ 2047 then 0 else 1)
            [byteOf vs.length, byteOf (vs.countP fun v => decide (v < 256 ∨ 2047 < v))]) := by
  subst hvs
  rw [gainsLoaded, if_neg (by omega)]
  simp only [answer_addressed haddr, countP_storedGain_ne, countP_outOfRange_eq_zero_iff, apply_ite statusByte]
  rfl

theorem gainsRead_of_refused
    (hbad : byteAt q.payload 2 = 0 ∨ 288 * depth s < le16At q.payload 0 + byteAt q.payload 2) :
    gainsRead q s = s.replying (replyOf kReadGain q 4 []) := by
  rw [gainsRead, if_pos hbad, refuse, answer_addressed haddr, statusByte]

theorem gainsRead_of_fits (hcount : byteAt q.payload 2 ≠ 0)
    (hfits : le16At q.payload 0 + byteAt q.payload 2 ≤ 288 * depth s) :
    gainsRead q s
      = s.replying (replyOf kReadGain q 0 (byteOf (byteAt q.payload 2)
          :: (((s.comp.gains.drop (le16At q.payload 0)).take (byteAt q.payload 2)).map le16).flatten)) := by
  rw [gainsRead, if_neg (by omega), answer_addressed haddr, statusByte]

end

/-- Settles O23: a dispatched request is addressed, and the owner's lemmas give its outcome on the state at the take, whose
depth and gains are those of the state before. -/
theorem gainsAreLoadedAndRead : Obligations.GainsAreLoadedAndRead := by
  unfold Obligations.GainsAreLoadedAndRead
  constructor
  · intro q vs s hdisp hvs
    have haddr := hdisp.addressed rfl
    rw [exec_loadGain_dispatched hdisp]
    constructor
    · intro hend
      rw [gainsLoaded_of_pastEnd haddr (by simpa [hvs] using hend)]
    · intro hfits hlen
      have hroom : le16At q.payload 0 + vs.length ≤ s.comp.gains.length := hlen ▸ hfits
      refine ⟨putGains s.comp.gains (le16At q.payload 0) (vs.map storedGain), ?_,
        length_putGains (by simpa using hroom), getD_putGains_storedGain hroom⟩
      rw [gainsLoaded_of_fits haddr hvs (by simpa using hfits), atTake_comp]
      rfl
  · intro q s hdisp
    have haddr := hdisp.addressed rfl
    rw [exec_readGain_dispatched hdisp]
    constructor
    · intro hbad
      rw [gainsRead_of_refused haddr (by simpa using hbad)]
    · intro hcount hfits
      rw [gainsRead_of_fits haddr hcount (by simpa using hfits), atTake_comp]
      rfl

end Sys2Proof.Machine

/-! The Defect List cleared: what CLEAR_DEFECTS makes of the maps and the bind (R141), and how deferred replies join the
Local Reply Queue (R166). -/

namespace Sys2Proof.Machine

/-! ## Maps at default hold no victim -/

/-- A list of one value reads that value at every index, when it is the default too. -/
theorem getD_replicate_self {α : Type} (n i : Nat) (v : α) : (List.replicate n v).getD i v = v := by
  rw [List.getD_eq_getElem?_getD, List.getElem?_getD_replicate_default_eq]

/-- A table with one entry everywhere reads that entry at every index, past its ends too. -/
theorem cellAt_replicate {α : Type} (n m r l : Nat) (v : α) :
    cellAt (List.replicate n (List.replicate m v)) r l v = v := by
  by_cases hr : r < n
  · rw [cellAt, List.getD_replicate _ hr, getD_replicate_self]
  · simp [cellAt, List.getD_eq_getElem?_getD, hr]

/-- Every cell is live in the maps that CLEAR_DEFECTS leaves (R40, R141). -/
theorem isLive_clearedRepair (d : Nat) (x : Repair) (s : State) (r l : Nat) :
    isLive (s.withRepair (clearedRepair d x)) r l = true := by
  have hcell : cellEntry (s.withRepair (clearedRepair d x)) r l = .default := cellAt_replicate d _ r l _
  have hrow : rowNow (s.withRepair (clearedRepair d x)) r = .normal := getD_replicate_self _ _ _
  have hlane : laneNow (s.withRepair (clearedRepair d x)) l = .normal := getD_replicate_self _ _ _
  simp [isLive, isForcedOff, isVictim, hcell, hrow, hlane, CellEntry.default]

/-- The zeroing of victims keeps every pulse where all cells are live (R47). -/
theorem zeroVictims_of_allLive {s : State} (h : ∀ r l, isLive s r l = true) : zeroVictims s = s := by
  have hrow : ∀ ps : List Nat, (ps.mapIdx fun _ p => p) = ps := fun ps => by simp [List.mapIdx_eq_iff]
  have htable : (s.comp.pulses.mapIdx fun _ ps => ps) = s.comp.pulses := by simp [List.mapIdx_eq_iff]
  simp only [zeroVictims, h, if_true, hrow, htable]
  rfl

/-! ## Deferred replies -/

/-- An offer to the head entry of the Spot Test Queue does nothing, or the entry leaves and a reply enters (R66). -/
theorem enterSpot_cases (s : State) :
    enterSpot s = s ∨ ∃ r rest, enterSpot s = pushReply r (s.withSense { s.sense with spots := rest }) := by
  unfold enterSpot
  split
  · exact .inl rfl
  · next rest _ =>
    split
    · next r _ =>
      split
      · exact .inr ⟨r, rest, rfl⟩
      · exact .inl rfl
    · exact .inl rfl

theorem replies_isPrefix_enterSpot (s : State) : s.unit.replies <+: (enterSpot s).unit.replies := by
  obtain h | ⟨r, rest, h⟩ := enterSpot_cases s <;> simp [h]

@[simp] theorem enterSpot_repair (s : State) : (enterSpot s).repair = s.repair := by
  obtain h | ⟨r, rest, h⟩ := enterSpot_cases s <;> simp [h]

theorem replies_isPrefix_enterSpots (s : State) : s.unit.replies <+: (enterSpots s).unit.replies :=
  List.foldlRecOn (motive := fun t => s.unit.replies <+: t.unit.replies) _ _ ⟨[], List.append_nil _⟩
    fun t ht _ _ => ht.trans (replies_isPrefix_enterSpot t)

@[simp] theorem enterSpots_repair (s : State) : (enterSpots s).repair = s.repair :=
  List.foldlRecOn (motive := fun t => t.repair = s.repair) _ _ rfl
    fun t ht _ _ => (enterSpot_repair t).trans ht

/-- A bind that has ended waits for a place for its reply, or is gone with its reply at the tail (R127, R166). -/
theorem enterBind_of_ended {s : State} {b : Bind} {r : Reply} (hb : s.repair.bind = some b) (hr : b.stage = .ended r) :
    enterBind s = if replyRoom s then pushReply r (s.withRepair { s.repair with bind := none }) else s := by
  simp [enterBind, hb, hr]

theorem replies_isPrefix_enterBind (s : State) : s.unit.replies <+: (enterBind s).unit.replies := by
  unfold enterBind
  split
  · split
    · split <;> simp
    · exact ⟨[], List.append_nil _⟩
    · exact ⟨[], List.append_nil _⟩
  · exact ⟨[], List.append_nil _⟩

/-- Replies offered join the tail of the Local Reply Queue (R165, R166). -/
theorem replies_isPrefix_offerReplies (s : State) : s.unit.replies <+: (offerReplies s).unit.replies :=
  (replies_isPrefix_enterSpots s).trans (replies_isPrefix_enterBind _)

/-- After the offer an ended bind still waits, or it is gone and its reply is queued (R127, R166). -/
theorem offerReplies_of_bindEnded {s : State} {b : Bind} {r : Reply} (hb : s.repair.bind = some b)
    (hr : b.stage = .ended r) :
    (offerReplies s).repair.bind = some b
      ∨ (offerReplies s).repair.bind = none ∧ r ∈ (offerReplies s).unit.replies := by
  have hb' : (enterSpots s).repair.bind = some b := by rw [enterSpots_repair, hb]
  rw [offerReplies, enterBind_of_ended hb' hr]
  split
  · exact .inr ⟨rfl, by simp⟩
  · exact .inl hb'

/-! ## CLEAR_DEFECTS (R141) -/

/-- A bind in progress ends with its reply ABORTED (R141). -/
theorem abortBind_of_inProgress {b : Bind} (h : ∀ r, b.stage ≠ .ended r) :
    abortBind b = { b with stage := .ended ⟨b.src, 0x8C, b.tag, [11], false⟩ } := by
  unfold abortBind
  split
  next => rfl
  next => rfl
  next r hr => exact absurd hr (h r)

/-- A broadcast of a kind that no tile accepts locally is taken and dropped (R152, R164). -/
theorem request_broadcast_dropped {kind : Byte} {q : Request} {s : State} (owner : Bool → State → State)
    (ht : taken kind q s = true) (hq : q.broadcast = true) (hkind : acceptsBroadcast kind = false) :
    request kind q owner s = .next (atTake kind q s) := by
  simp [request_taken owner ht, judge, hq, hkind]

theorem exec_clearDefects_dispatched {q : Request} {s : State} (h : Dispatched kClearDefects q s) :
    exec (.clearDefects q) s = .next (defectsCleared q (atTake kClearDefects q s)) :=
  request_dispatched (fun _ => defectsCleared q) h

section
variable {q : Request} {s : State} (haddr : q.broadcast = false)
include haddr

theorem defectsCleared_outside_standby (hmode : s.ctl.mode ≠ .standby) :
    defectsCleared q s = s.replying (replyOf kClearDefects q 3 []) := by
  rw [defectsCleared, if_neg hmode, refuse, answer_addressed haddr, statusByte]

/-- In STANDBY the Repair Engine is cleared and the request answered OK before the deferred replies are offered; the Output
Table stands, as no cell of the cleared maps is a victim. -/
theorem defectsCleared_in_standby (hmode : s.ctl.mode = .standby) :
    defectsCleared q s
      = offerReplies ((s.withRepair (clearedRepair (depth s) s.repair)).replying (replyOf kClearDefects q 0 [])) := by
  rw [defectsCleared, if_pos hmode, zeroVictims_of_allLive (isLive_clearedRepair _ _ s), answer_addressed haddr, statusByte]

end

/-- Settles O50: in STANDBY the outcome is the offer of the deferred replies on the cleared state, so that the frame of the
offer gives what is kept, and the ended bind's lemma what becomes of a bind in progress. -/
theorem clearDefectsReturnsTheMaps : Obligations.ClearDefectsReturnsTheMaps := by
  unfold Obligations.ClearDefectsReturnsTheMaps
  refine ⟨fun q s ht hq => request_broadcast_dropped (fun _ => defectsCleared q) ht hq rfl, fun q s hdisp => ?_⟩
  have haddr := hdisp.addressed rfl
  rw [exec_clearDefects_dispatched hdisp]
  refine ⟨fun hmode => ?_, fun hmode => ?_⟩
  · rw [defectsCleared_outside_standby haddr (by simpa using hmode)]
  · rw [defectsCleared_in_standby haddr (by simpa using hmode), atTake_repair, depth_atTake]
    generalize ht : offerReplies _ = t
    have hoffer := ht ▸ OfferFrame.offerReplies _
    obtain ⟨more, hmore⟩ := ht ▸ replies_isPrefix_offerReplies _
    have hrepair : t.repair = { clearedRepair (depth s) s.repair with bind := t.repair.bind } := hoffer.repair
    have hunit : t.unit = { s.unit with replies := t.unit.replies } := hoffer.unit.trans (by simp [State.replying])
    refine ⟨t, rfl, congrArg Repair.defects hrepair, congrArg Repair.seqCounter hrepair, congrArg Repair.unrecorded hrepair,
      congrArg Repair.cells hrepair, congrArg Repair.lanes hrepair, congrArg Repair.rows hrepair,
      congrArg Repair.slots hrepair, ⟨more, ?replies⟩, ?bind, by rw [hunit], by rw [hunit],
      hoffer.comp.trans (atTake_comp ..), (congrArg Repair.changes hrepair).trans rfl, hoffer.track.trans (atTake_track ..),
      hoffer.corr.trans (atTake_corr ..), hoffer.ctl.trans (atTake_ctl ..), hoffer.store.trans (atTake_store ..),
      hoffer.scan.trans (atTake_scan ..), by simpa using hoffer.sense, hoffer.link, hoffer.straps.trans (atTake_straps ..)⟩
    case replies => simpa [State.replying] using hmore.symm
    case bind =>
      intro b hb hstage
      rw [← ht]
      exact offerReplies_of_bindEnded (by simp [clearedRepair, hb, abortBind_of_inProgress hstage]) rfl

end Sys2Proof.Machine

/-! GET_PARAM: which ids are known and what the reply says of the first unknown one (R169). -/

namespace Sys2Proof.Machine

/-! ## The parameter ids (R168) -/

/-- The known ids are 0x01 to 0x14. -/
theorem paramValue_isNone_iff (p : Params) (id : Nat) :
    (paramValue p id).isNone = true ↔ id = 0 ∨ 0x14 < id := by
  unfold paramValue
  split
  case h_21 =>
    simp only [Option.isNone_none, true_iff, imp_false] at *
    omega
  all_goals simp

theorem paramValue_isNone_eq_false {p : Params} {id : Nat} (h : 1 ≤ id ∧ id ≤ 0x14) :
    (paramValue p id).isNone = false := by
  rw [Bool.eq_false_iff, ne_eq, paramValue_isNone_iff]
  omega

/-- The index of the first unknown id, none where every id is known; `paramsGot_addressed` says where the reply has it. -/
def firstUnknown (p : Params) (ids : List Byte) : Option Nat :=
  ids.findIdx? fun i => (paramValue p i.toNat).isNone

theorem firstUnknown_eq_none {p : Params} {ids : List Byte} (h : ∀ i ∈ ids, 1 ≤ i.toNat ∧ i.toNat ≤ 0x14) :
    firstUnknown p ids = none :=
  List.findIdx?_eq_none_iff.mpr fun i hi => paramValue_isNone_eq_false (h i hi)

theorem firstUnknown_eq_some {p : Params} {ids : List Byte} {n : Nat} (hn : n < ids.length)
    (hbad : ids[n].toNat = 0 ∨ 0x14 < ids[n].toNat)
    (hbefore : ∀ m (hm : m < n), 1 ≤ ids[m].toNat ∧ ids[m].toNat ≤ 0x14) :
    firstUnknown p ids = some n :=
  List.findIdx?_eq_some_iff_getElem.mpr ⟨hn, (paramValue_isNone_iff p _).mpr hbad,
    fun m hm => by simp [paramValue_isNone_eq_false (hbefore m hm)]⟩

/-! ## The request (R169) -/

theorem exec_getParam_dispatched {q : Request} {s : State} (h : Dispatched kGetParam q s) :
    exec (.getParam q) s = .next (paramsGot q (atTake kGetParam q s)) :=
  request_dispatched (fun _ => paramsGot q) h

/-- The reply is FIELD with the index of the first unknown id where there is one, else OK. -/
theorem paramsGot_addressed {q : Request} (haddr : q.broadcast = false) (s : State) :
    paramsGot q s = s.replying (replyOf kGetParam q (if (firstUnknown s.unit.params q.payload).isSome then 4 else 0)
      (optByte (firstUnknown s.unit.params q.payload)
        :: (q.payload.map fun i => le16 ((paramValue s.unit.params i.toNat).getD 0)).flatten)) := by
  simp only [paramsGot, paramContent, firstUnknown, answer_addressed haddr, apply_ite statusByte, List.findIdx?_isSome]
  rfl

/-- Settles O22: the table of codes is read off `paramValue`; the status and the index of the reply both follow from the first
unknown id of the payload, of which there is none when every id is in 0x01..0x14. -/
theorem getParamReturnsStoredValues : Obligations.GetParamReturnsStoredValues := by
  unfold Obligations.GetParamReturnsStoredValues
  constructor
  · intro p
    cases hp : p.policy <;> simp [List.range_succ, paramValue, policyByte, hp]
  · intro q s hdisp
    rw [exec_getParam_dispatched hdisp, paramsGot_addressed (hdisp.addressed rfl), atTake_unit]
    refine ⟨_, _, rfl, fun hknown => ?known, fun n hn hbad hbefore => ?unknown⟩
    case known => simp [firstUnknown_eq_none hknown, optByte]
    case unknown => simp [firstUnknown_eq_some hn hbad hbefore, optByte, byteOf]

end Sys2Proof.Machine

/-! The Message Unit after each reset (R175). -/

namespace Sys2Proof.Machine

/-- A power-on or link reset leaves no reply, no notice and every parameter at its default (R167, R175). -/
theorem hardReset_unit (straps : BitVec 2) (cause : ResetCause) (inReset : Bool) (sample : Int) (fault : Bool) (s : State) :
    (hardReset straps cause inReset sample fault s).unit = ⟨[], false, .default, .all false, 0⟩ := rfl

/-- A soft reset keeps the parameters, which the application of the waiting changes leaves as they were (R174, R175). -/
theorem softReset_unit (reading : Int) (s : State) :
    (softReset reading s).unit = ⟨[], false, s.unit.params, .all false, 0⟩ := by
  rw [← (ListFrame.applyChangesAt 0 s).params]
  rfl

/-- The end of an addressed RESET's reply brings the soft reset (R174). -/
theorem exec_upTransmitEnd_of_resetReply {s : State} {w : Wire} (reading : Int) (h : s.link.upTx = .own w true) :
    exec (.upTransmitEnd reading) s = .next (softReset reading (s.withLink { s.link with upTx := .idle })) := by
  simp only [exec, execUpTransmitEnd, h]

/-- A broadcast RESET brings the soft reset at its take (R174). -/
theorem exec_reset_broadcast {q : Request} {s : State} (reading : Int) (h : Dispatched kReset q s)
    (hq : q.broadcast = true) : exec (.reset q reading) s = .next (softReset reading (atTake kReset q s)) := by
  have hexec : exec (.reset q reading) s = .next (resetTaken q reading (atTake kReset q s)) :=
    request_dispatched (fun _ => resetTaken q reading) h
  rw [hexec, resetTaken, if_pos hq]

/-- Settles O8: each of the four events ends in one of the two kinds of reset, whose Message Unit the lemmas above give. -/
theorem messageUnitAfterEachReset : Obligations.MessageUnitAfterEachReset := by
  unfold Obligations.MessageUnitAfterEachReset
  constructor
  · rintro straps reading s c (rfl | rfl)
    · exact ⟨_, rfl, hardReset_unit ..⟩
    · exact ⟨_, rfl, (State.withLink_unit ..).trans (hardReset_unit ..)⟩
  · rintro q reading s c (⟨rfl, w, hw⟩ | ⟨rfl, hdisp, hq⟩)
    · exact ⟨_, exec_upTransmitEnd_of_resetReply reading hw, softReset_unit ..⟩
    · exact ⟨_, exec_reset_broadcast reading hdisp hq, by rw [softReset_unit, atTake_unit]⟩

end Sys2Proof.Machine

/-! The laws of the part as relations between two states: what a change of one block must do for the part to keep them.
`Keeps` is what every command does; `Steady` is what every operation does that leaves the Mode Controller alone. The
statements StepKeeps... are read off them. -/

namespace Sys2Proof.Machine

-- One theorem at a time: elaborated at once, they wait on each other and each holds a thread.
set_option Elab.async false

/-- The Scan Driver is in the state that R10 gives for the drive enable it has been told of and the tests. `DriveLaw` is this
for the drive enable of R9; inside a command the two may differ until the Scan Driver is told. -/
structure DriveAs (enable : Bool) (s : State) : Prop where
  state : s.scan.state = scanStateFor enable (testDriving s).isSome
  phase : s.scan.phase.isSome = true ↔ s.scan.state = .scanning

theorem driveLaw_iff (s : State) : DriveLaw s ↔ DriveAs (driveEnable s) s :=
  ⟨fun ⟨hstate, hphase⟩ => ⟨hstate, hphase⟩, fun ⟨hstate, hphase⟩ => ⟨hstate, hphase⟩⟩

/-- In STANDBY nothing is in progress, but for a decision `w` that the entry to STANDBY may have found waiting and has not
taken yet. With no such decision this is `StandbyQuiet`. -/
structure QuietBut (w : Option Waiting) (s : State) : Prop where
  test    : s.ctl.mode = .standby → s.sense.test = none
  window  : s.ctl.mode = .standby → s.sense.windowOpen = false
  check   : s.ctl.mode = .standby → s.corr.check = none
  changes : s.ctl.mode = .standby → s.repair.changes = []
  waiting : s.ctl.mode = .standby → s.repair.waiting = none ∨ s.repair.waiting = w
  spots   : s.ctl.mode = .standby → ∀ e ∈ s.sense.spots, e.status ≠ .waiting

theorem standbyQuiet_iff (s : State) : StandbyQuiet s ↔ QuietBut none s :=
  ⟨fun h => { h with waiting := fun m => .inl (h.waiting m) }, fun h => { h with waiting := fun m => (h.waiting m).elim id id }⟩

/-- Outside STANDBY its law asks nothing. -/
theorem QuietBut.ofAwake {w : Option Waiting} {s : State} (h : s.ctl.mode ≠ .standby) : QuietBut w s := by
  constructor <;> exact fun m => absurd m h

/-- A test in flight is the sign of another mode than STANDBY. -/
theorem QuietBut.awake {w : Option Waiting} {s : State} (h : QuietBut w s) (htest : s.sense.test.isSome = true) :
    s.ctl.mode ≠ .standby := fun m => by simp [h.test m] at htest

/-- The laws that do not read the Mode Controller pass from s to t, and the queue of commands is left alone. -/
structure Keeps (s t : State) : Prop where
  pending : t.pending = s.pending
  caps    : Capacities s → Capacities t
  params  : ParamRanges s.unit.params → ParamRanges t.unit.params
  records : OneRecordPerTarget s → OneRecordPerTarget t
  tables  : TableRanges s → TableRanges t
  counts  : CountLimits s → CountLimits t

theorem Keeps.refl (s : State) : Keeps s s := ⟨rfl, id, id, id, id, id⟩

theorem Keeps.trans {s t u : State} (h : Keeps s t) (k : Keeps t u) : Keeps s u where
  pending := k.pending.trans h.pending
  caps := k.caps ∘ h.caps
  params := k.params ∘ h.params
  records := k.records ∘ h.records
  tables := k.tables ∘ h.tables
  counts := k.counts ∘ h.counts

/-- Besides, the Mode Controller is as it was, STANDBY stays quiet and the Scan Driver stays where R10 has it. -/
structure Steady (s t : State) : Prop extends Keeps s t where
  ctl   : t.ctl = s.ctl
  quiet : ∀ w, QuietBut w s → QuietBut w t
  drive : ∀ e, DriveAs e s → DriveAs e t

theorem Steady.refl (s : State) : Steady s s := ⟨.refl s, rfl, fun _ => id, fun _ => id⟩

theorem Steady.trans {s t u : State} (h : Steady s t) (k : Steady t u) : Steady s u where
  toKeeps := h.toKeeps.trans k.toKeeps
  ctl := k.ctl.trans h.ctl
  quiet w := k.quiet w ∘ h.quiet w
  drive e := k.drive e ∘ h.drive e

/-- What every command does: each law of the part passes from s to t. -/
structure Lawful (s t : State) : Prop extends Keeps s t where
  timers : TimerLaw s → TimerLaw t
  quiet  : StandbyQuiet s → StandbyQuiet t
  drive  : DriveLaw s → DriveLaw t

theorem Lawful.trans {s t u : State} (h : Lawful s t) (k : Lawful t u) : Lawful s u where
  toKeeps := h.toKeeps.trans k.toKeeps
  timers := k.timers ∘ h.timers
  quiet := k.quiet ∘ h.quiet
  drive := k.drive ∘ h.drive

/-- A command completes, and does what every command does. -/
def Completes (s : State) (r : Result) : Prop := ∃ t, r = .next t ∧ Lawful s t

theorem Lawful.completes {s t : State} (h : Lawful s t) : Completes s (.next t) := ⟨t, rfl, h⟩

/-- The timers are the Mode Controller's. -/
theorem TimerLaw.congr {s t : State} (h : TimerLaw s) (hctl : t.ctl = s.ctl) : TimerLaw t := by
  obtain ⟨hframe, hhold, hblank, hvideo⟩ := h
  constructor <;> rw [hctl] <;> assumption

theorem driveEnable_congr {s t : State} (hctl : t.ctl = s.ctl) : driveEnable t = driveEnable s := by
  simp only [driveEnable, hctl]

theorem Steady.lawful {s t : State} (h : Steady s t) : Lawful s t where
  toKeeps := h.toKeeps
  timers k := k.congr h.ctl
  quiet k := (standbyQuiet_iff t).mpr (h.quiet _ ((standbyQuiet_iff s).mp k))
  drive k := (driveLaw_iff t).mpr (driveEnable_congr h.ctl ▸ h.drive _ ((driveLaw_iff s).mp k))

theorem Lawful.refl (s : State) : Lawful s s := (Steady.refl s).lawful

theorem Steady.completes {s t : State} (h : Steady s t) : Completes s (.next t) := h.lawful.completes

/-! ## One block at a time -/

/-- A Repair Engine in a given mode may become another: the lists stay in their bounds, the tables in their sizes and the
counts in their ranges, and in STANDBY nothing comes to wait. -/
structure RepairKept (mode : Mode) (r x : Repair) : Prop where
  changes    : r.changes.length ≤ 16 → x.changes.length ≤ 16 := by exact id
  defects    : r.defects.length ≤ 192 → x.defects.length ≤ 192 := by exact id
  records    : (r.defects.map Defect.target).Nodup → (x.defects.map Defect.target).Nodup := by exact id
  depth      : x.cells.length = r.cells.length := by rfl
  width      : ∀ n, (∀ row ∈ r.cells, row.length = n) → ∀ row ∈ x.cells, row.length = n := by exact fun _ => id
  lanes      : x.lanes.length = r.lanes.length := by rfl
  slots      : x.slots.length = r.slots.length := by rfl
  rows       : x.rows.length = r.rows.length := by rfl
  unrecorded : r.unrecorded ≤ 65535 → x.unrecorded ≤ 65535 := by exact id
  seqCounter : r.seqCounter < 65536 → x.seqCounter < 65536 := by exact id
  noChange   : mode = .standby → r.changes = [] → x.changes = [] := by exact fun _ => id
  noWait     : mode = .standby → r.changes = [] → x.waiting = none ∨ x.waiting = r.waiting := by exact fun _ _ => .inr rfl

theorem Keeps.withRepair {mode : Mode} {s : State} {x : Repair} (h : RepairKept mode s.repair x) :
    Keeps s (s.withRepair x) where
  pending := rfl
  caps k := { k with changes := h.changes k.changes, defects := h.defects k.defects }
  params := id
  records := h.records
  tables k := { k with
    cells := ⟨h.depth.trans k.cells.1, h.width _ k.cells.2⟩
    lanes := h.lanes.trans k.lanes
    slots := h.slots.trans k.slots
    rows := h.rows.trans k.rows }
  counts k := { k with unrecorded := h.unrecorded k.unrecorded, seqCounter := h.seqCounter k.seqCounter }

theorem Steady.withRepair {s : State} {x : Repair} (h : RepairKept s.ctl.mode s.repair x) : Steady s (s.withRepair x) where
  toKeeps := .withRepair h
  ctl := rfl
  quiet _ k := { k with
    changes := fun m => h.noChange m (k.changes m)
    waiting := fun m => (h.noWait m (k.changes m)).elim .inl fun hsame => (k.waiting m).imp hsame.trans hsame.trans }
  drive _ k := ⟨k.state, k.phase⟩

/-- A Message Unit may become another: the replies stay in their places, the parameters and the count in their ranges. -/
structure UnitKept (u x : MessageUnit) : Prop where
  replies : u.replies.length ≤ 8 → x.replies.length ≤ 8 := by exact id
  params  : ParamRanges u.params → ParamRanges x.params := by exact id
  defects : u.defectsSince ≤ 65535 → x.defectsSince ≤ 65535 := by exact id

theorem Steady.withUnit {s : State} {x : MessageUnit} (h : UnitKept s.unit x) : Steady s (s.withUnit x) where
  pending := rfl
  caps k := { k with replies := h.replies k.replies }
  params := h.params
  records := id
  tables k := { k with }
  counts k := { k with defects := h.defects k.defects }
  ctl := rfl
  quiet _ k := { k with }
  drive _ k := ⟨k.state, k.phase⟩

theorem Steady.withFreeUsed (s : State) (n : Nat) : Steady s (s.withFreeUsed n) where
  pending := rfl
  caps k := { k with }
  params := id
  records := id
  tables k := { k with }
  counts k := { k with }
  ctl := rfl
  quiet _ k := { k with }
  drive _ k := ⟨k.state, k.phase⟩

/-- The Suspect Tracker within its 32 records and eight places. -/
theorem Steady.withTrack {s : State} {x : Tracker} (hsuspects : s.track.suspects.length ≤ 32 → x.suspects.length ≤ 32)
    (hqueue : placesTaken s ≤ 8 → placesTaken (s.withTrack x) ≤ 8) : Steady s (s.withTrack x) where
  pending := rfl
  caps k := { k with suspects := hsuspects k.suspects, queue := hqueue k.queue }
  params := id
  records := id
  tables k := { k with }
  counts k := { k with }
  ctl := rfl
  quiet _ k := { k with }
  drive _ k := ⟨k.state, k.phase⟩

/-- A check in progress goes on or ends. -/
theorem Steady.withCorr {s : State} {x : Correlator} (h : x.check.isSome = true → s.corr.check.isSome = true) :
    Steady s (s.withCorr x) where
  pending := rfl
  caps k := { k with
    queue := by
      have hplaces := k.queue
      simp only [placesTaken, State.withCorr_track, State.withCorr_corr] at hplaces ⊢
      by_cases hx : x.check.isSome = true
      · simpa [hx, h hx] using hplaces
      · simpa [hx] using Nat.le_of_add_right_le hplaces }
  params := id
  records := id
  tables k := { k with }
  counts k := { k with }
  ctl := rfl
  quiet _ k := { k with
    check := fun m => by
      have hnone := k.check m
      cases hx : x.check with
      | none => exact hx
      | some c => simp [hnone, hx] at h }
  drive _ k := ⟨k.state, k.phase⟩

/-- A Sense Unit in a given mode may become another: the Spot Test Queue stays in its bound and the counts in their ranges,
and in STANDBY nothing comes into progress. -/
structure SenseKept (mode : Mode) (u x : SenseUnit) : Prop where
  spots    : u.spots.length ≤ 8 → x.spots.length ≤ 8 := by exact id
  sweeps   : u.sweeps ≤ 65535 → x.sweeps ≤ 65535 := by exact id
  window   : u.windowNumber < 65536 → x.windowNumber < 65536 := by exact id
  noTest   : mode = .standby → u.windowOpen = false → u.test = none → x.test = none := by exact fun _ _ => id
  noWindow : mode = .standby → u.windowOpen = false → x.windowOpen = false := by exact fun _ => id
  noSpot   : mode = .standby → (∀ e ∈ u.spots, e.status ≠ .waiting) → ∀ e ∈ x.spots, e.status ≠ .waiting := by
    exact fun _ => id

theorem Keeps.withSense {mode : Mode} {s : State} {x : SenseUnit} (h : SenseKept mode s.sense x) :
    Keeps s (s.withSense x) where
  pending := rfl
  caps k := { k with spots := h.spots k.spots }
  params := id
  records := id
  tables k := { k with }
  counts k := { k with sweeps := h.sweeps k.sweeps, window := h.window k.window }

theorem testDriving_isSome (s : State) : (testDriving s).isSome = (s.sense.test.bind TestRecord.driver).isSome := by
  unfold testDriving; cases s.sense.test <;> simp

theorem Steady.withSense {s : State} {x : SenseUnit} (h : SenseKept s.ctl.mode s.sense x)
    (hdrive : x.test.bind TestRecord.driver = s.sense.test.bind TestRecord.driver := by rfl) :
    Steady s (s.withSense x) where
  toKeeps := .withSense h
  ctl := rfl
  quiet _ k := { k with
    test := fun m => h.noTest m (k.window m) (k.test m)
    window := fun m => h.noWindow m (k.window m)
    spots := fun m => h.noSpot m (k.spots m) }
  drive _ k := by
    have htest : (testDriving (s.withSense x)).isSome = (testDriving s).isSome := by
      rw [testDriving_isSome, testDriving_isSome, State.withSense_sense, hdrive]
    exact ⟨htest ▸ k.state, k.phase⟩

/-- The Link Ports and Router may become others: the buffers stay in their bounds, the counters and the addresses in their
ranges. -/
structure LinkKept (l x : Link) : Prop where
  upBuf       : l.upBuf.length ≤ 2 → x.upBuf.length ≤ 2 := by exact id
  downBuf     : l.downBuf.length ≤ 2 → (l.upRx = .header → l.downBuf.length < 2) → x.downBuf.length ≤ 2 := by
    exact fun h _ => h
  header      : (l.upRx = .header → l.downBuf.length < 2) → x.upRx = .header → x.downBuf.length < 2 := by exact id
  passBuf     : l.passBuf.length ≤ 4 → x.passBuf.length ≤ 4 := by exact id
  up          : PortLimits l.upCounts → PortLimits x.upCounts := by exact id
  down        : PortLimits l.downCounts → PortLimits x.downCounts := by exact id
  subordinate : l.subordinate ≤ 254 → l.address ≤ l.subordinate → x.subordinate ≤ 254 ∧ x.address ≤ x.subordinate := by
    exact And.intro

theorem Steady.withLink {s : State} {x : Link} (h : LinkKept s.link x) : Steady s (s.withLink x) where
  pending := rfl
  caps k := { k with
    upBuf := h.upBuf k.upBuf
    downBuf := h.downBuf k.downBuf k.header
    header := h.header k.header
    passBuf := h.passBuf k.passBuf }
  params := id
  records := id
  tables k := { k with }
  counts k := { k with
    up := h.up k.up
    down := h.down k.down
    subordinate := (h.subordinate k.subordinate k.address).1
    address := (h.subordinate k.subordinate k.address).2 }
  ctl := rfl
  quiet _ k := { k with }
  drive _ k := ⟨k.state, k.phase⟩

/-- An Output Composer within its ranges and sizes. -/
theorem Steady.withComp {s : State} {x : Composer}
    (hpulses : CodesFit s.comp.pulses ∧ Shaped s s.comp.pulses → CodesFit x.pulses ∧ Shaped s x.pulses)
    (hgains : (∀ g ∈ s.comp.gains, 256 ≤ g ∧ g ≤ 2047) ∧ s.comp.gains.length = 288 * depth s →
      (∀ g ∈ x.gains, 256 ≤ g ∧ g ≤ 2047) ∧ x.gains.length = 288 * depth s) : Steady s (s.withComp x) where
  pending := rfl
  caps k := { k with }
  params := id
  records := id
  tables k := { k with pulses := hpulses k.pulses, gains := hgains k.gains }
  counts k := { k with }
  ctl := rfl
  quiet _ k := { k with }
  drive _ k := ⟨k.state, k.phase⟩

/-- A Frame Store may become another: its buffers keep their size and their codes their range, its counts their ranges. -/
structure StoreKept (s : State) (x : FrameStore) : Prop where
  buffers    : CodesFit s.store.fill ∧ Shaped s s.store.fill → CodesFit s.store.display ∧ Shaped s s.store.display →
    (CodesFit x.fill ∧ Shaped s x.fill) ∧ CodesFit x.display ∧ Shaped s x.display := by exact And.intro
  rowFlags   : x.rowFlags.length = s.store.rowFlags.length := by rfl
  skipped    : s.store.skipped ≤ 65535 → x.skipped ≤ 65535 := by exact id
  incomplete : s.store.incomplete ≤ 65535 → x.incomplete ≤ 65535 := by exact id
  badRow     : s.store.badRow ≤ 65535 → x.badRow ≤ 65535 := by exact id
  frameCount : s.store.frameCount < 4294967296 → x.frameCount < 4294967296 := by exact id
  lastNumber : s.store.lastNumber < 65536 → x.lastNumber < 65536 := by exact id

theorem Steady.withStore {s : State} {x : FrameStore} (h : StoreKept s x) : Steady s (s.withStore x) where
  pending := rfl
  caps k := { k with }
  params := id
  records := id
  tables k := { k with
    fill := (h.buffers k.fill k.display).1
    display := (h.buffers k.fill k.display).2
    rowFlags := h.rowFlags.trans k.rowFlags }
  counts k := { k with
    skipped := h.skipped k.skipped
    incomplete := h.incomplete k.incomplete
    badRow := h.badRow k.badRow
    frameCount := h.frameCount k.frameCount
    lastNumber := h.lastNumber k.lastNumber }
  ctl := rfl
  quiet _ k := { k with }
  drive _ k := ⟨k.state, k.phase⟩

/-- A change of the Scan Driver alone keeps the trace switches to the lanes. -/
theorem Keeps.withScan {s : State} {x : ScanDriver} (h : s.scan.traces.length = 144 → x.traces.length = 144) :
    Keeps s (s.withScan x) where
  pending := rfl
  caps k := { k with }
  params := id
  records := id
  tables k := { k with traces := h k.traces }
  counts k := { k with }

/-- The laws of `Keeps` do not read the Mode Controller. -/
theorem Keeps.withCtl (s : State) (x : ModeCtl) : Keeps s (s.withCtl x) where
  pending := rfl
  caps k := { k with }
  params := id
  records := id
  tables k := { k with }
  counts k := { k with }

end Sys2Proof.Machine

/-! The repair maps, the lists and the fault path keep the laws: one lemma an operation, in the order of the model. -/

namespace Sys2Proof.Machine

-- One theorem at a time: elaborated at once, they wait on each other and each holds a thread.
set_option Elab.async false

theorem satAdd_le (c n : Nat) : satAdd c n ≤ 65535 := Nat.min_le_right _ _

theorem Steady.foldl {α : Type} (f : State → α → State) (h : ∀ t a, Steady t (f t a)) (xs : List α) (s : State) :
    Steady s (xs.foldl f s) :=
  List.foldlRecOn (motive := Steady s) xs f (.refl s) fun _ ht a _ => ht.trans (h _ a)

theorem Steady.raise (k : NoticeKind) (s : State) : Steady s (raise k s) := raise_eq k s ▸ .withUnit {}

theorem Steady.setHealth (x : DieRef) (h : Health) (s : State) : Steady s (Machine.setHealth x h s) :=
  .withRepair { depth := cellSet_length .., width := cellSet_rows _ _ _ _ }

theorem Steady.setSlot (k : Nat) (x : SlotState) (s : State) : Steady s (Machine.setSlot k x s) :=
  .withRepair { slots := List.length_set .. }

/-! ## The Pending Change List (R111, R112) -/

theorem length_slotsAfter (xs : List SlotState) (l : Nat) (st : LaneState) (disp : Disposition) (frame : Nat) :
    (slotsAfter xs l st disp frame).length = xs.length := List.length_mapIdx

theorem Steady.applyChange (frame : Nat) (s : State) (c : Change) : Steady s (Machine.applyChange frame s c) := by
  cases c with
  | cell r l st => exact .withRepair { depth := cellSet_length .., width := cellSet_rows _ _ _ _ }
  | lane l st disp =>
    have hlane : Steady s (s.withRepair { s.repair with
        slots := slotsAfter s.repair.slots l st disp frame, lanes := s.repair.lanes.set l st }) :=
      .withRepair { lanes := List.length_set .., slots := length_slotsAfter .. }
    simp only [Machine.applyChange]
    split
    · exact hlane.trans (.raise _ _)
    · exact hlane
  | row r st =>
    have hrow : Steady s (s.withRepair { s.repair with rows := s.repair.rows.set r st }) :=
      .withRepair { rows := List.length_set .. }
    simp only [Machine.applyChange]
    split
    · exact hrow
    · exact hrow.trans (.raise _ _)
  | removal key seq =>
    exact .withRepair
      { defects := (List.length_filter_le _ _).trans
        records := List.Nodup.sublist (List.filter_sublist.map _) }

theorem Steady.applyChangesAt (frame : Nat) (s : State) : Steady s (Machine.applyChangesAt frame s) :=
  (Steady.foldl _ (applyChange frame) s.repair.changes s).trans
    (.withRepair { changes := fun _ => Nat.zero_le _, noChange := fun _ _ => rfl })

theorem Steady.zeroVictims (s : State) : Steady s (Machine.zeroVictims s) := by
  refine .withComp ?_ id
  rintro ⟨hcodes, hdepth, hwidth⟩
  refine ⟨?_, List.length_mapIdx.trans hdepth, ?_⟩ <;> intro row hrow <;>
    obtain ⟨r, hr, rfl⟩ := List.mem_mapIdx.mp hrow
  · intro x hx
    obtain ⟨l, hl, rfl⟩ := List.mem_mapIdx.mp hx
    split
    · exact hcodes _ (List.getElem_mem hr) _ (List.getElem_mem hl)
    · exact Nat.zero_le _
  · exact List.length_mapIdx.trans (hwidth _ (List.getElem_mem hr))

theorem Steady.applyChanges (s : State) : Steady s (Machine.applyChanges s) := by
  simp only [Machine.applyChanges]
  split
  · exact .applyChangesAt _ _
  · exact (Steady.applyChangesAt _ _).trans (.zeroVictims _)

@[simp] theorem applyChange_waiting (frame : Nat) (s : State) (c : Change) :
    (applyChange frame s c).repair.waiting = s.repair.waiting := by
  cases c <;> simp only [applyChange] <;> (try split) <;> simp

@[simp] theorem applyChangesAt_waiting (frame : Nat) (s : State) :
    (applyChangesAt frame s).repair.waiting = s.repair.waiting :=
  List.foldlRecOn (motive := fun t : State => t.repair.waiting = s.repair.waiting) _ _ rfl
    fun _ ht c _ => (applyChange_waiting frame _ c).trans ht

@[simp] theorem applyChanges_waiting (s : State) : (applyChanges s).repair.waiting = s.repair.waiting := by
  simp only [applyChanges]
  split <;> simp [zeroVictims]

/-- Entries that have room are added; in STANDBY they are applied, and none is left (R111, R112). -/
theorem Steady.addChanges {cs : List Change} {s : State} (hroom : changeRoom cs.length s = true) :
    Steady s (Machine.addChanges cs s) := by
  have hlength : (s.repair.changes ++ cs).length ≤ 16 := by simpa [changeRoom] using hroom
  by_cases hmode : s.ctl.mode = .standby
  · have hframe := ListFrame.addChanges cs s
    have hadd : Machine.addChanges cs s
        = Machine.applyChanges (s.withRepair { s.repair with changes := s.repair.changes ++ cs }) := by
      simp [Machine.addChanges, hmode]
    have hkeeps : Keeps s (s.withRepair { s.repair with changes := s.repair.changes ++ cs }) :=
      .withRepair (mode := .run) { changes := fun _ => hlength, noChange := nofun, noWait := nofun }
    rw [hadd] at hframe ⊢
    have happly := Steady.applyChanges (s.withRepair { s.repair with changes := s.repair.changes ++ cs })
    refine ⟨hkeeps.trans happly.toKeeps, hframe.ctl, fun w k => ?_, fun e ⟨h, h'⟩ => happly.drive e ⟨h, h'⟩⟩
    constructor
    · rw [hframe.ctl, hframe.sense]; exact k.test
    · rw [hframe.ctl, hframe.sense]; exact k.window
    · rw [hframe.ctl, hframe.corr]; exact k.check
    · exact fun _ => applyChanges_changes _
    · rw [hframe.ctl, applyChanges_waiting]; exact k.waiting
    · rw [hframe.ctl, hframe.sense]; exact k.spots
  · rw [addChanges_waits cs s hmode]
    exact .withRepair { changes := fun _ => hlength, noChange := fun m => absurd m hmode, noWait := fun m => absurd m hmode }

/-! ## Defect List records (R115, R131, R132) -/

theorem length_listWith_le {s : State} {x : Defect} (hroom : recordRoom s x.target = true)
    (h : s.repair.defects.length ≤ 192) :
    (s.repair.defects.filter (fun y : Defect => !(y.target == x.target)) ++ [{ x with seq := s.repair.seqCounter }] : List Defect).length ≤ 192 := by
  have hroom : (recordOf s x.target).isSome = true ∨ s.repair.defects.length < 192 := by
    simpa only [recordRoom, Bool.or_eq_true, decide_eq_true_eq] using hroom
  simp only [List.length_append, List.length_singleton]
  rcases hroom with hheld | hfew
  · obtain ⟨y, hy, htarget⟩ : ∃ y ∈ s.repair.defects, (y.target == x.target) = true := by simpa [recordOf] using hheld
    have hless : (s.repair.defects.filter fun y => !(y.target == x.target)).length < s.repair.defects.length :=
      List.length_filter_lt_length_iff_exists.mpr ⟨y, hy, by simp [htarget]⟩
    omega
  · have hle := List.length_filter_le (fun y : Defect => !(y.target == x.target)) s.repair.defects
    omega

theorem nodup_listWith {xs : List Defect} (x : Defect) (n : Nat) (h : (xs.map Defect.target).Nodup) :
    ((xs.filter (fun y : Defect => !(y.target == x.target)) ++ [{ x with seq := n }] : List Defect).map Defect.target).Nodup := by
  rw [List.map_append, List.nodup_append]
  refine ⟨h.sublist (List.filter_sublist.map _), by simp, ?_⟩
  simp only [List.mem_map, List.mem_filter, List.map_cons, List.map_nil, List.mem_singleton]
  rintro _ ⟨y, ⟨-, hy⟩, rfl⟩ _ rfl
  simpa using hy

/-- A record with a place joins the list in place of any of its target. -/
theorem Steady.addRecord {x : Defect} {s : State} (hroom : recordRoom s x.target = true) :
    Steady s (Machine.addRecord x s) :=
  .withRepair
    { defects := length_listWith_le hroom
      records := nodup_listWith x _
      seqCounter := fun _ => Nat.mod_lt _ (by decide) }

theorem Steady.countDefect (s : State) : Steady s (Machine.countDefect s) :=
  countDefect_eq s ▸ .withUnit { defects := fun _ => Nat.min_le_right _ _ }

theorem Steady.decisionRecord {t : Target} {s : State} (hroom : recordRoom s t = true) (k : DefectKind) (a : DefectAction)
    (slot : Option Nat) (verifyFailed hotSeen : Bool) : Steady s (Machine.decisionRecord t k a slot verifyFailed hotSeen s) :=
  (Steady.addRecord hroom).trans (.countDefect _)

theorem Steady.leaveUnrecorded (s : State) : Steady s (Machine.leaveUnrecorded s) :=
  (Steady.withRepair { unrecorded := fun _ => satAdd_le _ _ }).trans (.raise _ _)

/-! ## The held line and the removals (R82 to R86) -/

theorem length_renumber (xs : List Suspect) : (renumber xs).length = xs.length := List.length_map _

theorem length_renumber_filter_le (p : Suspect → Bool) (xs : List Suspect) : (renumber (xs.filter p)).length ≤ xs.length :=
  (length_renumber _).trans_le (List.length_filter_le _ _)

/-- The places taken follow the length of the queue. -/
theorem placesTaken_withTrack (s : State) (x : Tracker) :
    placesTaken (s.withTrack x) + s.track.queue.length = placesTaken s + x.queue.length := by
  have hplaces : placesTaken (s.withTrack x) = x.queue.length + (if s.corr.check.isSome then 1 else 0) := rfl
  rw [hplaces, placesTaken]
  omega

/-- A descriptor joins the queue where a place is free (R81). -/
theorem Steady.joinQueue {s : State} (hplace : placesTaken s < 8) {xs : List Suspect}
    (hxs : xs.length ≤ s.track.suspects.length) (d : Descriptor) :
    Steady s (s.withTrack ⟨xs, s.track.queue ++ [d]⟩) :=
  .withTrack hxs.trans fun _ => by
    have hplaces := placesTaken_withTrack s ⟨xs, s.track.queue ++ [d]⟩
    simp only [List.length_append, List.length_singleton] at hplaces
    omega

theorem Steady.fillOnce (s : State) : Steady s (Machine.fillOnce s) := by
  unfold Machine.fillOnce
  split
  · next hplace =>
    split
    · split
      · exact .joinQueue hplace (length_renumber_filter_le _ _) _
      · exact .refl _
    · exact .refl _
  · exact .refl _

theorem Steady.fillHeld (s : State) : Steady s (Machine.fillHeld s) := .foldl _ (fun t _ => .fillOnce t) _ _

theorem Steady.removeDies (p : DieRef → Bool) (s : State) : Steady s (Machine.removeDies p s) := by
  refine (Steady.withTrack (length_renumber_filter_le _ _).trans fun hplaces => ?_).trans (.fillHeld _)
  have hle := List.length_filter_le (fun x : Descriptor => !p x.die) s.track.queue
  have hsame := placesTaken_withTrack s
    { suspects := renumber (s.track.suspects.filter fun x => !p x.die), queue := s.track.queue.filter fun x => !p x.die }
  dsimp only at hsame
  omega

/-- The held line moves in the Suspect Tracker alone. -/
theorem fillOnce_eq (s : State) : fillOnce s = s.withTrack (fillOnce s).track := by
  unfold fillOnce; repeat' split
  all_goals rfl

theorem fillHeld_eq (s : State) : fillHeld s = s.withTrack (fillHeld s).track :=
  List.foldlRecOn (motive := fun t => t = s.withTrack t.track) _ _ rfl
    fun t ht _ _ => by rw [fillOnce_eq t, State.withTrack_track, ht, State.withTrack_withTrack]

@[simp] theorem fillHeld_repair (s : State) : (fillHeld s).repair = s.repair := by
  rw [fillHeld_eq, State.withTrack_repair]
@[simp] theorem fillHeld_corr (s : State) : (fillHeld s).corr = s.corr := by
  rw [fillHeld_eq, State.withTrack_corr]
@[simp] theorem fillHeld_unit (s : State) : (fillHeld s).unit = s.unit := by
  rw [fillHeld_eq, State.withTrack_unit]

/-- A removal moves the Suspect Tracker alone. -/
theorem removeDies_eq (p : DieRef → Bool) (s : State) : removeDies p s = s.withTrack (removeDies p s).track := by
  rw [removeDies, fillHeld_eq, State.withTrack_track, State.withTrack_withTrack]

@[simp] theorem removeDies_repair (p : DieRef → Bool) (s : State) : (removeDies p s).repair = s.repair := by
  rw [removeDies_eq, State.withTrack_repair]
@[simp] theorem removeDies_corr (p : DieRef → Bool) (s : State) : (removeDies p s).corr = s.corr := by
  rw [removeDies_eq, State.withTrack_corr]
@[simp] theorem removeDies_unit (p : DieRef → Bool) (s : State) : (removeDies p s).unit = s.unit := by
  rw [removeDies_eq, State.withTrack_unit]

/-! ## Results at the Suspect Tracker (R73 to R80) -/

theorem Steady.setSuspect (x : Suspect) (s : State) : Steady s (Machine.setSuspect x s) :=
  .withTrack (by simp) id

theorem Steady.dropSuspects (p : Suspect → Bool) (s : State) :
    Steady s (s.withTrack { s.track with suspects := s.track.suspects.filter p }) :=
  .withTrack (List.length_filter_le _ _).trans id

theorem Steady.confirm (x : Suspect) (k : FaultKind) (s : State) : Steady s (Machine.confirm x k s) := by
  unfold Machine.confirm
  split
  · next hplace => exact .joinQueue hplace (List.length_filter_le _ _) _
  · exact (Steady.setSuspect _ _).trans (.raise _ _)

theorem Steady.applyResult (d : DieRef) (r : TestResult) (window : Nat) (s : State) :
    Steady s (Machine.applyResult d r window s).1 := by
  unfold Machine.applyResult
  split
  · split
    · exact .refl _
    · split
      · exact .raise _ _
      · next hroom =>
        split
        · refine .withTrack (fun _ => ?_) id
          have hless : s.track.suspects.length < 32 := Nat.lt_of_not_le hroom
          simpa using hless
        · exact .refl _
  · split
    · exact .setSuspect _ _
    · split
      · exact .setSuspect _ _
      · dsimp only
        split
        · exact .dropSuspects _ _
        · exact .setSuspect _ _
      · dsimp only
        split
        · exact .confirm _ _ _
        · exact .setSuspect _ _
      · dsimp only
        split
        · exact .confirm _ _ _
        · exact .setSuspect _ _

theorem Steady.notePass (d : DieRef) (s : State) : Steady s (Machine.notePass d s) := by
  unfold Machine.notePass
  split
  · exact .setHealth _ _ _
  · exact .refl _

theorem Steady.forgetWindow (n : Nat) (s : State) : Steady s (Machine.forgetWindow n s) :=
  .withTrack (by simp) id

/-! ## Decisions (R115 to R121) -/

/-- A decision waits only while the Pending Change List is full, which it never is in STANDBY. -/
theorem Steady.wait (w : Waiting) {s : State} (hfull : changeRoom 1 s = false) : Steady s (Machine.wait w s) :=
  .withRepair { noWait := fun _ hnone => by simp [changeRoom, hnone] at hfull }

theorem Steady.cellEffects {x : DieRef} {s : State} (hroom : recordRoom s (.die x.row x.lane x.die) = true)
    (k : FaultKind) (hot : Bool) {choice : DefectAction × Option CellState}
    (hchanges : choice.2.isSome = true → changeRoom 1 s = true) : Steady s (Machine.cellEffects x k hot choice s) := by
  have hremoved : Steady s (dieRemoval x (Machine.decisionRecord (.die x.row x.lane x.die) k.defect choice.1 none false hot
      (Machine.setHealth x k.health s))) :=
    ((Steady.setHealth x k.health s).trans
      (.decisionRecord (s := Machine.setHealth x k.health s) hroom _ _ _ _ _)).trans (.removeDies _ _)
  unfold Machine.cellEffects
  dsimp only
  split
  · next st hst =>
    refine hremoved.trans (.addChanges ?_)
    have hone := hchanges (by simp [hst])
    simpa [changeRoom, dieRemoval, Machine.decisionRecord, Machine.countDefect, Machine.addRecord] using hone
  · exact hremoved

theorem Steady.decideCell (auto : Bool) (x : DieRef) (k : FaultKind) (hot : Bool) (s : State) :
    Steady s (Machine.decideCell auto x k hot s) := by
  unfold Machine.decideCell
  split
  · exact .leaveUnrecorded _
  · next hroom =>
    split
    · next hfull => exact .wait _ (by simp only [Bool.and_eq_true, Bool.not_eq_true'] at hfull; exact hfull.2)
    · next hchanges => exact .cellEffects (by simpa using hroom) _ _ (by simpa using hchanges)

theorem Steady.rowRecord {r : Nat} {s : State} (hroom : recordRoom s (.row r) = true) (a : DefectAction) (hot : Bool) :
    Steady s (rowRemoval r (Machine.decisionRecord (.row r) .rowDead a none false hot s)) :=
  (Steady.decisionRecord hroom _ _ _ _ _).trans (.removeDies _ _)

theorem Steady.decideRow (auto : Bool) (r : Nat) (hot : Bool) (s : State) : Steady s (Machine.decideRow auto r hot s) := by
  unfold Machine.decideRow
  split
  · exact .leaveUnrecorded _
  · next hroom =>
    have hrecord := Steady.rowRecord (s := s) (r := r) (by simpa using hroom)
    split
    · split
      · next hchanges =>
        refine (hrecord _ hot).trans (.addChanges ?_)
        simpa [changeRoom, rowRemoval, Machine.decisionRecord, Machine.countDefect, Machine.addRecord] using hchanges
      · next hfull => exact .wait _ (by simpa using hfull)
    · exact hrecord _ hot

theorem ParamRanges.withPolicy {p : Params} (h : ParamRanges p) (x : Policy) : ParamRanges { p with policy := x } := { h with }

theorem Steady.suspendPolicy (s : State) : Steady s (Machine.suspendPolicy s) :=
  .withUnit { params := fun h => h.withPolicy _ }

theorem Steady.decideWide (x : DieRef) (hot : Bool) (s : State) : Steady s (Machine.decideWide x hot s) := by
  unfold Machine.decideWide
  split
  · exact .leaveUnrecorded _
  · next hroom =>
    exact (((Steady.decisionRecord (by simpa using hroom) _ _ _ _ _).trans (.removeDies _ _)).trans
      (.suspendPolicy _)).trans (.raise _ _)

theorem Steady.adviseLane (l : Nat) (hot : Bool) (s : State) : Steady s (Machine.adviseLane l hot s) := by
  unfold Machine.adviseLane
  split
  · next hroom => exact .decisionRecord hroom _ _ _ _ _
  · exact .leaveUnrecorded _

theorem Steady.freeReserved (l : Nat) (ks : List Nat) (s : State) : Steady s (Machine.freeReserved l ks s) :=
  .withRepair { slots := List.length_mapIdx }

theorem Steady.blame (ks : List Nat) (s : State) : Steady s (Machine.blame ks s) := by
  rw [blame_eq]
  exact (Steady.withRepair { slots := List.length_mapIdx }).trans (.withUnit {})

theorem Steady.finishRecord {l : Nat} {s : State} (hroom : recordRoom s (.lane l) = true) (hot : Bool) (f : LaneFinish) :
    Steady s (Machine.finishRecord l hot f s) := by
  cases f with
  | sparedBy k tried => exact (Steady.decisionRecord hroom _ _ _ _ _).trans (.blame _ _)
  | allFailed tried => exact (Steady.decisionRecord hroom _ _ _ _ _).trans (.freeReserved _ _ _)
  | noSlot => exact .decisionRecord hroom _ _ _ _ _

/-- The record and the slots of a completion leave the Pending Change List as it is. -/
@[simp] theorem finishRecord_changes (l : Nat) (hot : Bool) (f : LaneFinish) (s : State) :
    (finishRecord l hot f s).repair.changes = s.repair.changes := by
  cases f <;> simp [finishRecord, blame_eq, freeReserved, decisionRecord_eq]

theorem Steady.finishLane (l : Nat) (hot : Bool) (f : LaneFinish) (iso : Bool) (s : State) :
    Steady s (Machine.finishLane l hot f iso s) := by
  unfold Machine.finishLane
  split
  · exact .refl _
  · split
    · exact (Steady.freeReserved _ _ _).trans (.leaveUnrecorded _)
    · next hroom =>
      have hrecord := Steady.finishRecord (s := s) (l := l) (by simpa using hroom) hot f
      split
      · exact hrecord
      · split
        · next hchanges => exact hrecord.trans (.addChanges (by simpa [changeRoom] using hchanges))
        · next hfull => exact .wait _ (by simpa using hfull)

/-! ## The Correlation Check (R88 to R100) -/

theorem Steady.tried (s : State) (x : Tried) : Steady s (s.withSense { s.sense with tried := x }) := .withSense {}

theorem Steady.endCheck (s : State) : Steady s (Machine.endCheck s) :=
  (((Steady.withCorr (x := ⟨none⟩) (fun h => nomatch h)).trans (.tried _ _)).trans (.withRepair {})).trans (.fillHeld _)

theorem Steady.verifyDie (x : DieRef) (s : State) : Steady s (Machine.verifyDie x s).2 := by
  unfold Machine.verifyDie
  split
  · exact .refl _
  · exact .withFreeUsed _ _

theorem verifyDie_corr (x : DieRef) (s : State) : (verifyDie x s).2.corr = s.corr := by
  unfold verifyDie; split <;> rfl

theorem Steady.startVerify (c : Check) (x : DieRef) (k : Nat) (tried : List Nat) (iso : Bool) {s : State}
    (hcheck : s.corr.check.isSome = true) : Steady s (Machine.startVerify c x k tried iso s) :=
  ((Steady.setSlot _ _ _).trans (.withCorr fun _ => hcheck)).trans (.tried _ _)

theorem Steady.searchSlot (c : Check) (iso : Bool) {s : State} (hcheck : s.corr.check.isSome = true) :
    Steady s (Machine.searchSlot c iso s) := by
  unfold Machine.searchSlot
  split
  · exact (Steady.verifyDie _ _).trans (.startVerify _ _ _ _ _ (by rwa [verifyDie_corr]))
  · exact (Steady.finishLane _ _ _ _ _).trans (.endCheck _)

theorem Steady.isolate (l : Nat) (hot : Bool) (s : State) : Steady s (Machine.isolate l hot s) := by
  unfold Machine.isolate
  split
  · exact (Steady.leaveUnrecorded _).trans (.endCheck _)
  · next hroom =>
    split
    · next hchanges =>
      refine ((Steady.decisionRecord (by simpa using hroom) _ _ _ _ _).trans (.withRepair {})).trans (.addChanges ?_)
      simpa [changeRoom, decisionRecord_eq] using hchanges
    · exact .withRepair {}

theorem Steady.autoLane (c : Check) {s : State} (hcheck : s.corr.check.isSome = true) : Steady s (Machine.autoLane c s) := by
  unfold Machine.autoLane
  repeat' split
  · exact .isolate _ _ _
  · exact .withRepair {}
  · exact .searchSlot _ _ hcheck

theorem Steady.releaseHold (s : State) : Steady s (Machine.releaseHold s) := by
  unfold Machine.releaseHold
  split
  · next c h hc _ =>
    split
    · exact .refl _
    · exact (Steady.withRepair {}).trans (.searchSlot _ _ (by simp [hc]))
  · exact .refl _

theorem Steady.handOutcome (c : Check) {s : State} (hcheck : s.corr.check.isSome = true) :
    Steady s (Machine.handOutcome c s) := by
  unfold Machine.handOutcome
  split
  · exact (Steady.decideWide _ _ _).trans (.endCheck _)
  · exact (Steady.decideRow _ _ _ _).trans (.endCheck _)
  · exact (Steady.decideCell _ _ _ _ _).trans (.endCheck _)
  · dsimp only
    split
    · exact (Steady.removeDies _ _).trans (.autoLane _ (by simpa [laneRemoval] using hcheck))
    · exact ((Steady.removeDies _ _).trans (.adviseLane _ _ _)).trans (.endCheck _)

/-- A descriptor leaves the queue with no check in progress. -/
theorem Steady.dropHead {s : State} {d : Descriptor} {rest : List Descriptor} (hqueue : s.track.queue = d :: rest) :
    Steady s (s.withTrack { s.track with queue := rest }) :=
  .withTrack id fun hplaces => by
    have hsame := placesTaken_withTrack s ⟨s.track.suspects, rest⟩
    simp only [hqueue, List.length_cons] at hsame
    have hless : placesTaken (s.withTrack ⟨s.track.suspects, rest⟩) ≤ 8 := by omega
    exact hless

/-- A descriptor that starts a check keeps its place (R81). -/
theorem Steady.takeCheck {s : State} {d : Descriptor} {rest : List Descriptor} (hqueue : s.track.queue = d :: rest)
    (hnone : s.corr.check = none) (hmode : s.ctl.mode ≠ .standby) (c : Check) :
    Steady s ((s.withTrack { s.track with queue := rest }).withCorr { check := some c }) where
  pending := rfl
  caps k := { k with
    queue := by
      have hplaces := k.queue
      simpa [placesTaken, hqueue, hnone] using hplaces }
  params := id
  records := id
  tables k := { k with }
  counts k := { k with }
  ctl := rfl
  quiet _ k := { k with check := fun m => absurd m hmode }
  drive _ k := ⟨k.state, k.phase⟩

theorem Steady.startCheck {s : State} {d : Descriptor} {rest : List Descriptor} (hqueue : s.track.queue = d :: rest)
    (hnone : s.corr.check = none) (hmode : s.ctl.mode ≠ .standby) :
    Steady s (Machine.startCheck d (s.withTrack { s.track with queue := rest })) := by
  have hstart := fun c => (Steady.takeCheck hqueue hnone hmode c).trans (.tried _ .clear)
  simp only [Machine.startCheck]
  split
  · exact (hstart _).trans (.handOutcome _ (by simp))
  · exact hstart _

theorem Steady.takeOne {s : State} (hnone : s.corr.check = none) (hmode : s.ctl.mode ≠ .standby) :
    Steady s (Machine.takeOne s) := by
  unfold Machine.takeOne
  split
  · exact .refl _
  · next d rest hqueue =>
    dsimp only
    split
    · exact (Steady.dropHead hqueue).trans (.fillHeld _)
    · split
      · exact .startCheck hqueue hnone hmode
      · exact ((Steady.dropHead hqueue).trans (.decideCell _ _ _ _ _)).trans (.fillHeld _)
      · exact ((Steady.dropHead hqueue).trans (.decideCell _ _ _ _ _)).trans (.fillHeld _)

theorem canTake_iff (s : State) :
    canTake s = true ↔
      s.corr.check = none ∧ s.ctl.mode ≠ .standby ∧ s.repair.waiting = none ∧ s.track.queue ≠ [] := by
  simp [canTake, and_assoc]

theorem Steady.takeLoop (n : Nat) : ∀ s : State, Steady s (Machine.takeLoop n s) := by
  induction n with
  | zero => exact .refl
  | succ n ih =>
    intro s
    unfold Machine.takeLoop
    split
    · next htake =>
      obtain ⟨hnone, hmode, -, -⟩ := (canTake_iff s).mp htake
      exact (Steady.takeOne hnone hmode).trans (ih _)
    · exact .refl _

theorem Steady.takeAll (s : State) : Steady s (Machine.takeAll s) := .takeLoop _ _

/-- What follows at once from a change in the fault path (R89, R117). -/
theorem Steady.settle (s : State) : Steady s (Machine.settle s) := (Steady.releaseHold _).trans (.takeAll _)

theorem Steady.probeDone (n : Nat) (r : TestResult) (s : State) : Steady s (Machine.probeDone n r s) := by
  unfold Machine.probeDone
  split
  · exact .refl _
  · next c hc =>
    have hrecorded : Steady s (s.withCorr { check := some (recordProbe n r c) }) := .withCorr fun _ => by simp [hc]
    dsimp only
    split
    · exact hrecorded.trans (.handOutcome _ (by simp))
    · exact hrecorded

theorem Steady.verifyDone (c : Check) (v : Verify) (r : TestResult) {s : State} (hcheck : s.corr.check.isSome = true) :
    Steady s (Machine.verifyDone c v r s) := by
  have hend (f : LaneFinish) : Steady s (Machine.endCheck (Machine.finishLane c.die.lane c.hotSeen f v.isolated s)) :=
    (Steady.finishLane _ _ _ _ _).trans (.endCheck _)
  have hnext (j : Nat) : Steady s (Machine.startVerify c v.die j v.tried v.isolated (Machine.setSlot v.slot .free s)) :=
    (Steady.setSlot _ _ _).trans (.startVerify _ _ _ _ _ hcheck)
  cases r with
  | good => exact hend _
  | inconclusive => exact .refl _
  | openDie | shortDie =>
    simp only [Machine.verifyDone]
    split
    · exact hnext _
    · exact hend _

/-! ## The manual bind and what an application makes room for (R115, R117, R127) -/

theorem Steady.endBind (b : Bind) (r : Reply) (s : State) : Steady s (Machine.endBind b r s) := .withRepair {}

theorem Steady.completeBind (b : Bind) (t frame : Nat) (temp : Int) {s : State}
    (hchanges : recordRoom s (.lane b.lane) = true → changeRoom 1 s = true) :
    Steady s (Machine.completeBind b t frame temp s) := by
  unfold Machine.completeBind
  split
  · next hroom =>
    refine (((Steady.addRecord hroom).trans (.countDefect _)).trans (.addChanges ?_)).trans (.endBind _ _ _)
    simpa [changeRoom, Machine.countDefect, addRecord_repair] using hchanges hroom
  · exact (Steady.setSlot _ _ _).trans (.endBind _ _ _)

theorem Steady.bindDone (b : Bind) (r : TestResult) (t : Nat) (s : State) : Steady s (Machine.bindDone b r t s) := by
  cases r with
  | inconclusive => exact .refl _
  | openDie | shortDie => exact (Steady.setSlot _ _ _).trans (.endBind _ _ _)
  | good =>
    simp only [Machine.bindDone]
    split
    · exact .withRepair {}
    · next hplace => exact .completeBind _ _ _ _ (by simpa using hplace)

theorem Steady.bindRoom (s : State) : Steady s (Machine.bindRoom s) := by
  unfold Machine.bindRoom
  split
  · split
    · split
      · next hchanges => exact .completeBind _ _ _ _ fun _ => hchanges
      · exact .refl _
    · exact .refl _
    · exact .refl _
  · exact .refl _

/-- The decision that waits is taken by the decision of its kind. -/
theorem Steady.takeWaiting (s : State) : Steady s (Machine.takeWaiting s) := by
  have hgone : Steady s (s.withRepair { s.repair with waiting := none }) := .withRepair { noWait := fun _ _ => .inl rfl }
  unfold Machine.takeWaiting
  split
  · exact .refl _
  · dsimp only
    split
    · exact hgone.trans (.decideCell _ _ _ _ _)
    · exact hgone.trans (.decideRow _ _ _ _)
    · exact hgone.trans (.finishLane _ _ _ _ _)

theorem Steady.addIsolation (s : State) : Steady s (Machine.addIsolation s) := by
  unfold Machine.addIsolation
  split
  · split
    · exact .isolate _ _ _
    · exact .refl _
  · exact .refl _

theorem Steady.useRoom (s : State) : Steady s (Machine.useRoom s) := by
  have hlast (t : State) : Steady t (Machine.bindRoom (Machine.addIsolation (Machine.takeWaiting t))) :=
    ((Steady.takeWaiting t).trans (.addIsolation _)).trans (.bindRoom _)
  have hfirst (t : State) : Steady t (Machine.addIsolation (Machine.takeWaiting (Machine.bindRoom t))) :=
    ((Steady.bindRoom t).trans (.takeWaiting _)).trans (.addIsolation _)
  unfold Machine.useRoom
  dsimp only
  repeat' split
  · exact (Steady.withFreeUsed _ _).trans (hfirst _)
  · exact (Steady.withFreeUsed _ _).trans (hlast _)
  · exact hlast s

theorem Steady.afterApplication (s : State) : Steady s (Machine.afterApplication s) :=
  (Steady.useRoom _).trans (.settle _)

end Sys2Proof.Machine

/-! The Scan Driver, the Sense Unit, the deferred replies and the take of a request keep the laws. -/

namespace Sys2Proof.Machine

-- One theorem at a time: elaborated at once, they wait on each other and each holds a thread.
set_option Elab.async false

/-! ## The Scan Driver (R10 to R12) -/

theorem length_startPhase_traces (s : State) : (startPhase s).scan.traces.length = 144 := by simp [startPhase, latchRow]

theorem Keeps.startPhase (s : State) : Keeps s (Machine.startPhase s) := .withScan fun _ => length_startPhase_traces s

/-- A row phase that starts is what drive enable with no test driving calls for. -/
theorem DriveAs.startPhase {s : State} (htest : (testDriving s).isSome = false) : DriveAs true (Machine.startPhase s) where
  state := by
    have hsame : testDriving (Machine.startPhase s) = testDriving s := rfl
    rw [hsame, htest]; rfl
  phase := iff_of_true rfl rfl

theorem Keeps.releaseLines (s : State) : Keeps s (Machine.releaseLines s) := by
  unfold Machine.releaseLines
  split
  · exact .startPhase _
  · exact .withScan id
  · exact .refl _
  · exact .refl _

/-- The lines return from a test that has ended: to the scan where drive enable holds, else to rest (R10). -/
theorem DriveAs.releaseLines {e : Bool} {s : State} (hstate : s.scan.state = scanStateFor e true)
    (htest : (testDriving s).isSome = false) : DriveAs e (Machine.releaseLines s) := by
  cases e with
  | true =>
    have hyielded : s.scan.state = .yielded := hstate
    simp only [Machine.releaseLines, hyielded]
    exact .startPhase htest
  | false =>
    have hlent : s.scan.state = .lent := hstate
    simp only [Machine.releaseLines, hlent]
    refine ⟨?_, by simp⟩
    have hsame : testDriving (s.withScan { s.scan with state := .stopped, phase := none }) = testDriving s := rfl
    rw [hsame, htest]; rfl

theorem Keeps.driveRises (s : State) : Keeps s (Machine.driveRises s) := by
  unfold Machine.driveRises
  split
  · exact (Keeps.withScan (x := { s.scan with nextRow := 0 }) id).trans (.startPhase _)
  · exact .withScan id
  · exact .refl _
  · exact .refl _

theorem DriveAs.driveRises {s : State} (h : DriveAs false s) : DriveAs true (Machine.driveRises s) := by
  cases htest : (testDriving s).isSome with
  | false =>
    have hstopped : s.scan.state = .stopped := by rw [h.state, htest]; rfl
    simp only [Machine.driveRises, hstopped]
    exact .startPhase htest
  | true =>
    have hlent : s.scan.state = .lent := by rw [h.state, htest]; rfl
    simp only [Machine.driveRises, hlent]
    have hphase := h.phase
    rw [hlent] at hphase
    refine ⟨?_, by simpa using hphase⟩
    have hsame : testDriving (s.withScan { s.scan with nextRow := 0, state := .yielded }) = testDriving s := rfl
    rw [hsame, htest]; rfl

theorem Steady.nextRow (n : Nat) (s : State) : Steady s (s.withScan { s.scan with nextRow := n }) where
  toKeeps := .withScan id
  ctl := rfl
  quiet _ k := { k with }
  drive _ k := ⟨k.state, k.phase⟩

theorem Steady.compose (s : State) : Steady s (Machine.compose s) := by
  refine .withComp (fun _ => ⟨?_, ?_, ?_⟩) id
  · intro row hrow x hx
    obtain ⟨ys, -, rfl⟩ := List.mem_map.mp hrow
    obtain ⟨y, -, rfl⟩ := List.mem_map.mp hx
    exact Nat.min_le_right _ _
  · simp [cellBuild]
  · intro row hrow
    obtain ⟨ys, hys, rfl⟩ := List.mem_map.mp hrow
    obtain ⟨r, -, rfl⟩ := List.mem_map.mp hys
    simp

/-! ## Claims and grants (R10, R52, R53) -/

theorem Keeps.takeClaim (t : TestRecord) (st : ScanState) (s : State) : Keeps s (Machine.takeClaim t st s).1 := by
  have hscan : Keeps s (s.withScan { s.scan with state := st, phase := none }) := .withScan id
  have htest (x : Option TestRecord) (u : State) : Keeps u (u.withSense { u.sense with test := x }) :=
    .withSense (mode := .run) { noTest := nofun }
  unfold Machine.takeClaim
  dsimp only
  split
  · exact hscan.trans ((htest _ _).trans (.withScan (List.length_set ..).trans))
  · exact hscan.trans ((htest _ _).trans (.releaseLines _))

/-- A claim taken leaves the Scan Driver where R10 has it, the test driving or withdrawn. -/
theorem DriveAs.takeClaim (t : TestRecord) {st : ScanState} {e : Bool} (hst : st = scanStateFor e true) (s : State) :
    DriveAs e (Machine.takeClaim t st s).1 := by
  unfold Machine.takeClaim
  dsimp only
  split
  · refine ⟨?_, ?_⟩
    · rw [testDriving_isSome]; exact hst
    · cases e <;> simp [connect, hst, scanStateFor]
  · exact .releaseLines hst (by rw [testDriving_isSome]; rfl)

theorem Steady.takeClaim (t : TestRecord) {st : ScanState} {s : State} (htest : s.sense.test.isSome = true)
    (hst : ∀ e, DriveAs e s → st = scanStateFor e true) : Steady s (Machine.takeClaim t st s).1 where
  toKeeps := .takeClaim t st s
  ctl := (GrantFrame.takeClaim t st s).ctl
  quiet _ k := .ofAwake ((GrantFrame.takeClaim t st s).ctl ▸ k.awake htest)
  drive e k := .takeClaim t (hst e k) s

/-- A grant is made in an open window, so never in STANDBY. -/
theorem Steady.takeGrant (g : Grant) {s : State} (hopen : s.sense.windowOpen = true) (hnone : s.sense.test = none) :
    Steady s (Machine.takeGrant g s) := by
  refine .withSense
    { sweeps := fun h => ?_
      noTest := fun _ hclosed => by simp [hopen] at hclosed
      noWindow := fun _ hclosed => by simp [hopen] at hclosed } (by simp [hnone, formTest])
  dsimp only
  split
  · exact satAdd_le _ _
  · exact h

theorem Steady.closeWindow (s : State) : Steady s (Machine.closeWindow s) := .withSense { noWindow := fun _ _ => rfl }

theorem Steady.grantDecision (n : Nat) : ∀ s : State, Steady s (Machine.grantDecision n s) := by
  induction n with
  | zero => exact .refl
  | succ n ih =>
    intro s
    unfold Machine.grantDecision
    split
    · next hcan =>
      simp only [Bool.and_eq_true, Option.isNone_iff_eq_none] at hcan
      obtain ⟨⟨hopen, -⟩, hnone⟩ := hcan
      split
      · exact .closeWindow _
      · next g _ =>
        have hgrant := Steady.takeGrant g hopen hnone
        dsimp only
        split
        · next hstopped =>
          have hclaim : Steady (Machine.takeGrant g s) (Machine.takeClaim (formTest s g) .lent (Machine.takeGrant g s)).1 :=
            .takeClaim _ rfl fun e k => by
              have hstate := k.state
              rw [hstopped] at hstate
              revert hstate
              cases e <;> cases (testDriving (Machine.takeGrant g s)).isSome <;> simp [scanStateFor]
          have hboth := hgrant.trans hclaim
          split
          · next s2 heq => rw [heq] at hboth; exact hboth.trans (ih _)
          · next s2 heq => rw [heq] at hboth; exact hboth
        · exact hgrant
    · exact .refl _

theorem Steady.decideGrant (s : State) : Steady s (Machine.decideGrant s) := .grantDecision _ _

theorem claimAtPhaseEnd_of_test {t : TestRecord} {s : State} (h : s.sense.test = some t) (st : ScanState) :
    claimAtPhaseEnd st s = if (takeClaim t st s).2 then decideGrant (takeClaim t st s).1 else (takeClaim t st s).1 := by
  simp only [claimAtPhaseEnd, h]
  split <;> simp_all

theorem Keeps.claimAtPhaseEnd (st : ScanState) (s : State) : Keeps s (Machine.claimAtPhaseEnd st s) := by
  cases htest : s.sense.test with
  | none => simp only [Machine.claimAtPhaseEnd, htest]; exact .refl _
  | some t =>
    rw [claimAtPhaseEnd_of_test htest]
    split
    · exact (Keeps.takeClaim t st s).trans (Steady.decideGrant _).toKeeps
    · exact .takeClaim t st s

theorem DriveAs.claimAtPhaseEnd {st : ScanState} {e : Bool} (hst : st = scanStateFor e true) {s : State}
    (hclaim : claimWaiting s = true) : DriveAs e (Machine.claimAtPhaseEnd st s) := by
  cases htest : s.sense.test with
  | none => simp [claimWaiting, htest] at hclaim
  | some t =>
    rw [claimAtPhaseEnd_of_test htest]
    split
    · exact (Steady.decideGrant _).drive e (.takeClaim t hst s)
    · exact .takeClaim t hst s

theorem QuietBut.claimAtPhaseEnd {w : Option Waiting} {s : State} (h : QuietBut w s) (st : ScanState) :
    QuietBut w (Machine.claimAtPhaseEnd st s) := by
  cases htest : s.sense.test with
  | none => simpa only [Machine.claimAtPhaseEnd, htest] using h
  | some t => exact .ofAwake ((GrantFrame.claimAtPhaseEnd st s).ctl ▸ h.awake (by simp [htest]))

/-- In SCANNING drive enable holds and no test drives. -/
theorem DriveAs.scanning {e : Bool} {s : State} (h : DriveAs e s) (hscan : s.scan.state = .scanning) :
    e = true ∧ (testDriving s).isSome = false := by
  have hstate := h.state
  rw [hscan] at hstate
  revert hstate
  cases e <;> cases (testDriving s).isSome <;> simp [scanStateFor]

theorem Steady.phaseEnd {s : State} (hscan : s.scan.state = .scanning) : Steady s (Machine.phaseEnd s) := by
  unfold Machine.phaseEnd
  split
  · next hclaim =>
    exact
      { toKeeps := .claimAtPhaseEnd _ s
        ctl := (GrantFrame.claimAtPhaseEnd _ s).ctl
        quiet := fun _ k => k.claimAtPhaseEnd _
        drive := fun e k => .claimAtPhaseEnd (by rw [(k.scanning hscan).1]; rfl) hclaim }
  · exact
      { toKeeps := .startPhase s
        ctl := rfl
        quiet := fun _ k => { k with }
        drive := fun e k => by obtain ⟨rfl, htest⟩ := k.scanning hscan; exact .startPhase htest }

theorem Steady.scanComposed (s : State) : Steady s (Machine.scanComposed s) := by
  have hnext := Steady.nextRow 0 s
  unfold Machine.scanComposed
  dsimp only
  split
  · next hscan => exact hnext.trans (.phaseEnd (s := s.withScan { s.scan with nextRow := 0 }) hscan)
  · exact hnext
  · exact hnext
  · exact hnext

theorem Keeps.driveFalls (s : State) : Keeps s (Machine.driveFalls s) := by
  unfold Machine.driveFalls
  split
  · split
    · exact .claimAtPhaseEnd _ _
    · exact .withScan id
  · exact .withScan id
  · exact .refl _
  · exact .refl _

theorem QuietBut.driveFalls {w : Option Waiting} {s : State} (h : QuietBut w s) : QuietBut w (Machine.driveFalls s) := by
  unfold Machine.driveFalls
  split
  · split
    · exact h.claimAtPhaseEnd _
    · exact { h with }
  · exact { h with }
  · exact h
  · exact h

theorem DriveAs.driveFalls {e : Bool} {s : State} (h : DriveAs e s) : DriveAs false (Machine.driveFalls s) := by
  have hphase := h.phase
  have hscan (x : ScanDriver) : (testDriving (s.withScan x)).isSome = (testDriving s).isSome := rfl
  have hstate := h.state
  unfold Machine.driveFalls
  cases hs : s.scan.state <;> rw [hs] at hstate <;> simp only [hs] at hphase ⊢
  case scanning =>
    split
    · next hclaim => exact .claimAtPhaseEnd rfl hclaim
    · exact ⟨by rw [hscan, (h.scanning hs).2]; rfl, by simp⟩
  all_goals
    cases e <;> cases htest : (testDriving s).isSome <;> simp [htest, scanStateFor] at hstate
    all_goals exact ⟨by simp [hscan, htest, scanStateFor, hs], by simpa [hs] using hphase⟩

/-! ## Windows and results (R49, R54 to R56) -/

theorem Steady.openWindow (budget : Nat) (reading : Int) {s : State} (hmode : s.ctl.mode ≠ .standby) :
    Steady s (Machine.openWindow budget reading s) := by
  have hforget := Steady.forgetWindow ((s.sense.windowNumber + 1) % 65536) s
  refine (hforget.trans (.withSense ?_)).trans (.decideGrant _)
  exact
    { window := fun _ => Nat.mod_lt _ (by decide)
      noTest := fun m => absurd m hmode
      noWindow := fun m => absurd m hmode }

theorem Steady.handSuspect (t : TestRecord) (r : TestResult) (s : State) : Steady s (Machine.handSuspect t r s).1 := by
  have happlied := Steady.applyResult t.die r t.grantWindow s
  simp only [Machine.handSuspect]
  split
  · exact happlied.trans (.notePass _ _)
  · exact happlied

theorem length_spotDone (r : TestResult) (t : Nat) (hot : Bool) (e : SuspectEffect) (xs : List SpotEntry) :
    (spotDone r t hot e xs).length = xs.length := by
  induction xs with
  | nil => rfl
  | cons x xs ih =>
    unfold spotDone
    split
    · rfl
    · simp [ih]

/-- A spot result leaves no entry WAITING that was not. -/
theorem spotDone_waiting {r : TestResult} {t : Nat} {hot : Bool} {e : SuspectEffect} {xs : List SpotEntry}
    (h : ∀ x ∈ xs, x.status ≠ .waiting) : ∀ x ∈ spotDone r t hot e xs, x.status ≠ .waiting := by
  induction xs with
  | nil => simp [spotDone]
  | cons y ys ih =>
    obtain ⟨hy, hys⟩ := List.forall_mem_cons.mp h
    simp only [spotDone, if_neg hy]
    exact List.forall_mem_cons.mpr ⟨hy, ih hys⟩

theorem Steady.handResult (t : TestRecord) (r : TestResult) (tick : Nat) (s : State) :
    Steady s (Machine.handResult t r tick s) := by
  unfold Machine.handResult
  split
  · exact .handSuspect _ _ _
  · exact .handSuspect _ _ _
  · exact (Steady.handSuspect t r s).trans
      (.withSense { spots := (length_spotDone ..).trans_le, noSpot := fun _ => spotDone_waiting })
  · exact .probeDone _ _ _
  · split
    · next cv hcv =>
      refine .verifyDone _ _ _ ?_
      cases hcheck : s.corr.check with
      | none => simp [hcheck] at hcv
      | some c => rfl
    · split
      · split
        · exact .bindDone _ _ _ _
        · exact .refl _
      · exact .refl _

/-! ## Deferred replies (R66, R127, R166) -/

theorem Steady.pushReply (r : Reply) {s : State} (hroom : replyRoom s = true) : Steady s (Machine.pushReply r s) :=
  .withUnit { replies := fun _ => by simpa [replyRoom] using hroom }

theorem Steady.enterSpot (s : State) : Steady s (Machine.enterSpot s) := by
  unfold Machine.enterSpot
  split
  · exact .refl _
  · next e rest hspots =>
    split
    · split
      · next hroom =>
        refine (Steady.withSense (x := { s.sense with spots := rest }) ?_).trans (.pushReply _ hroom)
        exact
          { spots := fun h => by rw [hspots, List.length_cons] at h; exact Nat.le_of_succ_le h
            noSpot := fun _ h => (List.forall_mem_cons.mp (hspots ▸ h)).2 }
      · exact .refl _
    · exact .refl _

theorem Steady.enterSpots (s : State) : Steady s (Machine.enterSpots s) := .foldl _ (fun t _ => .enterSpot t) _ _

theorem Steady.enterBind (s : State) : Steady s (Machine.enterBind s) := by
  unfold Machine.enterBind
  split
  · split
    · split
      · next hroom => exact (Steady.withRepair {}).trans (.pushReply _ hroom)
      · exact .refl _
    · exact .refl _
    · exact .refl _
  · exact .refl _

theorem Steady.offerReplies (s : State) : Steady s (Machine.offerReplies s) := (Steady.enterSpots s).trans (.enterBind _)

/-! ## The end of a test (R54) -/

/-- The lines return from the test that ends. -/
theorem Steady.endTest {t : TestRecord} {s : State} (htest : s.sense.test = some t) (hdriver : t.driver.isSome = true) :
    Steady s (Machine.releaseLines (s.withSense { s.sense with test := none })) where
  toKeeps := (Keeps.withSense (mode := .run) { noTest := nofun }).trans (.releaseLines _)
  ctl := (GrantFrame.releaseLines _).ctl
  quiet _ k := .ofAwake ((GrantFrame.releaseLines (s.withSense { s.sense with test := none })).ctl ▸ k.awake (by simp [htest]))
  drive e k := by
    have hdriving : (testDriving s).isSome = true := by simp [testDriving_isSome, htest, hdriver]
    exact .releaseLines (hdriving ▸ k.state) (by rw [testDriving_isSome]; rfl)

theorem Steady.testEnd {t : TestRecord} {s : State} (htest : s.sense.test = some t) (hdriver : t.driver.isSome = true)
    (knee : Option (Fin 255)) : Steady s (Machine.testEnd t knee s) :=
  ((((Steady.endTest htest hdriver).trans (.handResult _ _ _ _)).trans (.settle _)).trans (.offerReplies _)).trans
    (.decideGrant _)

/-! ## Requests (R152, R153, R163 to R165) -/

theorem replyRoom_congr {s t : State} (h : t.unit.replies = s.unit.replies) : replyRoom t = replyRoom s := by
  simp [replyRoom, h]

theorem Steady.answer (kind : Byte) (q : Request) (x : ReplyStatus) (c : List Byte) {s : State}
    (hroom : q.broadcast = false → replyRoom s = true) : Steady s (Machine.answer kind q x c s) := by
  unfold Machine.answer
  split
  · exact .refl _
  · next hq => exact .pushReply _ (hroom (by simpa using hq))

/-- What has left the replies alone may be followed by the answer. -/
theorem Steady.thenAnswer {s t : State} (h : Steady s t) (hsame : t.unit.replies = s.unit.replies) {q : Request}
    (hroom : q.broadcast = false → replyRoom s = true) (kind : Byte) (x : ReplyStatus) (c : List Byte) :
    Steady s (Machine.answer kind q x c t) :=
  h.trans (.answer kind q x c fun hq => (replyRoom_congr hsame).trans (hroom hq))

theorem Steady.refuse (kind : Byte) (q : Request) (x : ReplyStatus) {s : State}
    (hroom : q.broadcast = false → replyRoom s = true) : Steady s (Machine.refuse kind q x s) :=
  .answer kind q x [] hroom

theorem PortLimits.charged {c : Counters} (h : PortLimits c) (k : Charge) : PortLimits (c.charged k) := by
  cases k
  · exact { h with crcErr := satAdd_le _ _ }
  · exact { h with framingErr := satAdd_le _ _ }
  · exact { h with poisonedRx := satAdd_le _ _ }
  · exact { h with overrun := satAdd_le _ _ }
  · exact { h with misroute := satAdd_le _ _ }

theorem Steady.charge (p : Port) (k : Charge) (s : State) : Steady s (Machine.charge p k s) := by
  cases p
  · exact (Steady.withLink (x := { s.link with upCounts := _ }) { up := fun h => h.charged k }).trans (.raise _ _)
  · exact (Steady.withLink (x := { s.link with downCounts := _ }) { down := fun h => h.charged k }).trans (.raise _ _)

theorem upRoom_iff (s : State) : upRoom s = true ↔ s.link.upBuf.length < 2 ∧ s.link.downBuf.length < 2 := by
  simp [upRoom]

theorem downRoom_iff (s : State) : downRoom s = true ↔ s.link.passBuf.length < 4 := by simp [downRoom]

theorem Steady.present (kind : Byte) (q : Request) (s : State) : Steady s (Machine.present kind q s) := by
  unfold Machine.present
  split
  · exact .refl _
  · next harrives =>
    simp only [arrivesNow, upGoOut, Bool.or_eq_true, Bool.not_eq_true', not_or, Bool.and_eq_true, beq_iff_eq,
       Bool.not_eq_true, Bool.not_eq_false] at harrives
    obtain ⟨⟨⟨-, hroom, -⟩, hhunt⟩, -⟩ := harrives
    obtain ⟨hup, hdown⟩ := (upRoom_iff s).mp hroom
    refine .withLink { upBuf := fun h => ?_, downBuf := fun h _ => ?_, header := fun _ h => by simp [hhunt] at h }
    · dsimp only
      split
      · simpa using hup
      · exact h
    · dsimp only
      split
      · simpa using hdown
      · exact h

theorem Steady.untaken (kind : Byte) (q : Request) (s : State) : Steady s (Machine.untaken kind q s) := by
  unfold Machine.untaken
  split
  · exact .charge _ _ _
  · exact .present _ _ _

theorem Steady.takeHead (s : State) : Steady s (Machine.takeHead s) :=
  .withLink { upBuf := fun h => by simp only [List.length_tail]; omega }

theorem Steady.atTake (kind : Byte) (q : Request) (s : State) : Steady s (Machine.atTake kind q s) :=
  (Steady.present kind q s).trans (.takeHead _)

theorem length_dropFirstEnumSlot_le (xs : List FwdPlace) : (dropFirstEnumSlot xs).length ≤ xs.length :=
  List.length_erase_le

theorem Steady.dropEnumPlace (s : State) :
    Steady s (s.withLink { s.link with downBuf := dropFirstEnumSlot s.link.downBuf }) :=
  .withLink
    { downBuf := fun h _ => (length_dropFirstEnumSlot_le _).trans h
      header := fun h hrx => (length_dropFirstEnumSlot_le _).trans_lt (h hrx) }

theorem Steady.refuseLength (kind : Byte) (q : Request) (down : Bool) {s : State}
    (hroom : q.broadcast = false → replyRoom s = true) : Steady s (Machine.refuseLength kind q down s) := by
  unfold Machine.refuseLength
  split
  · exact (Steady.dropEnumPlace s).trans (.refuse kind q .length (s := s.withLink _) hroom)
  · exact .refuse kind q .length hroom

/-- What the take of a request that may be answered is made with: a free place for the reply (R163). -/
theorem replyRoom_of_taken {kind : Byte} {q : Request} {s : State} (h : taken kind q s = true)
    (hmay : mayBeAnswered kind q (headDown (present kind q s)) = true) : replyRoom (atTake kind q s) = true := by
  simp only [taken, takeable, Bool.and_eq_true, Bool.or_eq_true, Bool.not_eq_true', hmay] at h
  have hroom : replyRoom (present kind q s) = true := by simpa using h.2.1.2
  exact hroom

/-- An addressed request of a length that does not fit may be answered (R163, R164). -/
theorem mayBeAnswered_of_lengthRefused {kind : Byte} {q : Request} (hmarker : hasReplyMarker kind = false)
    (hlength : lengthFits kind q.payload.length = false) (hq : q.broadcast = false) (down : Bool) :
    mayBeAnswered kind q down = true := by
  simp [mayBeAnswered, hq, hmarker, hlength]

/-- A request row completes where its owner is lawful on a state with a free place for the reply if it may be answered. -/
theorem Completes.request {kind : Byte} {q : Request} {owner : Bool → State → State} {s : State}
    (hmarker : hasReplyMarker kind = false)
    (howner : ∀ down u, lengthFits kind q.payload.length = true →
      (mayBeAnswered kind q down = true → replyRoom u = true) → Lawful u (owner down u)) :
    Completes s (Machine.request kind q owner s) := by
  by_cases htaken : taken kind q s = true
  · have hroom := replyRoom_of_taken htaken
    rw [request_taken owner htaken]
    refine ((Steady.atTake kind q s).lawful.trans ?_).completes
    unfold Machine.judge
    split
    · exact .refl _
    · split
      · next hlength =>
        exact (Steady.refuseLength _ _ _ fun hq =>
          hroom (mayBeAnswered_of_lengthRefused hmarker (by simpa using hlength) hq _)).lawful
      · next hlength => exact howner _ _ (by simpa using hlength) hroom
  · rw [request_held owner (by simpa using htaken)]
    exact (Steady.untaken kind q s).completes

/-- The same for a kind whose addressed requests are all answered: every kind but ROW and FRAME. -/
theorem Completes.answered {kind : Byte} {q : Request} {owner : Bool → State → State} {s : State}
    (hmarker : hasReplyMarker kind = false) (hkind : ¬ (kind = kRow ∨ kind = kFrame))
    (howner : ∀ down u, (q.broadcast = false → replyRoom u = true) → Lawful u (owner down u)) :
    Completes s (Machine.request kind q owner s) :=
  .request hmarker fun down u _ hroom => howner down u fun hq => hroom (by
    simp only [mayBeAnswered, hq, hmarker, if_neg hkind, Bool.false_eq_true, if_false])

end Sys2Proof.Machine

/-! The link ports and the Router keep the laws. -/

namespace Sys2Proof.Machine

-- One theorem at a time: elaborated at once, they wait on each other and each holds a thread.
set_option Elab.async false

/-! ## Reception (R145 to R149, R152) -/

theorem Steady.startUp (s : State) : Steady s (Machine.startUp s) := by
  unfold Machine.startUp
  split
  · exact .refl _
  · split
    · split
      · next hroom =>
        obtain ⟨hup, hdown⟩ := (upRoom_iff s).mp hroom
        exact .withLink { upBuf := fun _ => by simpa using hup, header := fun _ _ => hdown }
      · refine Steady.trans (.withLink ?_) (.charge _ _ _)
        exact { header := nofun }
    · exact .refl _
    · exact .refl _
    · exact .refl _

theorem Steady.startDown (s : State) : Steady s (Machine.startDown s) := by
  unfold Machine.startDown
  split
  · exact .refl _
  · split
    · split
      · next hroom => exact .withLink { passBuf := fun _ => by simpa using (downRoom_iff s).mp hroom }
      · exact (Steady.withLink {}).trans (.charge _ _ _)
    · exact .refl _
    · exact .refl _
    · exact .refl _

theorem length_dropUpPlace_le (xs : List RxPlace) : (dropUpPlace xs).length ≤ xs.length := List.length_filter_le _ _
theorem length_dropPassPlace_le (xs : List PassPlace) : (dropPassPlace xs).length ≤ xs.length := List.length_filter_le _ _

theorem length_forwardPlace_le (h : Header) (f : Forward) : (forwardPlace h f).length ≤ 1 := by cases f <;> simp [forwardPlace]

/-- A message in HEADER finds the forward place it was let in with (R149, R152). -/
theorem Steady.routeUp (h : Header) (go : Bool) {s : State} (hrx : s.link.upRx = .header) :
    Steady s (Machine.routeUp h go s) := by
  simp only [Machine.routeUp]
  split
  · exact .withLink { upBuf := (length_dropUpPlace_le _).trans, header := nofun }
  · refine .withLink { upBuf := fun hup => ?_, downBuf := fun _ hdown => ?_, header := nofun }
    · dsimp only
      split
      · exact hup
      · exact (length_dropUpPlace_le _).trans hup
    · have hplace := length_forwardPlace_le h (forwardWay s h go)
      have hless := hdown hrx
      simp only [List.length_append]
      omega

theorem Steady.noteDownGo (s : State) : Steady s (Machine.noteDownGo s) := by
  unfold Machine.noteDownGo
  split
  · exact .refl _
  · exact .withLink {}

theorem noteDownGo_upRx (s : State) : (noteDownGo s).link.upRx = s.link.upRx := by
  unfold noteDownGo; split <;> rfl

theorem Steady.headerUp (h : Header) (go : Bool) (s : State) : Steady s (Machine.headerUp h go s) := by
  unfold Machine.headerUp
  split
  · next hrx =>
    split
    · split
      · exact (Steady.noteDownGo s).trans (.routeUp _ _ ((noteDownGo_upRx s).trans hrx))
      · exact .routeUp _ _ hrx
    · refine Steady.trans (.withLink ?_) (.charge _ _ _)
      exact { upBuf := (length_dropUpPlace_le _).trans, header := nofun }
  · refine .withLink { header := fun _ hrx => ?_ }
    dsimp only at hrx
    split at hrx <;> cases hrx
  · exact .refl _
  · exact .refl _
  · exact .refl _

theorem Steady.dropPass (x : RxState) (s : State) :
    Steady s (s.withLink { s.link with downRx := x, passBuf := dropPassPlace s.link.passBuf }) :=
  .withLink { passBuf := (length_dropPassPlace_le _).trans }

theorem Steady.headerDown (h : Header) (s : State) : Steady s (Machine.headerDown h s) := by
  unfold Machine.headerDown
  split
  · split
    · exact .withLink {}
    · exact (Steady.dropPass _ s).trans (.charge _ _ _)
  · exact .withLink {}
  · exact .refl _
  · exact .refl _
  · exact .refl _

/-! ## The end of a message (R146, R147, R155, R156) -/

theorem Steady.upHunt {ups : List RxPlace} {downs : List FwdPlace} {s : State} (hups : ups.length ≤ s.link.upBuf.length)
    (hdowns : downs.length ≤ s.link.downBuf.length) : Steady s (Machine.upHunt ups downs s) :=
  .withLink { upBuf := hups.trans, downBuf := fun h _ => hdowns.trans h, header := nofun }

theorem length_finishCut (w : Wire) (xs : List FwdPlace) : (finishCut w xs).length = xs.length := List.length_map _

theorem length_dropLastEnumSlot_le (xs : List FwdPlace) : (dropLastEnumSlot xs).length ≤ xs.length := by
  have hle : (xs.reverse.erase .enumSlot).length ≤ xs.reverse.length := List.length_erase_le
  simpa [dropLastEnumSlot] using hle

theorem length_forwardBad_le (f : Forward) (w : Wire) (xs : List FwdPlace) : (forwardBad f w xs).length ≤ xs.length := by
  cases f
  · exact Nat.le_refl _
  · exact (length_finishCut w xs).le
  · exact List.length_filter_le _ _
  · exact length_dropLastEnumSlot_le xs

theorem length_forwardGood (f : Forward) (w : Wire) (xs : List FwdPlace) : (forwardGood f w xs).length = xs.length := by
  cases f
  · rfl
  · exact length_finishCut w xs
  · exact List.length_map _
  · rfl

theorem length_fillUpPlace (m : Message) (down : Bool) (xs : List RxPlace) : (fillUpPlace m down xs).length = xs.length :=
  List.length_map _

theorem Steady.endUp (payload : List Byte) (crc : Word16) (mark : Byte) (s : State) :
    Steady s (Machine.endUp payload crc mark s) := by
  unfold Machine.endUp
  split
  · split
    · exact .refl _
    · dsimp only
      split
      · refine .upHunt ?_ (length_forwardGood _ _ _).le
        split
        · exact (length_fillUpPlace _ _ _).le
        · exact Nat.le_refl _
      · exact (Steady.upHunt (length_dropUpPlace_le _) (length_forwardBad_le _ _ _)).trans (.charge _ _ _)
  · split
    · exact .refl _
    · exact .upHunt (Nat.le_refl _) (Nat.le_refl _)
  · split
    · exact .refl _
    · exact (Steady.upHunt (Nat.le_refl _) (Nat.le_refl _)).trans (.charge _ _ _)
  · split
    · exact .refl _
    · exact .upHunt (Nat.le_refl _) (length_finishCut _ _).le
  · exact .refl _
  · exact .refl _
  · exact .refl _

theorem Steady.noteEnumReply (m : Message) (s : State) : Steady s (Machine.noteEnumReply m s) := by
  unfold Machine.noteEnumReply
  split
  · split
    · next hlast => exact .withLink { subordinate := fun _ _ => ⟨hlast.2.2, hlast.2.1⟩ }
    · exact .refl _
  · exact .refl _

theorem Steady.endDown (payload : List Byte) (crc : Word16) (mark : Byte) (s : State) :
    Steady s (Machine.endDown payload crc mark s) := by
  unfold Machine.endDown
  split
  · split
    · exact .refl _
    · dsimp only
      split
      · exact (Steady.withLink { passBuf := (List.length_map _).trans_le }).trans (.noteEnumReply _ _)
      · exact (Steady.dropPass _ s).trans (.charge _ _ _)
  · split
    · exact .refl _
    · exact .withLink {}
  · exact .refl _
  · exact .refl _
  · exact .refl _

theorem Steady.gapUp (received : List Byte) (s : State) : Steady s (Machine.gapUp received s) := by
  unfold Machine.gapUp
  split
  · exact (Steady.upHunt (length_dropUpPlace_le _) (Nat.le_refl _)).trans (.charge _ _ _)
  · exact (Steady.upHunt (length_dropUpPlace_le _) (length_forwardBad_le _ _ _)).trans (.charge _ _ _)
  · exact (Steady.upHunt (Nat.le_refl _) (Nat.le_refl _)).trans (.charge _ _ _)
  · exact .upHunt (Nat.le_refl _) (Nat.le_refl _)
  · exact .upHunt (Nat.le_refl _) (length_finishCut _ _).le
  · exact .upHunt (Nat.le_refl _) (Nat.le_refl _)
  · exact .refl _

theorem Steady.gapDown (s : State) : Steady s (Machine.gapDown s) := by
  unfold Machine.gapDown
  split
  · exact (Steady.dropPass _ s).trans (.charge _ _ _)
  · exact (Steady.dropPass _ s).trans (.charge _ _ _)
  · exact .withLink {}
  · exact .refl _

/-! ## The chain reset hold (R160) -/

theorem Steady.withHold (x : ChainHold) (s : State) : Steady s (s.withLink { s.link with hold := x }) := .withLink {}

theorem Steady.startHold (src tag : Byte) (s : State) : Steady s (Machine.startHold src tag s) :=
  .withLink
    { upBuf := (List.length_map _).trans_le
      downBuf := fun _ _ => Nat.zero_le _
      header := fun _ _ => Nat.zero_lt_two
      passBuf := (length_dropPassPlace_le _).trans
      subordinate := fun hsub haddr => ⟨haddr.trans hsub, Nat.le_refl _⟩ }

theorem Steady.startHoldIfIdle (s : State) : Steady s (Machine.startHoldIfIdle s) := by
  unfold Machine.startHoldIfIdle
  split
  · split
    · exact .refl _
    · exact .startHold _ _ _
  · exact .refl _
  · exact .refl _
  · exact .refl _

theorem Steady.enterHold (s : State) : Steady s (Machine.enterHold s) := by
  unfold Machine.enterHold
  split
  · split
    · next hroom => exact (Steady.withHold .none s).trans (.pushReply _ hroom)
    · exact .refl _
  · exact .refl _
  · exact .refl _
  · exact .refl _

/-! ## Transmission (R154, R157, R165, R177) -/

theorem Steady.beginUp (x : UpTx) (served : Served) (s : State) : Steady s (Machine.beginUp x served s) := .withLink {}

theorem Steady.serveOwn (s : State) : Steady s (Machine.serveOwn s) := by
  unfold Machine.serveOwn
  split
  · next r rest hreplies =>
    refine (Steady.withUnit { replies := fun h => ?_ }).trans (.beginUp _ _ _)
    rw [hreplies, List.length_cons] at h
    exact Nat.le_of_succ_le h
  · split
    · refine (Steady.withUnit { defects := fun h => ?_ }).trans (.beginUp _ _ _)
      dsimp only
      split
      · exact Nat.zero_le _
      · exact h
    · exact .refl _

theorem Steady.arbitrateUp (s : State) : Steady s (Machine.arbitrateUp s) := by
  unfold Machine.arbitrateUp
  split
  · split
    · exact .serveOwn _
    · exact .refl _
  · split
    · split
      · exact .serveOwn _
      · exact .beginUp _ _ _
    · exact .beginUp _ _ _

theorem length_releaseReset (xs : List RxPlace) : (releaseReset xs).length = xs.length := by
  induction xs with
  | nil => rfl
  | cons x xs ih =>
    unfold releaseReset
    split
    · simp_all
    · split <;> simp_all
    · simp_all

theorem Steady.downSent {w : Wire} {rest : List FwdPlace} {s : State} (hbuf : s.link.downBuf = .ready w :: rest) :
    Steady s (Machine.downSent w rest s) := by
  have hlength : s.link.downBuf.length = rest.length + 1 := by rw [hbuf, List.length_cons]
  refine .withLink { upBuf := fun h => ?_, downBuf := fun h _ => ?_, header := fun h hrx => ?_ }
  · dsimp only
    split
    · exact (length_releaseReset _).trans_le h
    · exact h
  · dsimp only; omega
  · have hless := h hrx
    dsimp only; omega

/-! ## ENUM and CHAIN_RESET taken (R158, R160) -/

theorem Steady.setAddress {n : Nat} (hn : n ≤ 254) (s : State) : Steady s (Machine.setAddress n s) :=
  .withLink { subordinate := fun _ _ => ⟨hn, Nat.le_refl _⟩ }

theorem Steady.giveUpEnumPlace (down : Bool) (s : State) : Steady s (Machine.giveUpEnumPlace down s) := by
  unfold Machine.giveUpEnumPlace
  split
  · exact .dropEnumPlace _
  · exact .refl _

theorem giveUpEnumPlace_unit (down : Bool) (s : State) : (giveUpEnumPlace down s).unit = s.unit := by
  unfold giveUpEnumPlace; split <;> rfl

theorem length_fillEnumSlot (w : Wire) (xs : List FwdPlace) : (fillEnumSlot w xs).length = xs.length := by
  induction xs with
  | nil => rfl
  | cons x xs ih => cases x <;> simp [fillEnumSlot, ih]

theorem Steady.fillEnumSlot (w : Wire) (s : State) :
    Steady s (s.withLink { s.link with downBuf := Machine.fillEnumSlot w s.link.downBuf }) :=
  .withLink
    { downBuf := fun h _ => (length_fillEnumSlot _ _).trans_le h
      header := fun h hrx => (length_fillEnumSlot _ _).trans_lt (h hrx) }

theorem byteAt_le (p : List Byte) (i : Nat) : byteAt p i ≤ 255 := Nat.le_of_lt_succ (BitVec.isLt _)

theorem mayBeAnswered_enum {q : Request} (hlength : lengthFits kEnum q.payload.length = true) (down : Bool) :
    mayBeAnswered kEnum q down = (!q.broadcast || enumReplies q.payload down) := by
  cases hq : q.broadcast
  · simp [mayBeAnswered, hq, hasReplyMarker, kRow, kFrame]
  · simp only [mayBeAnswered, hq, if_true, hlength]
    rfl

theorem Steady.enumTaken {q : Request} {down : Bool} {s : State} (hlength : lengthFits kEnum q.payload.length = true)
    (hroom : mayBeAnswered kEnum q down = true → replyRoom s = true) : Steady s (Machine.enumTaken q down s) := by
  rw [mayBeAnswered_enum hlength] at hroom
  have hbyte := byteAt_le q.payload 0
  have hreply (last : Nat) {x : ReplyStatus} {u : State} (hu : Steady s u) (hsame : u.unit = s.unit)
      (hmay : (!q.broadcast || enumReplies q.payload down) = true) : Steady s (enumReply q x last u) :=
    hu.trans (.pushReply _ ((replyRoom_congr (congrArg _ hsame)).trans (hroom hmay)))
  have hgive : Steady s (Machine.giveUpEnumPlace down (Machine.setAddress 0 s)) :=
    (Steady.setAddress (Nat.zero_le _) s).trans (.giveUpEnumPlace _ _)
  unfold Machine.enumTaken
  split
  · next hq => exact hreply _ (.refl s) rfl (by simp [hq])
  · dsimp only
    split
    · next hzero => exact hreply _ hgive (giveUpEnumPlace_unit _ _) (by simp [enumReplies, hzero])
    · split
      · next hall => exact hreply _ hgive (giveUpEnumPlace_unit _ _) (by simp [enumReplies, hall])
      · have haddress := Steady.setAddress (n := byteAt q.payload 0) (by omega) s
        split
        · exact haddress.trans (.fillEnumSlot _ _)
        · next hdown => exact hreply _ haddress rfl (by simp [enumReplies, hdown])

theorem Steady.chainResetTaken {q : Request} {s : State} (hroom : q.broadcast = false → replyRoom s = true) :
    Steady s (Machine.chainResetTaken q s) := by
  unfold Machine.chainResetTaken
  split
  · exact (Steady.withHold _ s).trans (.startHoldIfIdle _)
  · exact .refuse _ _ _ hroom

end Sys2Proof.Machine

/-! The owners of the requests, the timers and the resets keep the laws. -/

namespace Sys2Proof.Machine

-- One theorem at a time: elaborated at once, they wait on each other and each holds a thread.
set_option Elab.async false

/-! ## Parameters (R68, R168) -/

theorem clampNat_bounds {lo hi : Nat} (h : lo ≤ hi) (v : Nat) : lo ≤ clampNat lo hi v ∧ clampNat lo hi v ≤ hi :=
  ⟨Nat.le_max_left _ _, Nat.max_le.mpr ⟨h, Nat.min_le_left _ _⟩⟩

theorem clampInt_bounds {lo hi : Int} (h : lo ≤ hi) (v : Int) : lo ≤ clampInt lo hi v ∧ clampInt lo hi v ≤ hi :=
  ⟨Int.le_max_left _ _, Int.max_le.mpr ⟨h, Int.min_le_left _ _⟩⟩

/-- A pair that is stored leaves the parameters in their ranges. -/
def PairResult.InRange (r : PairResult) : Prop := ∀ p c, r = .stored p c → ParamRanges p

theorem PairResult.InRange.refused : PairResult.InRange .refused := fun _ _ h => nomatch h

theorem PairResult.InRange.ofRanges {p : Params} (h : ParamRanges p) (c : Bool) : PairResult.InRange (.stored p c) := by
  rintro _ _ ⟨⟩; exact h

theorem storeNat_inRange {lo hi : Nat} (hle : lo ≤ hi) (v : Nat) {set : Nat → Params}
    (h : ∀ x, lo ≤ x → x ≤ hi → ParamRanges (set x)) : (storeNat lo hi v set).InRange :=
  .ofRanges (h _ (clampNat_bounds hle v).1 (clampNat_bounds hle v).2) _

theorem storeInt_inRange {lo hi : Int} (hle : lo ≤ hi) (v : Int) {set : Int → Params}
    (h : ∀ x, lo ≤ x → x ≤ hi → ParamRanges (set x)) : (storeInt lo hi v set).InRange :=
  .ofRanges (h _ (clampInt_bounds hle v).1 (clampInt_bounds hle v).2) _

theorem storeShort_inRange (v openLim : Nat) {set : Nat → Params} (h : ∀ x, x < openLim → ParamRanges (set x)) :
    (storeShort v openLim set).InRange := by
  unfold storeShort
  split
  · exact .refused
  · next hless => exact .ofRanges (h _ (Nat.lt_of_not_le hless)) _

theorem storeOpen_inRange (v shortLim : Nat) {set : Nat → Params}
    (h : ∀ x, shortLim < x → x ≤ 255 → ParamRanges (set x)) : (storeOpen v shortLim set).InRange := by
  unfold storeOpen
  split
  · exact .refused
  · next hless => exact .ofRanges (h _ (Nat.lt_of_not_le hless) (clampNat_bounds (by decide) v).2) _

theorem repeatValue_cases (v : Nat) : repeatValue v = 1 ∨ repeatValue v = 2 ∨ repeatValue v = 4 ∨ repeatValue v = 8 := by
  unfold repeatValue
  split
  · simp
  · split
    · simp
    · split <;> simp

theorem setPair_inRange {p : Params} (h : ParamRanges p) (id v : Nat) : (setPair p id v).InRange := by
  unfold setPair
  split
  · exact storeNat_inRange (by decide) v fun _ _ hx => { h with brightness := hx }
  · refine .ofRanges ?_ _; exact { h with repeats := repeatValue_cases v }
  · exact storeNat_inRange (by decide) v fun _ hx hx' => { h with senseBudget := ⟨hx, hx'⟩ }
  · exact storeNat_inRange (by decide) v fun _ hx hx' => { h with blankBudget := ⟨hx, hx'⟩ }
  · exact storeShort_inRange v _ fun _ hx => { h with red := ⟨hx, h.red.2⟩ }
  · exact storeShort_inRange v _ fun _ hx => { h with green := ⟨hx, h.green.2⟩ }
  · exact storeShort_inRange v _ fun _ hx => { h with blue := ⟨hx, h.blue.2⟩ }
  · exact storeOpen_inRange v _ fun _ hx hx' => { h with red := ⟨hx, hx'⟩ }
  · exact storeOpen_inRange v _ fun _ hx hx' => { h with green := ⟨hx, hx'⟩ }
  · exact storeOpen_inRange v _ fun _ hx hx' => { h with blue := ⟨hx, hx'⟩ }
  · exact storeNat_inRange (by decide) v fun _ hx hx' => { h with confirmHits := ⟨hx, hx'⟩ }
  · exact storeNat_inRange (by decide) v fun _ hx hx' => { h with flipLimit := ⟨hx, hx'⟩ }
  · exact storeNat_inRange (by decide) v fun _ _ hx => { h with concealShare := hx }
  · exact storeNat_inRange (by decide) v fun _ hx hx' => { h with frameTimeout := ⟨hx, hx'⟩ }
  · exact storeNat_inRange (by decide) v fun _ hx hx' => { h with holdTime := ⟨hx, hx'⟩ }
  · exact storeInt_inRange (by decide) _ fun _ hx hx' => { h with senseTempMax := ⟨hx, hx'⟩ }
  · split
    · refine .ofRanges ?_ _; exact { h with }
    · refine .ofRanges ?_ _; exact { h with }
    · exact .refused
  · split
    · refine .ofRanges ?_ _; exact { h with }
    · refine .ofRanges ?_ _; exact { h with }
    · exact .refused
  · split
    · refine .ofRanges ?_ _; exact { h with }
    · refine .ofRanges ?_ _; exact { h with }
    · exact .refused
  · refine .ofRanges ?_ _; exact { h with }
  · exact .refused

/-- SET_PARAM moves the parameters and the notice flags alone. -/
theorem setPairs_unit (ps : List (Nat × Nat)) (i : Nat) (u : MessageUnit) :
    (setPairs ps i u).unit
      = { u with params := (setPairs ps i u).unit.params, notices := (setPairs ps i u).unit.notices } := by
  induction ps generalizing i u with
  | nil => rfl
  | cons x ps ih =>
    unfold setPairs
    split
    · exact ih _ _
    · exact ih _ _

theorem setPairs_ranges (ps : List (Nat × Nat)) (i : Nat) {u : MessageUnit} (h : ParamRanges u.params) :
    ParamRanges (setPairs ps i u).unit.params := by
  induction ps generalizing i u with
  | nil => exact h
  | cons x ps ih =>
    unfold setPairs
    split
    · exact ih _ h
    · next p c hstored => exact ih _ (setPair_inRange h _ _ p c hstored)

theorem Steady.paramsSet {q : Request} {s : State} (hroom : q.broadcast = false → replyRoom s = true) :
    Steady s (Machine.paramsSet q s) := by
  have hunit := setPairs_unit (paramPairs q.payload) 0 s.unit
  have hreplies : (setPairs (paramPairs q.payload) 0 s.unit).unit.replies = s.unit.replies := by rw [hunit]
  have hdefects : (setPairs (paramPairs q.payload) 0 s.unit).unit.defectsSince = s.unit.defectsSince := by rw [hunit]
  refine Steady.thenAnswer (t := s.withUnit _) (.withUnit ?_) hreplies hroom _ _ _
  exact
    { replies := fun h => hreplies ▸ h
      params := setPairs_ranges _ _
      defects := fun h => hdefects ▸ h }

/-! ## Gains and rows (R31, R37, R180) -/

theorem Steady.putGains {s : State} {i : Nat} {vs : List Nat} (hfits : i + vs.length ≤ 288 * depth s) :
    Steady s (s.withComp { s.comp with gains := Machine.putGains s.comp.gains i (vs.map storedGain) }) := by
  refine .withComp id fun h => ⟨fun g hg => ?_, ?_⟩
  · simp only [Machine.putGains, List.mem_append] at hg
    obtain (hg | hg) | hg := hg
    · exact h.1 g (List.mem_of_mem_take hg)
    · obtain ⟨v, -, rfl⟩ := List.mem_map.mp hg
      exact clampNat_bounds (by decide) v
    · exact h.1 g (List.mem_of_mem_drop hg)
  · rw [length_putGains (by rw [List.length_map]; omega)]
    exact h.2

theorem Steady.gainsLoaded {q : Request} {s : State} (hroom : q.broadcast = false → replyRoom s = true) :
    Steady s (Machine.gainsLoaded q s) := by
  simp only [Machine.gainsLoaded]
  split
  · exact .refuse _ _ _ hroom
  · next hfits => exact (Steady.putGains (Nat.le_of_not_lt hfits)).thenAnswer rfl hroom _ _ _

theorem length_unpackCodes (n : Nat) : ∀ p : List Byte, p.length = 3 * n → (unpackCodes p).length = 2 * n := by
  induction n with
  | zero => intro p hp; rw [List.eq_nil_of_length_eq_zero hp]; rfl
  | succ n ih =>
    intro p hp
    match p with
    | [] | [_] | [_, _] => simp at hp <;> omega
    | b0 :: b1 :: b2 :: rest =>
      have hrest : rest.length = 3 * n := by simp only [List.length_cons] at hp; omega
      simp only [unpackCodes, List.length_cons, ih rest hrest]
      omega

theorem unpackCodes_le (p : List Byte) : ∀ x ∈ unpackCodes p, x ≤ 4095 := by
  induction p using unpackCodes.induct with
  | case1 b0 b1 b2 rest ih =>
    have h0 := b0.isLt
    have h1 := b1.isLt
    have h2 := b2.isLt
    simp only [unpackCodes, List.forall_mem_cons]
    exact ⟨by omega, by omega, ih⟩
  | case2 p hp => simp [unpackCodes]

theorem Steady.storeRow {codes : List Nat} (r : Nat) (hlength : codes.length = 144) (hcodes : ∀ x ∈ codes, x ≤ 4095)
    (s : State) : Steady s (Machine.storeRow r codes s) := by
  unfold Machine.storeRow
  split
  · refine .withStore { buffers := fun hfill hdisplay => ⟨⟨?_, ?_, ?_⟩, hdisplay⟩, rowFlags := List.length_set .. }
    · intro row hrow
      rcases List.mem_or_eq_of_mem_set hrow with hold | rfl
      · exact hfill.1 row hold
      · exact hcodes
    · exact (List.length_set ..).trans hfill.2.1
    · intro row hrow
      rcases List.mem_or_eq_of_mem_set hrow with hold | rfl
      · exact hfill.2.2 row hold
      · exact hlength
  · exact .withStore { badRow := fun _ => satAdd_le _ _ }

theorem Steady.rowTaken {q : Request} (hlength : lengthFits kRow q.payload.length = true) (s : State) :
    Steady s (Machine.rowTaken q s) := by
  have hbytes : q.payload.length = 217 := by simpa [lengthFits] using hlength
  exact .storeRow _ (length_unpackCodes 72 _ (by simp [hbytes])) (unpackCodes_le _) s

theorem le16At_lt (p : List Byte) (i : Nat) : le16At p i < 65536 := by
  have hlow := byteAt_le p i
  have hhigh := byteAt_le p (i + 1)
  unfold le16At
  omega

theorem Steady.arrival {n : Nat} (hn : n < 65536) (s : State) : Steady s (s.withStore (s.store.arrival n)) := by
  refine .withStore
    { buffers := fun hfill hdisplay => ?_
      rowFlags := List.length_map _
      skipped := fun _ => satAdd_le _ _
      incomplete := fun h => ?_
      frameCount := fun _ => Nat.mod_lt _ (by decide)
      lastNumber := fun _ => hn }
  · simp only [FrameStore.arrival]
    split
    · exact ⟨hdisplay, hfill⟩
    · exact ⟨hfill, hdisplay⟩
  · simp only [FrameStore.arrival]
    split
    · exact h
    · exact satAdd_le _ _

/-! ## TEST (R65) -/

theorem Steady.testTaken {q : Request} {s : State} (hroom : q.broadcast = false → replyRoom s = true) :
    Steady s (Machine.testTaken q s) := by
  unfold Machine.testTaken
  split
  · exact .refuse _ _ _ hroom
  · next hmode =>
    split
    · exact .refuse _ _ _ hroom
    · split
      · exact .refuse _ _ _ hroom
      · next hfew =>
        have hless : s.sense.spots.length < 8 := Nat.lt_of_not_le hfew
        exact .withSense { spots := fun _ => by simpa using hless, noSpot := fun m => absurd m hmode }

/-! ## REPAIR (R123 to R128) -/

theorem Steady.judged {q : Request} {checks : List (Bool × ReplyStatus)} {accept : State → State} {s : State}
    (hroom : q.broadcast = false → replyRoom s = true)
    (haccept : (∀ c ∈ checks, c.1 = false) → Steady s (accept s)) : Steady s (Machine.judged q checks accept s) := by
  unfold Machine.judged
  split
  · exact .refuse _ _ _ hroom
  · next hnone =>
    refine haccept fun c hc => ?_
    simp only [firstRefusal, Option.map_eq_none_iff, List.find?_eq_none] at hnone
    simpa using hnone c hc

theorem Completes.repairRow {op : Nat} {q : Request} {owner : State → State} {s : State}
    (howner : ∀ u, (q.broadcast = false → replyRoom u = true) → Steady u (owner u)) :
    Completes s (Machine.repairRow op q owner s) := by
  unfold Machine.repairRow
  split
  · exact (Lawful.refl s).completes
  · refine .answered rfl (by decide) fun _ u hroom => ?_
    split
    · exact (howner u hroom).lawful
    · exact (Steady.refuse _ _ _ hroom).lawful

/-- An accepted REPAIR whose entries have room is answered OK. -/
theorem Steady.repairDone {q : Request} {s : State} (hroom : q.broadcast = false → replyRoom s = true) {cs : List Change}
    (hchanges : changeRoom cs.length s = true) : Steady s (repairOk q (Machine.addChanges cs s)) :=
  (Steady.addChanges hchanges).thenAnswer (ListFrame.addChanges cs s).replies hroom _ _ _

theorem manualRecord_replies (t : Target) (a : DefectAction) (s : State) :
    (manualRecord t a s).unit.replies = s.unit.replies := (ListFrame.countDefect _).replies

theorem manualRecord_changes (t : Target) (a : DefectAction) (s : State) :
    (manualRecord t a s).repair.changes = s.repair.changes := by simp [manualRecord, countDefect_repair, addRecord_repair]

theorem Steady.cellManual {q : Request} {s : State} (hroom : q.broadcast = false → replyRoom s = true)
    {st : CellState} {a : DefectAction} (hchanges : changeRoom 1 s = true)
    (hrecord : recordRoom s (.cell (repA q) (repB q)) = true) : Steady s (Machine.cellManual q st a s) := by
  refine Steady.trans (t := manualRecord (.cell (repA q) (repB q)) a s) ((Steady.addRecord hrecord).trans (.countDefect _))
    (.repairDone (fun hq => (replyRoom_congr (manualRecord_replies _ _ _)).trans (hroom hq)) ?_)
  simpa only [changeRoom, manualRecord_changes, List.length_singleton] using hchanges

theorem Steady.cellAction {q : Request} {s : State} (hroom : q.broadcast = false → replyRoom s = true)
    (bad : Bool) (st : CellState) (a : DefectAction) :
    Steady s (Machine.judged q (cellChecks (repA q) (repB q) bad s) (Machine.cellManual q st a) s) := by
  refine .judged hroom fun hpassed => ?_
  simp only [cellChecks, List.forall_mem_cons, Bool.not_eq_false'] at hpassed
  obtain ⟨-, -, hchanges, -, hrecord, -⟩ := hpassed
  exact .cellManual hroom hchanges hrecord

theorem length_removalEntries_le (s : State) (t : Target) : (removalEntries s t).length ≤ 1 := by
  unfold removalEntries; split <;> simp

theorem changeRoom_of_le {n m : Nat} {s : State} (h : changeRoom n s = true) (hle : m ≤ n) : changeRoom m s = true := by
  simp only [changeRoom, decide_eq_true_eq] at h ⊢
  omega

theorem Steady.cellRelease {q : Request} {s : State} (hroom : q.broadcast = false → replyRoom s = true) :
    Steady s (Machine.judged q
      [(badCell s (repA q) (repB q), .field), (checkHasCell s (repA q) (repB q), .busy), (!changeRoom 2 s, .busy),
        ((standingRecord s (.cell (repA q) (repB q))).isNone, .notFound)] (cellReleased q) s) := by
  refine .judged hroom fun hpassed => ?_
  simp only [List.forall_mem_cons, Bool.not_eq_false'] at hpassed
  obtain ⟨-, -, hchanges, -⟩ := hpassed
  exact .repairDone hroom (changeRoom_of_le hchanges (Nat.succ_le_succ (length_removalEntries_le _ _)))

theorem Steady.rowRelease {q : Request} {s : State} (hroom : q.broadcast = false → replyRoom s = true) :
    Steady s (Machine.judged q
      [(decide (depth s ≤ repA q), .field), (checkHasRow s (repA q), .busy), (!changeRoom 2 s, .busy),
        ((standingRecord s (.row (repA q))).isNone, .notFound)] (rowReleased q) s) := by
  refine .judged hroom fun hpassed => ?_
  simp only [List.forall_mem_cons, Bool.not_eq_false'] at hpassed
  obtain ⟨-, -, hchanges, -⟩ := hpassed
  exact .repairDone hroom (changeRoom_of_le hchanges (Nat.succ_le_succ (length_removalEntries_le _ _)))

theorem Steady.dieReleased {q : Request} {x : DieRef} {s : State} (hroom : q.broadcast = false → replyRoom s = true)
    (hchanges : changeRoom (if dieReleaseMoves s x.row x.lane then 2 else 1) s = true) :
    Steady s (Machine.dieReleased q x s) := by
  refine (Steady.setHealth x .unknown s).trans (.repairDone (s := Machine.setHealth x .unknown s) hroom ?_)
  refine changeRoom_of_le hchanges ?_
  have hone := length_removalEntries_le (Machine.setHealth x .unknown s) (.die x.row x.lane x.die)
  have hsame : dieReleaseMoves (Machine.setHealth x .unknown s) x.row x.lane = dieReleaseMoves s x.row x.lane := rfl
  rw [hsame, List.length_append]
  split
  · simp only [List.length_singleton]; omega
  · simpa using hone

theorem Steady.dieRelease {q : Request} {s : State} (hroom : q.broadcast = false → replyRoom s = true) :
    Steady s (Machine.dieRelease q s) := by
  unfold Machine.dieRelease
  split
  · exact .refuse _ _ _ hroom
  · refine .judged hroom fun hpassed => ?_
    simp only [List.forall_mem_cons, Bool.not_eq_false'] at hpassed
    obtain ⟨-, hchanges, -⟩ := hpassed
    exact .dieReleased hroom hchanges

theorem Steady.bindAccepted (q : Request) (x : DieRef) (s : State) : Steady s (Machine.bindAccepted q x s) :=
  ((Steady.setSlot _ _ _).trans (.withRepair {})).trans (.tried _ _)

theorem Steady.bindTaken {q : Request} {s : State} (hroom : q.broadcast = false → replyRoom s = true) :
    Steady s (Machine.judged q (bindChecks q s)
      (fun u => match bindDie u (repB q) with
        | some x => Machine.bindAccepted q x u
        | none => u) s) := by
  refine .judged hroom fun _ => ?_
  split
  · exact .bindAccepted _ _ _
  · exact .refl _

theorem Steady.laneRelease {q : Request} {s : State} (hroom : q.broadcast = false → replyRoom s = true) :
    Steady s (Machine.judged q
      [(decide (Config.lanes ≤ repB q), .field), (checkHasLane s (repB q), .busy), (bindOn s (repB q), .busy),
        (!changeRoom (if unbindMoves s (repB q) then 2 else 1) s, .busy),
        ((standingRecord s (.lane (repB q))).isNone, .notFound)] (laneUnbound q) s) := by
  refine .judged hroom fun hpassed => ?_
  simp only [List.forall_mem_cons, Bool.not_eq_false'] at hpassed
  obtain ⟨-, -, -, hchanges, -⟩ := hpassed
  refine .repairDone hroom (changeRoom_of_le hchanges ?_)
  have hone := length_removalEntries_le s (.lane (repB q))
  rw [List.length_append]
  split
  · simp only [List.length_singleton]; omega
  · simpa using hone

theorem Steady.slotRelease {q : Request} {s : State} (hroom : q.broadcast = false → replyRoom s = true) :
    Steady s (Machine.judged q
      [(decide (Config.spareSlots ≤ repC q), .field), (!(slotNow s (repC q) == .failed), .state)] (slotUnbound q) s) := by
  refine .judged hroom fun _ => ?_
  exact ((Steady.setSlot _ _ s).trans (.raise _ _)).thenAnswer (raise_replies _ _) hroom _ _ _

/-! ## LOAD_DEFECTS and CLEAR_DEFECTS (R137 to R141) -/

theorem Steady.setCellState (r l : Nat) (st : CellState) (s : State) : Steady s (Machine.setCellState r l st s) :=
  .withRepair { depth := cellSet_length .., width := cellSet_rows _ _ _ _ }

theorem Steady.setLane (l : Nat) (st : LaneState) (s : State) : Steady s (Machine.setLane l st s) :=
  .withRepair { lanes := List.length_set .., slots := length_slotsAfter .. }

theorem Steady.loadEffect (x : Defect) (s : State) : Steady s (Machine.loadEffect x s) := by
  unfold Machine.loadEffect
  split
  · exact (Steady.setHealth _ _ _).trans (.removeDies _ _)
  · exact ((Steady.setHealth _ _ _).trans (.setCellState _ _ _ _)).trans (.removeDies _ _)
  · split
    · exact .setLane _ _ _
    · exact .refl _
  · exact (Steady.setLane _ _ _).trans (.removeDies _ _)
  · exact (Steady.withRepair { rows := List.length_set .. }).trans (.removeDies _ _)
  · split
    · exact .setCellState _ _ _ _
    · exact .refl _
  · exact .refl _

theorem loadEffect_unit (x : Defect) (s : State) : (loadEffect x s).unit = s.unit := by
  unfold loadEffect
  split
  · exact removeDies_unit _ _
  · exact removeDies_unit _ _
  · split <;> rfl
  · exact removeDies_unit _ _
  · exact removeDies_unit _ _
  · split <;> rfl
  · rfl

theorem loadAccepted_unit (x : Defect) (s : State) : (loadAccepted x s).unit = s.unit := loadEffect_unit _ _

theorem Steady.loadAccepted {x : Defect} {s : State} (hroom : recordRoom s x.target = true) :
    Steady s (Machine.loadAccepted x s) :=
  ((Steady.addRecord hroom).trans (.loadEffect _ _)).trans (.zeroVictims _)

theorem recordRoom_of_loadRefusal {x : Defect} {s : State} (h : loadRefusal s x = none) : recordRoom s x.target = true := by
  have hfew : s.repair.defects.length < 192 := by
    refine Nat.lt_of_not_le fun hfull => ?_
    simp only [loadRefusal, if_pos (show Config.defectPlaces ≤ s.repair.defects.length from hfull)] at h
    repeat' split at h
    all_goals cases h
  simp [recordRoom, hfew]

/-- One record of a LOAD_DEFECTS is refused with nothing done, or has a place and is accepted. -/
theorem loadOne_cases (b : List Byte) (s : State) :
    (∃ st, loadOne b s = (some st, s))
      ∨ ∃ x, loadOne b s = (none, loadAccepted x s) ∧ recordRoom s x.target = true := by
  unfold loadOne
  split
  · exact .inl ⟨_, rfl⟩
  · next x _ =>
    split
    · exact .inl ⟨_, rfl⟩
    · next hnone => exact .inr ⟨x, rfl, recordRoom_of_loadRefusal hnone⟩

theorem Steady.loadAll (bs : List (List Byte)) (i : Nat) (s : State) : Steady s (Machine.loadAll bs i s).state := by
  induction bs generalizing i s with
  | nil => exact .refl _
  | cons b bs ih =>
    unfold Machine.loadAll
    obtain ⟨st, hone⟩ | ⟨x, hone, hroom⟩ := loadOne_cases b s
    · rw [hone]; exact ih _ _
    · rw [hone]; exact (Steady.loadAccepted hroom).trans (ih _ _)

theorem loadAll_unit (bs : List (List Byte)) (i : Nat) (s : State) : (loadAll bs i s).state.unit = s.unit := by
  induction bs generalizing i s with
  | nil => rfl
  | cons b bs ih =>
    unfold loadAll
    obtain ⟨st, hone⟩ | ⟨x, hone, -⟩ := loadOne_cases b s
    · rw [hone]; exact ih _ _
    · rw [hone]; exact (ih _ _).trans (loadAccepted_unit x s)

theorem Steady.defectsLoaded {q : Request} {s : State} (hroom : q.broadcast = false → replyRoom s = true) :
    Steady s (Machine.defectsLoaded q s) := by
  unfold Machine.defectsLoaded
  split
  · exact (Steady.loadAll _ 0 s).thenAnswer (congrArg _ (loadAll_unit _ 0 s)) hroom _ _ _
  · exact .refuse _ _ _ hroom

/-- The cleared tables have the size that the tables had. -/
theorem Keeps.clearRepair (s : State) : Keeps s (s.withRepair (clearedRepair (depth s) s.repair)) where
  pending := rfl
  caps k := { k with defects := Nat.zero_le _ }
  params := id
  records _ := List.nodup_nil
  tables k := { k with
    cells := ⟨List.length_replicate, fun row hrow => by rw [List.eq_of_mem_replicate hrow]; exact List.length_replicate⟩
    lanes := List.length_replicate
    slots := List.length_replicate
    rows := List.length_replicate }
  counts k := { k with unrecorded := Nat.zero_le _, seqCounter := Nat.zero_lt_succ _ }

theorem Steady.clearRepair (s : State) : Steady s (s.withRepair (clearedRepair (depth s) s.repair)) where
  toKeeps := .clearRepair s
  ctl := rfl
  quiet _ k := { k with }
  drive _ k := ⟨k.state, k.phase⟩

theorem Steady.defectsCleared {q : Request} {s : State} (hroom : q.broadcast = false → replyRoom s = true) :
    Steady s (Machine.defectsCleared q s) := by
  unfold Machine.defectsCleared
  split
  · exact (((Steady.clearRepair s).trans (.zeroVictims _)).thenAnswer rfl hroom _ _ _).trans (.offerReplies _)
  · exact .refuse _ _ _ hroom

/-! ## Resets (R17, R18, R129, R142, R161, R162, R174, R175) -/

theorem PortLimits.zero : PortLimits .zero := by constructor <;> decide

/-- Every table of one entry throughout is in shape. -/
theorem shaped_replicate {α : Type} (s : State) (x : α) : Shaped s (List.replicate (depth s) (List.replicate 144 x)) :=
  ⟨List.length_replicate, fun row hrow => by rw [List.eq_of_mem_replicate hrow]; exact List.length_replicate⟩

theorem codesFit_zero (d : Nat) : CodesFit (List.replicate d (List.replicate 144 0)) := fun row hrow x hx => by
  rw [List.eq_of_mem_replicate hrow] at hx
  exact (List.eq_of_mem_replicate hx).trans_le (Nat.zero_le _)

theorem paramRanges_default : ParamRanges .default := by constructor <;> decide

theorem capacities_fresh (straps : BitVec 2) (d : Nat) (cause : ResetCause) (inReset : Bool) (sample : Int) (fault : Bool) :
    Capacities (State.fresh straps d cause inReset sample fault) where
  replies := Nat.zero_le _
  upBuf := Nat.zero_le _
  downBuf := Nat.zero_le _
  header _ := Nat.zero_lt_two
  passBuf := Nat.zero_le _
  spots := Nat.zero_le _
  suspects := Nat.zero_le _
  queue := Nat.zero_le _
  changes := Nat.zero_le _
  defects := Nat.zero_le _

theorem tableRanges_fresh (straps : BitVec 2) (cause : ResetCause) (inReset : Bool) (sample : Int) (fault : Bool) :
    TableRanges (State.fresh straps (depthOf straps) cause inReset sample fault) where
  pulses := ⟨codesFit_zero _, shaped_replicate (State.fresh straps _ _ _ _ _) 0⟩
  fill := ⟨codesFit_zero _, shaped_replicate (State.fresh straps _ _ _ _ _) 0⟩
  display := ⟨codesFit_zero _, shaped_replicate (State.fresh straps _ _ _ _ _) 0⟩
  gains := ⟨fun g hg => by rw [List.eq_of_mem_replicate hg]; decide, List.length_replicate⟩
  rowFlags := List.length_replicate
  cells := shaped_replicate (State.fresh straps _ _ _ _ _) _
  lanes := List.length_replicate
  slots := List.length_replicate
  rows := List.length_replicate
  traces := List.length_replicate

theorem countLimits_fresh (straps : BitVec 2) (d : Nat) (cause : ResetCause) (inReset : Bool) (sample : Int) (fault : Bool) :
    CountLimits (State.fresh straps d cause inReset sample fault) where
  up := .zero
  down := .zero
  skipped := Nat.zero_le _
  incomplete := Nat.zero_le _
  badRow := Nat.zero_le _
  frameCount := Nat.zero_lt_succ _
  lastNumber := Nat.zero_lt_succ _
  sweeps := Nat.zero_le _
  window := Nat.zero_lt_succ _
  unrecorded := Nat.zero_le _
  seqCounter := Nat.zero_lt_succ _
  defects := Nat.zero_le _
  subordinate := Nat.zero_le _
  address := Nat.zero_le _

theorem timerLaw_fresh (straps : BitVec 2) (d : Nat) (cause : ResetCause) (inReset : Bool) (sample : Int) (fault : Bool) :
    TimerLaw (State.fresh straps d cause inReset sample fault) := by
  constructor <;> simp [State.fresh]

theorem standbyQuiet_fresh (straps : BitVec 2) (d : Nat) (cause : ResetCause) (inReset : Bool) (sample : Int) (fault : Bool) :
    StandbyQuiet (State.fresh straps d cause inReset sample fault) := by
  constructor <;> simp [State.fresh, SenseUnit.fresh, Repair.fresh]

theorem driveLaw_fresh (straps : BitVec 2) (d : Nat) (cause : ResetCause) (inReset : Bool) (sample : Int) (fault : Bool) :
    DriveLaw (State.fresh straps d cause inReset sample fault) :=
  ⟨rfl, by simp [State.fresh]⟩

/-- A power-on or link reset, whatever it leaves in the link's own reading, meets every law. -/
theorem Lawful.hardReset (straps : BitVec 2) (cause : ResetCause) (inReset : Bool) (sample : Int) (fault : Bool)
    (s : State) : Lawful s (Machine.hardReset straps cause inReset sample fault s) where
  pending := rfl
  caps _ := { capacities_fresh straps (depthOf straps) cause inReset sample fault with }
  params _ := paramRanges_default
  records _ := List.nodup_nil
  tables _ := { tableRanges_fresh straps cause inReset sample fault with }
  counts _ := { countLimits_fresh straps (depthOf straps) cause inReset sample fault with }
  timers _ := { timerLaw_fresh straps (depthOf straps) cause inReset sample fault with }
  quiet _ := { standbyQuiet_fresh straps (depthOf straps) cause inReset sample fault with }
  drive _ := ⟨rfl, (driveLaw_fresh straps (depthOf straps) cause inReset sample fault).phase⟩

theorem softReset_downBuf_le (s : State) (h : s.link.downBuf.length ≤ 2) : (softLink s).downBuf.length ≤ 2 := by
  simp only [softLink]
  split
  · exact (List.length_take_le' _ _).trans h
  · exact Nat.zero_le _

theorem softReset_passBuf_le (s : State) (h : s.link.passBuf.length ≤ 4) : (softLink s).passBuf.length ≤ 4 := by
  simp only [softLink]
  split
  · exact (List.length_take_le' _ _).trans h
  · exact Nat.zero_le _

theorem RxState.softReset_ne_header (x : RxState) : x.softReset ≠ .header := by
  cases x with
  | skip why h => cases why <;> simp [RxState.softReset]
  | _ => simp [RxState.softReset]

/-- The depth that the application of changes leaves. -/
theorem depth_applyChangesAt (frame : Nat) (s : State) : depth (applyChangesAt frame s) = depth s := by
  simp only [depth, (ListFrame.applyChangesAt frame s).straps]

theorem Lawful.softReset (reading : Int) (s : State) : Lawful s (Machine.softReset reading s) := by
  have happly := (Steady.applyChangesAt 0 s).lawful
  refine happly.trans ?_
  have hdepth : depth (Machine.softReset reading s) = depth (Machine.applyChangesAt 0 s) := rfl
  exact
    { pending := rfl
      caps := fun k => { k with
        replies := Nat.zero_le _
        upBuf := Nat.zero_le _
        downBuf := softReset_downBuf_le _ k.downBuf
        header := fun hrx => absurd hrx (RxState.softReset_ne_header _)
        passBuf := softReset_passBuf_le _ k.passBuf
        spots := Nat.zero_le _
        suspects := Nat.zero_le _
        queue := Nat.zero_le _ }
      params := id
      records := id
      tables := fun k => { k with
        pulses := ⟨codesFit_zero _, shaped_replicate (Machine.softReset reading s) 0⟩
        fill := ⟨codesFit_zero _, shaped_replicate (Machine.softReset reading s) 0⟩
        display := ⟨codesFit_zero _, shaped_replicate (Machine.softReset reading s) 0⟩
        rowFlags := List.length_replicate
        slots := (List.length_map _).trans k.slots
        traces := List.length_replicate }
      counts := fun k => { k with
        up := .zero
        down := .zero
        skipped := Nat.zero_le _
        incomplete := Nat.zero_le _
        badRow := Nat.zero_le _
        frameCount := Nat.zero_lt_succ _
        lastNumber := Nat.zero_lt_succ _
        sweeps := Nat.zero_le _
        window := Nat.zero_lt_succ _
        defects := Nat.zero_le _ }
      timers := fun _ => by constructor <;> simp [Machine.softReset]
      quiet := fun _ => by
        constructor <;> simp [Machine.softReset, SenseUnit.fresh, softRepair, Machine.applyChangesAt]
      drive := fun _ => ⟨rfl, by simp [Machine.softReset]⟩ }

theorem Steady.linkResetEnd (s : State) : Steady s (Machine.linkResetEnd s) :=
  (Steady.withLink {}).trans (.withSense {})

theorem Lawful.resetTaken {q : Request} {s : State} (hroom : q.broadcast = false → replyRoom s = true) (reading : Int) :
    Lawful s (Machine.resetTaken q reading s) := by
  unfold Machine.resetTaken
  split
  · exact .softReset _ _
  · next hq => exact ((Steady.pushReply _ (hroom (by simpa using hq))).trans (.withUnit {})).lawful

end Sys2Proof.Machine

/-! The Mode Controller's own commands keep the laws, and so does every command and every step (O2, O54 to O60). -/

namespace Sys2Proof.Machine

-- One theorem at a time: elaborated at once, they wait on each other and each holds a thread.
set_option Elab.async false

/-! ## The Mode Controller (R25 to R29) -/

theorem DriveAs.withCtl {e : Bool} {s : State} (h : DriveAs e s) (x : ModeCtl) : DriveAs e (s.withCtl x) :=
  ⟨h.state, h.phase⟩

theorem QuietBut.withCtl {w : Option Waiting} {s : State} (h : QuietBut w s) (x : ModeCtl) (hmode : x.mode = s.ctl.mode) :
    QuietBut w (s.withCtl x) := by
  obtain ⟨htest, hwindow, hcheck, hchanges, hwaiting, hspots⟩ := h
  constructor <;> rw [State.withCtl_ctl, hmode] <;> assumption

@[simp] theorem enterVideo_ctl (v : VideoState) (s : State) : (enterVideo v s).ctl = { s.ctl with video := v } := by
  unfold enterVideo
  dsimp only
  split
  · rfl
  · rw [raise_eq]; rfl

theorem Keeps.enterVideo (v : VideoState) (s : State) : Keeps s (Machine.enterVideo v s) := by
  unfold Machine.enterVideo
  dsimp only
  split
  · exact .withCtl _ _
  · exact (Keeps.withCtl _ _).trans (Steady.raise _ _).toKeeps

theorem DriveAs.enterVideo {e : Bool} {s : State} (h : DriveAs e s) (v : VideoState) :
    DriveAs e (Machine.enterVideo v s) := by
  unfold Machine.enterVideo
  dsimp only
  split
  · exact h.withCtl _
  · exact (Steady.raise _ _).drive e (h.withCtl _)

theorem QuietBut.enterVideo {w : Option Waiting} {s : State} (h : QuietBut w s) (v : VideoState) :
    QuietBut w (Machine.enterVideo v s) := by
  unfold Machine.enterVideo
  dsimp only
  split
  · exact h.withCtl _ rfl
  · exact (Steady.raise _ _).quiet w (h.withCtl _ rfl)

/-! ## A FRAME arrival in RUN (R24, R26) -/

theorem moveVideo_ctl (swapped : Bool) (s : State) : (moveVideo swapped s).ctl =
    { s.ctl with
      video := videoAfter s.ctl.video swapped
      frameTimer := some s.unit.params.frameTimeout
      holdTimer := if swapped then none else s.ctl.holdTimer } := by
  unfold moveVideo; rw [enterVideo_ctl]; rfl

/-- A FRAME arrival never lets drive enable fall. -/
theorem driveEnable_moveVideo (swapped : Bool) {s : State} (h : driveEnable s = true) :
    driveEnable (moveVideo swapped s) = true := by
  simp only [driveEnable, moveVideo_ctl, videoAfter, Bool.and_eq_true] at h ⊢
  refine ⟨h.1, ?_⟩
  cases swapped
  · exact h.2
  · rfl

theorem TimerLaw.moveVideo {s : State} (h : TimerLaw s) (hmode : s.ctl.mode = .run) (swapped : Bool) :
    TimerLaw (Machine.moveVideo swapped s) := by
  obtain ⟨-, hhold, hblank, -⟩ := h
  constructor <;> rw [moveVideo_ctl]
  · exact fun _ => hmode
  · cases swapped
    · exact hhold
    · simp [videoAfter]
  · exact hblank
  · exact fun _ => hmode

theorem boundaryCompose_ctl (was : Bool) (s : State) : (boundaryCompose was s).ctl = s.ctl := by
  unfold boundaryCompose
  dsimp only
  rw [(Steady.scanComposed _).ctl]
  split
  · exact (GrantFrame.driveRises _).ctl.trans (Steady.compose s).ctl
  · exact (Steady.compose s).ctl

theorem Keeps.boundaryCompose (was : Bool) (s : State) : Keeps s (Machine.boundaryCompose was s) := by
  unfold Machine.boundaryCompose
  refine (Steady.compose s).toKeeps.trans (Keeps.trans ?_ (Steady.scanComposed _).toKeeps)
  split
  · exact .driveRises _
  · exact .refl _

/-- Where drive enable has not fallen, the composition brings the Scan Driver to what it now calls for. -/
theorem DriveAs.boundaryCompose {was : Bool} {s : State} (h : DriveAs was s) (hstill : was = true → driveEnable s = true) :
    DriveAs (driveEnable s) (Machine.boundaryCompose was s) := by
  have hcomposed := (Steady.compose s).drive was h
  unfold Machine.boundaryCompose
  refine (Steady.scanComposed _).drive _ ?_
  rw [driveEnable_congr (Steady.compose s).ctl]
  cases was
  · cases driveEnable s
    · exact hcomposed
    · exact hcomposed.driveRises
  · rw [hstill rfl]; exact hcomposed

theorem Lawful.frameInRun (swapped : Bool) (reading : Int) {s : State} (hmode : s.ctl.mode = .run) :
    Lawful s (Machine.frameInRun swapped reading s) := by
  have hmove : Keeps s (Machine.moveVideo swapped s) := (Keeps.withCtl _ _).trans (.enterVideo _ _)
  have happly := Steady.afterApplication (Machine.applyChanges (Machine.moveVideo swapped s))
  have hboundary : Steady (Machine.moveVideo swapped s) (Machine.boundaryApply (Machine.moveVideo swapped s)) :=
    (Steady.applyChanges _).trans happly
  have hcompose := Keeps.boundaryCompose (driveEnable s) (Machine.boundaryApply (Machine.moveVideo swapped s))
  have hctl := (boundaryCompose_ctl (driveEnable s) (Machine.boundaryApply (Machine.moveVideo swapped s))).trans hboundary.ctl
  have hrun : (Machine.boundaryCompose (driveEnable s) (Machine.boundaryApply (Machine.moveVideo swapped s))).ctl.mode = .run := by
    rw [hctl, moveVideo_ctl]; exact hmode
  have hend : Steady _ (Machine.frameInRun swapped reading s) :=
    (Steady.openWindow _ reading (by rw [hrun]; decide)).trans (.offerReplies _)
  have hkeeps := ((hmove.trans hboundary.toKeeps).trans hcompose).trans hend.toKeeps
  exact
    { toKeeps := hkeeps
      timers := fun h => (h.moveVideo hmode swapped).congr (hend.ctl.trans hctl)
      quiet := fun _ => (standbyQuiet_iff _).mpr (.ofAwake (by rw [hend.ctl, hrun]; decide))
      drive := fun h => by
        have hdrive := hboundary.drive _ ((((driveLaw_iff s).mp h).withCtl _).enterVideo _)
        have hcomposed := hdrive.boundaryCompose fun hwas =>
          (driveEnable_congr hboundary.ctl).trans (driveEnable_moveVideo swapped hwas)
        rw [driveLaw_iff, driveEnable_congr (hend.ctl.trans (boundaryCompose_ctl _ _))]
        exact hend.drive _ hcomposed }

theorem Lawful.frameTaken (q : Request) (reading : Int) (s : State) : Lawful s (Machine.frameTaken q reading s) := by
  have harrival := Steady.arrival (le16At_lt q.payload 0) s
  unfold Machine.frameTaken
  dsimp only
  split
  · next hmode => exact harrival.lawful.trans (.frameInRun _ _ hmode)
  · exact harrival.lawful
  · exact harrival.lawful

/-! ## The timers (R23, R27, R28) -/

theorem Lawful.stopFrameTimer (s : State) : Lawful s (s.withCtl { s.ctl with frameTimer := none }) where
  toKeeps := .withCtl _ _
  timers h := { h with frame := by simp }
  quiet h := by rw [standbyQuiet_iff] at h ⊢; exact h.withCtl _ rfl
  drive h := by rw [driveLaw_iff] at h ⊢; exact h.withCtl _

/-- The entry to HOLDING (R27): drive enable stays true. -/
theorem Lawful.enterHolding {s : State} (hvideo : s.ctl.video = .live) (hframe : s.ctl.frameTimer = none) (n : Nat) :
    Lawful s (Machine.enterVideo .holding (s.withCtl { s.ctl with holdTimer := some n })) where
  toKeeps := (Keeps.withCtl _ _).trans (.enterVideo _ _)
  timers h := by
    have hmode := h.video (by simp [hvideo])
    have hblank := h.blank
    constructor <;> simp_all
  quiet h := by
    rw [standbyQuiet_iff] at h ⊢
    exact (h.withCtl { s.ctl with holdTimer := some n } rfl).enterVideo _
  drive h := by
    rw [driveLaw_iff] at h ⊢
    have hsame : driveEnable (Machine.enterVideo .holding (s.withCtl { s.ctl with holdTimer := some n })) = driveEnable s := by
      simp [driveEnable, hvideo]
    rw [hsame]
    exact (h.withCtl _).enterVideo _

theorem Lawful.frameTimerOut (s : State) : Lawful s (Machine.frameTimerOut s) := by
  have hstop := Lawful.stopFrameTimer s
  unfold Machine.frameTimerOut
  dsimp only
  split
  · next hvideo =>
    exact hstop.trans (.enterHolding (s := s.withCtl { s.ctl with frameTimer := none }) hvideo rfl (s.unit.params.holdTime * 10))
  · exact hstop
  · exact hstop

theorem Lawful.holdTimerOut {s : State} : Lawful s (Machine.holdTimerOut s) := by
  have hctl : (Machine.holdTimerOut s).ctl = { s.ctl with holdTimer := none, video := .dark } := by
    rw [Machine.holdTimerOut, (GrantFrame.driveFalls _).ctl, enterVideo_ctl]; rfl
  refine
    { toKeeps := ((Keeps.withCtl _ _).trans (.enterVideo _ _)).trans (.driveFalls _)
      timers := fun h => ?_, quiet := fun h => ?_, drive := fun h => ?_ }
  · constructor <;> rw [hctl]
    · exact h.frame
    · simp
    · exact h.blank
    · simp
  · rw [standbyQuiet_iff] at h ⊢
    exact ((h.withCtl { s.ctl with holdTimer := none } rfl).enterVideo _).driveFalls
  · rw [driveLaw_iff] at h ⊢
    have hfallen : driveEnable (Machine.holdTimerOut s) = false := by simp [driveEnable, hctl]
    exact hfallen ▸ ((h.withCtl _).enterVideo _).driveFalls

theorem Lawful.blankTimerOut (reading : Int) {s : State} (hmode : s.ctl.mode = .blank) :
    Lawful s (Machine.blankTimerOut reading s) := by
  have hset : Lawful s (s.withCtl { s.ctl with blankTimer := some blankMs }) :=
    { toKeeps := .withCtl _ _
      timers := fun h => { h with blank := by simp [hmode] }
      quiet := fun h => by rw [standbyQuiet_iff] at h ⊢; exact h.withCtl _ rfl
      drive := fun h => by rw [driveLaw_iff] at h ⊢; exact h.withCtl _ }
  have hboundary := (Steady.applyChanges (s.withCtl { s.ctl with blankTimer := some blankMs })).trans (.afterApplication _)
  have hblank : (Machine.boundaryApply (s.withCtl { s.ctl with blankTimer := some blankMs })).ctl.mode ≠ .standby := by
    rw [Machine.boundaryApply, hboundary.ctl, State.withCtl_ctl, hmode]; decide
  exact hset.trans ((hboundary.trans (.openWindow _ reading hblank)).trans (.offerReplies _)).lawful

/-! ## MODE (R19 to R23) -/

/-- Leaving a mode that has no Scan Driver to stop: nothing but the Mode Controller moves. -/
theorem TimerLaw.ofStopped {s : State} (hvideo : s.ctl.video = .dark) (hframe : s.ctl.frameTimer = none)
    (hhold : s.ctl.holdTimer = none) (hblank : s.ctl.blankTimer.isSome = true ↔ s.ctl.mode = .blank) : TimerLaw s := by
  constructor <;> simp_all

theorem Lawful.enterRun {s : State} : (s.ctl.mode ≠ .run) → Lawful s (Machine.enterRun s) := fun hmode => by
  have hraise := Steady.raise .videoState (leaveMode .run s)
  refine
    { toKeeps := (Keeps.withCtl _ _).trans hraise.toKeeps
      timers := fun _ => TimerLaw.congr (.ofStopped rfl rfl rfl (by simp [leaveMode])) hraise.ctl
      quiet := fun _ => (standbyQuiet_iff _).mpr (.ofAwake (by rw [Machine.enterRun, hraise.ctl]; simp [leaveMode]))
      drive := fun h => ?_ }
  have hwas : driveEnable s = false := by simp [driveEnable, hmode]
  have hnow : driveEnable (Machine.enterRun s) = false := by
    rw [Machine.enterRun, driveEnable_congr hraise.ctl]; simp [driveEnable, leaveMode]
  rw [driveLaw_iff, hwas] at h
  rw [driveLaw_iff, hnow]
  exact hraise.drive _ (h.withCtl _)

theorem Lawful.enterBlank (s : State) : Lawful s (Machine.enterBlank s) := by
  have hkeeps : Keeps s ((leaveMode .blank s).withCtl { (leaveMode .blank s).ctl with blankTimer := some blankMs }) :=
    (Keeps.withCtl _ _).trans (.withCtl _ _)
  have hctl : (Machine.enterBlank s).ctl = { (leaveMode .blank s).ctl with blankTimer := some blankMs } := by
    unfold Machine.enterBlank
    dsimp only
    split
    · exact (GrantFrame.driveFalls _).ctl
    · rfl
  refine
    { toKeeps := ?_
      timers := fun _ => .ofStopped (by rw [hctl]; rfl) (by rw [hctl]; rfl) (by rw [hctl]; rfl)
        (by rw [hctl]; simp [leaveMode])
      quiet := fun _ => (standbyQuiet_iff _).mpr (.ofAwake (by rw [hctl]; simp [leaveMode]))
      drive := fun h => ?_ }
  · unfold Machine.enterBlank
    dsimp only
    split
    · exact hkeeps.trans (.driveFalls _)
    · exact hkeeps
  · have hnow : driveEnable (Machine.enterBlank s) = false := by simp [driveEnable, hctl, leaveMode]
    rw [driveLaw_iff] at h ⊢
    have hmoved := (h.withCtl (leaveMode .blank s).ctl).withCtl { (leaveMode .blank s).ctl with blankTimer := some blankMs }
    rw [hnow]
    unfold Machine.enterBlank
    dsimp only
    cases henable : driveEnable s
    · rw [henable] at hmoved; exact hmoved
    · exact hmoved.driveFalls

/-- What the entry to STANDBY has ended when the waiting changes are applied (R20, R67, R102). -/
structure Ended (s : State) : Prop where
  test   : s.sense.test = none
  window : s.sense.windowOpen = false
  check  : s.corr.check = none
  spots  : ∀ e ∈ s.sense.spots, e.status ≠ .waiting
  state  : s.scan.state = .stopped
  phase  : s.scan.phase = none

theorem Keeps.abortSpots (s : State) : Keeps s (Machine.abortSpots s) :=
  .withSense (mode := .run) { spots := (List.length_map _).trans_le, noSpot := by rintro ⟨⟩ }

theorem abortSpots_waiting (s : State) : ∀ e ∈ (abortSpots s).sense.spots, e.status ≠ .waiting := by
  intro e he
  obtain ⟨x, -, rfl⟩ := List.mem_map.mp he
  split
  · simp
  · assumption

theorem Keeps.abandonTest (s : State) : Keeps s (Machine.abandonTest s) :=
  .withSense (mode := .run) { noTest := by rintro ⟨⟩, noWindow := by rintro ⟨⟩ }

theorem Keeps.stopScan (s : State) : Keeps s (Machine.stopScan s) := .withScan id

/-- The check ends with its descriptor back at the head of the queue, whose place it had held. -/
theorem Keeps.returnDescriptor {s : State} (hcheck : s.corr.check.isSome = true) (d : Descriptor) :
    Keeps s ((((s.withCorr { check := none }).withTrack { s.track with queue := d :: s.track.queue }).withSense
      { s.sense with tried := .clear }).withRepair { s.repair with heldLane := none }) where
  pending := rfl
  caps k := { k with queue := by simpa [placesTaken, hcheck] using k.queue }
  params := id
  records := id
  tables k := { k with }
  counts k := { k with }

theorem Keeps.dropCheck (s : State) : Keeps s (Machine.dropCheck s) := by
  unfold Machine.dropCheck
  split
  · exact .refl s
  · next c hcheck =>
    have hsome : s.corr.check.isSome = true := by simp [hcheck]
    dsimp only
    split
    · next k _ => exact (Steady.setSlot k .free s).toKeeps.trans (.returnDescriptor (s := Machine.setSlot k .free s) hsome _)
    · exact .returnDescriptor hsome _

theorem Keeps.rependBind (s : State) : Keeps s (Machine.rependBind s) := by
  unfold Machine.rependBind
  split
  · split
    · exact (Steady.tried s .clear).toKeeps
    · exact .refl s
  · exact .refl s

/-- The part as the entry to STANDBY leaves it before the waiting changes are applied. -/
def atStandby (s : State) : State :=
  leaveMode .standby (rependBind (dropCheck (stopScan (abandonTest (abortSpots s)))))

theorem Keeps.atStandby (s : State) : Keeps s (Machine.atStandby s) :=
  (((((Keeps.abortSpots s).trans (.abandonTest _)).trans (.stopScan _)).trans (.dropCheck _)).trans (.rependBind _)).trans
    (.withCtl _ _)

theorem dropCheck_scan (s : State) : (dropCheck s).scan = s.scan := by
  unfold dropCheck
  split
  · rfl
  · dsimp only; split <;> rfl

theorem dropCheck_sense (s : State) : ∃ x, (dropCheck s).sense = { s.sense with tried := x } := by
  unfold dropCheck
  split
  · exact ⟨_, rfl⟩
  · dsimp only; split <;> exact ⟨_, rfl⟩

theorem dropCheck_check (s : State) : (dropCheck s).corr.check = none := by
  unfold dropCheck
  split
  · assumption
  · dsimp only; split <;> rfl

theorem rependBind_frame (s : State) :
    (rependBind s).scan = s.scan ∧ (rependBind s).corr = s.corr ∧ ∃ x, (rependBind s).sense = { s.sense with tried := x } := by
  unfold rependBind
  split
  · split <;> exact ⟨rfl, rfl, _, rfl⟩
  · exact ⟨rfl, rfl, _, rfl⟩

theorem ended_atStandby (s : State) : Ended (atStandby s) := by
  obtain ⟨hscan, hcorr, x, hsense⟩ := rependBind_frame (dropCheck (stopScan (abandonTest (abortSpots s))))
  obtain ⟨y, hdrop⟩ := dropCheck_sense (stopScan (abandonTest (abortSpots s)))
  have hstop := dropCheck_scan (stopScan (abandonTest (abortSpots s)))
  constructor <;> simp only [atStandby, leaveMode, State.withCtl_sense, State.withCtl_corr, State.withCtl_scan, hsense, hdrop,
    hcorr, hscan, hstop, dropCheck_check]
  · rfl
  · rfl
  · exact abortSpots_waiting s
  · rfl
  · rfl

/-- The application of the list leaves nothing in progress in STANDBY but a decision that waits. -/
theorem Ended.applyChanges {s : State} (h : Ended s) : QuietBut s.repair.waiting (Machine.applyChanges s) := by
  have hsteady := (Steady.applyChanges s).quiet s.repair.waiting
  obtain ⟨htest, hwindow, hcheck, hspots, -, -⟩ := h
  have hframe := ListFrame.applyChanges s
  exact
    { test := fun _ => by rw [hframe.sense]; exact htest
      window := fun _ => by rw [hframe.sense]; exact hwindow
      check := fun _ => by rw [hframe.corr]; exact hcheck
      changes := fun _ => applyChanges_changes s
      waiting := fun _ => .inr (applyChanges_waiting s)
      spots := fun _ => by rw [hframe.sense]; exact hspots }

/-- The taking of the waiting decision leaves none. -/
theorem QuietBut.takeWaiting {w : Option Waiting} {s : State} (h : QuietBut w s) : QuietBut none (Machine.takeWaiting s) := by
  unfold Machine.takeWaiting
  split
  · next hnone => exact { h with waiting := fun _ => .inl hnone }
  · next v hv =>
    have hfree : QuietBut none (s.withRepair { s.repair with waiting := none }) := { h with waiting := fun _ => .inl rfl }
    dsimp only
    split
    · exact (Steady.decideCell ..).quiet _ hfree
    · exact (Steady.decideRow ..).quiet _ hfree
    · exact (Steady.finishLane ..).quiet _ hfree

theorem QuietBut.useRoom {w : Option Waiting} {s : State} (h : QuietBut w s) : QuietBut none (Machine.useRoom s) := by
  have hused := (Steady.withFreeUsed s (s.freeUsed + 1)).quiet w h
  have hlast {t : State} (k : QuietBut w t) : QuietBut none (Machine.bindRoom (Machine.addIsolation (Machine.takeWaiting t))) :=
    ((Steady.addIsolation _).trans (.bindRoom _)).quiet _ k.takeWaiting
  unfold Machine.useRoom
  dsimp only
  split
  · split
    · exact (Steady.addIsolation _).quiet _ (((Steady.bindRoom _).quiet w hused).takeWaiting)
    · exact hlast hused
  · exact hlast h

theorem Lawful.enterStandby (s : State) : Lawful s (Machine.enterStandby s) := by
  have hended := ended_atStandby s
  have happly := Steady.applyChanges (Machine.atStandby s)
  have hboundary : Steady (Machine.atStandby s) (Machine.enterStandby s) := happly.trans (.afterApplication _)
  have hctl := hboundary.ctl
  refine
    { toKeeps := (Keeps.atStandby s).trans hboundary.toKeeps
      timers := fun _ => TimerLaw.congr (.ofStopped rfl rfl rfl (by simp [Machine.atStandby, leaveMode])) hctl
      quiet := fun _ => (standbyQuiet_iff _).mpr ((Steady.settle _).quiet _ hended.applyChanges.useRoom)
      drive := fun _ => ?_ }
  have hoff : driveEnable (Machine.enterStandby s) = false := by
    rw [driveEnable_congr hctl]; simp [driveEnable, Machine.atStandby, leaveMode]
  rw [driveLaw_iff, hoff]
  refine hboundary.drive _ ⟨?_, ?_⟩
  · rw [testDriving_isSome, hended.test, hended.state]; rfl
  · simp [hended.phase, hended.state]

theorem Lawful.changeMode {m : Mode} {s : State} (hmode : m ≠ s.ctl.mode) : Lawful s (Machine.changeMode m s) := by
  cases m with
  | standby => exact .enterStandby s
  | run => exact (Lawful.enterRun hmode.symm).trans (Steady.settle _).lawful
  | blank => exact (Lawful.enterBlank s).trans (Steady.settle _).lawful

theorem Lawful.modeTaken {q : Request} {s : State} (hroom : q.broadcast = false → replyRoom s = true) :
    Lawful s (Machine.modeTaken q s) := by
  unfold Machine.modeTaken
  split
  · exact (Steady.refuse _ _ _ hroom).lawful
  · next m _ =>
    have hanswer := Steady.answer kMode q .ok [modeByte m] hroom
    dsimp only
    split
    · exact hanswer.lawful
    · next hother =>
      refine hanswer.lawful.trans (Lawful.trans (.changeMode ?_) (Steady.offerReplies _).lawful)
      rw [hanswer.ctl]; exact hother

end Sys2Proof.Machine

/-! Every command completes and keeps every law, and so does every step (O1, O2, O54 to O60). -/

namespace Sys2Proof.Machine

-- One theorem at a time: elaborated at once, they wait on each other and each holds a thread.
set_option Elab.async false

/-! ## The commands, one after another -/

/-- A request whose owner only answers. -/
theorem Completes.read {kind : Byte} {q : Request} {owner : State → State} {s : State} (hmarker : hasReplyMarker kind = false)
    (hkind : ¬ (kind = kRow ∨ kind = kFrame))
    (howner : ∀ u, (q.broadcast = false → replyRoom u = true) → Steady u (owner u)) :
    Completes s (Machine.request kind q (fun _ => owner) s) :=
  .answered hmarker hkind fun _ u hroom => (howner u hroom).lawful

theorem Steady.guarded {p : Prop} [Decidable p] {s t : State} (h : p → Steady s t) : Steady s (if p then t else s) := by
  split
  · next hp => exact h hp
  · exact .refl s

theorem Lawful.guarded {p : Prop} [Decidable p] {s t : State} (h : p → Lawful s t) : Lawful s (if p then t else s) := by
  split
  · next hp => exact h hp
  · exact .refl s

theorem Completes.linkReset (straps : BitVec 2) (reading : Int) (s : State) :
    Completes s (execLinkReset straps reading s) :=
  ((Lawful.hardReset straps .link true s.sense.sample s.sense.sensorFault s).trans
    (Steady.withLink (s := hardReset straps .link true s.sense.sample s.sense.sensorFault s) {}).lawful).completes

theorem Completes.startByteReceived (p : Port) (s : State) : Completes s (execStartByteReceived p s) := by
  cases p
  · exact (Steady.startUp s).completes
  · exact (Steady.startDown s).completes

theorem Completes.headerComplete (p : Port) (h : Header) (go : Bool) (s : State) :
    Completes s (execHeaderComplete p h go s) := by
  cases p
  · exact (Steady.headerUp h go s).completes
  · exact (Steady.headerDown h s).completes

theorem Completes.messageReceived (p : Port) (payload : List Byte) (crc : Word16) (mark : Byte) (s : State) :
    Completes s (execMessageReceived p payload crc mark s) := by
  cases p
  · exact (Steady.endUp payload crc mark s).completes
  · exact (Steady.endDown payload crc mark s).completes

theorem Completes.gapTimeout (p : Port) (received : List Byte) (s : State) : Completes s (execGapTimeout p received s) := by
  cases p
  · exact (Steady.gapUp received s).completes
  · exact (Steady.gapDown s).completes

theorem Steady.upIdle (s : State) : Steady s (s.withLink { s.link with upTx := .idle }) := .withLink {}

theorem Completes.upTransmitEnd (reading : Int) (s : State) : Completes s (execUpTransmitEnd reading s) := by
  refine Lawful.completes ?_
  split
  · exact .refl s
  · exact (Steady.upIdle s).lawful
  · exact (Steady.upIdle s).lawful.trans (.softReset _ _)
  · exact (Steady.withLink
      { passBuf := fun h => (by simp only [List.length_tail]; omega) }).lawful

theorem Completes.downTransmitStart (go : Bool) (s : State) : Completes s (execDownTransmitStart go s) := by
  have hnote : Steady s (if go then noteDownGo s else s) := .guarded fun _ => .noteDownGo s
  refine (hnote.trans ?_).completes
  generalize (if go then noteDownGo s else s) = u
  dsimp only
  split
  · exact .refl u
  · exact .withLink {}

theorem Completes.downTransmitEnd (s : State) : Completes s (execDownTransmitEnd s) := by
  refine (Steady.guarded fun _ => ?_).completes
  split
  · next hbuf => exact (Steady.downSent hbuf).trans (.startHoldIfIdle _)
  all_goals exact .refl s

theorem Completes.chainResetHoldEnd (s : State) : Completes s (execChainResetHoldEnd s) := by
  refine Steady.completes ?_
  split
  · exact (Steady.withHold _ s).trans (.enterHold _)
  all_goals exact .refl s

theorem Completes.deferredReplyEnter (x : ReplyHolder) (s : State) : Completes s (execDeferredReplyEnter x s) := by
  cases x
  · exact (Steady.enterSpots s).completes
  · exact (Steady.enterBind s).completes
  · exact (Steady.enterHold s).completes

theorem Completes.testCompletion (knee : Option (Fin 255)) (s : State) : Completes s (execTestCompletion knee s) := by
  refine Steady.completes ?_
  split
  · next htest => exact .guarded fun hdriver => .testEnd htest hdriver knee
  · exact .refl s

theorem mayBeAnswered_unknown {kind : Byte} {q : Request} (hkind : ¬ (isRequestKind kind || hasReplyMarker kind) = true)
    (hq : q.broadcast = false) (down : Bool) : mayBeAnswered kind q down = true := by
  simp only [Bool.or_eq_true, not_or, Bool.not_eq_true] at hkind
  obtain ⟨hunknown, hmarker⟩ := hkind
  have hother : ¬ (kind = kRow ∨ kind = kFrame) := by
    rintro (rfl | rfl) <;> exact absurd hunknown (by decide)
  simp only [mayBeAnswered, hq, hmarker, if_neg hother, Bool.false_eq_true, if_false]

theorem Completes.kindRefusal (kind : Byte) (q : Request) (s : State) : Completes s (execKindRefusal kind q s) := by
  unfold execKindRefusal
  split
  · exact (Lawful.refl s).completes
  · next hkind =>
    refine Steady.completes ?_
    split
    · next htaken =>
      exact (Steady.atTake kind q s).trans (.refuse kind q .kind fun hq =>
        replyRoom_of_taken htaken (mayBeAnswered_unknown hkind hq _))
    · exact .untaken kind q s

theorem Completes.replyMarkedDrop (kind : Byte) (q : Request) (s : State) : Completes s (execReplyMarkedDrop kind q s) := by
  unfold execReplyMarkedDrop
  split
  · refine Steady.completes ?_
    split
    · exact .atTake kind q s
    · exact .untaken kind q s
  · exact (Lawful.refl s).completes

theorem Steady.countsCleared {q : Request} {s : State} (hroom : q.broadcast = false → replyRoom s = true) :
    Steady s (Machine.countsCleared q s) :=
  Steady.thenAnswer (t := s.withLink { s.link with upCounts := .zero, downCounts := .zero })
    (.withLink { up := fun _ => .zero, down := fun _ => .zero }) rfl hroom _ _ _

theorem Steady.gainsRead {q : Request} {s : State} (hroom : q.broadcast = false → replyRoom s = true) :
    Steady s (Machine.gainsRead q s) := by
  simp only [Machine.gainsRead]
  split <;> exact .answer _ _ _ _ hroom

theorem Steady.defectsRead {q : Request} {s : State} (hroom : q.broadcast = false → replyRoom s = true) :
    Steady s (Machine.defectsRead q s) := by
  simp only [Machine.defectsRead]
  split <;> exact .answer _ _ _ _ hroom

theorem Steady.suspectsRead {q : Request} {s : State} (hroom : q.broadcast = false → replyRoom s = true) :
    Steady s (Machine.suspectsRead q s) := by
  simp only [Machine.suspectsRead]
  split <;> exact .answer _ _ _ _ hroom

theorem Steady.mapRead {q : Request} {s : State} (hroom : q.broadcast = false → replyRoom s = true) :
    Steady s (Machine.mapRead q s) := by
  simp only [Machine.mapRead]
  split <;> exact .answer _ _ _ _ hroom

/-- Every command completes, touches no queue of commands and keeps every law. -/
theorem completes (i : Instr) (s : State) : Completes s (exec i s) := by
  cases i with
  | powerOnReset straps reading => exact (Lawful.hardReset straps .power false _ _ s).completes
  | linkReset straps reading => exact .linkReset straps reading s
  | linkResetRelease => exact (Steady.guarded fun _ => .linkResetEnd s).completes
  | startByteReceived port => exact .startByteReceived port s
  | headerComplete port h go => exact .headerComplete port h go s
  | messageReceived port payload crc mark => exact .messageReceived port payload crc mark s
  | gapTimeout port received => exact .gapTimeout port received s
  | downGoAsserted => exact (Steady.noteDownGo s).completes
  | upTransmitStart go => exact (Steady.guarded fun _ => .arbitrateUp s).completes
  | upTransmitEnd reading => exact .upTransmitEnd reading s
  | downTransmitStart go => exact .downTransmitStart go s
  | downTransmitEnd => exact .downTransmitEnd s
  | enum q => exact .request rfl fun _ _ hlength hroom => (Steady.enumTaken hlength hroom).lawful
  | ident q => exact .read rfl (by decide) fun _ => .answer kIdent q .ok _
  | status q => exact .read rfl (by decide) fun _ => .answer kStatus q .ok _
  | setParam q => exact .read rfl (by decide) fun _ => .paramsSet
  | getParam q => exact .read rfl (by decide) fun _ => .answer kGetParam q _ _
  | loadGain q => exact .read rfl (by decide) fun _ => .gainsLoaded
  | readGain q => exact .read rfl (by decide) fun _ => .gainsRead
  | row q => exact .request rfl fun _ _ hlength _ => (Steady.rowTaken hlength _).lawful
  | frame q reading => exact .request rfl fun _ _ _ _ => .frameTaken q reading _
  | mode q => exact .answered rfl (by decide) fun _ _ => .modeTaken
  | frameTimerExpiry => exact (Lawful.guarded fun _ => .frameTimerOut s).completes
  | holdTimerExpiry => exact (Lawful.guarded fun _ => .holdTimerOut).completes
  | blankWindowTimerExpiry reading =>
    exact (Lawful.guarded fun h => .blankTimerOut reading (by simpa using (Bool.and_eq_true_iff.mp h).2)).completes
  | rowPhaseEnd => exact (Steady.guarded fun h => .phaseEnd h).completes
  | testCompletion knee => exact .testCompletion knee s
  | descriptorTake => exact (Steady.takeAll s).completes
  | waitingDecisionTaken => exact (Steady.guarded fun _ => (Steady.takeWaiting s).trans (.settle _)).completes
  | isolationEntryAdded => exact ((Steady.addIsolation s).trans (.settle _)).completes
  | laneHoldRelease => exact (Steady.settle s).completes
  | bindWaitComplete => exact (((Steady.bindRoom s).trans (.settle _)).trans (.offerReplies _)).completes
  | deferredReplyEnter holder => exact .deferredReplyEnter holder s
  | test q => exact .read rfl (by decide) fun _ => .testTaken
  | selectA q => exact .repairRow fun _ hroom => .cellAction hroom _ _ _
  | selectB q => exact .repairRow fun _ hroom => .cellAction hroom _ _ _
  | conceal q => exact .repairRow fun _ hroom => .cellAction hroom _ _ _
  | forceOff q => exact .repairRow fun _ hroom => .cellAction hroom _ _ _
  | releaseCell q => exact .repairRow fun _ => .cellRelease
  | releaseDie q => exact .repairRow fun _ => .dieRelease
  | releaseRow q => exact .repairRow fun _ => .rowRelease
  | bind q => exact .repairRow fun _ => .bindTaken
  | unbindLane q => exact .repairRow fun _ => .laneRelease
  | unbindSlot q => exact .repairRow fun _ => .slotRelease
  | readDefects q => exact .read rfl (by decide) fun _ => .defectsRead
  | loadDefects q => exact .read rfl (by decide) fun _ => .defectsLoaded
  | clearDefects q => exact .read rfl (by decide) fun _ => .defectsCleared
  | readSuspects q => exact .read rfl (by decide) fun _ => .suspectsRead
  | readSpares q => exact .read rfl (by decide) fun _ => .answer kReadSpares q .ok _
  | readMap q => exact .read rfl (by decide) fun _ => .mapRead
  | clearCounts q => exact .read rfl (by decide) fun _ => .countsCleared
  | reset q reading => exact .answered rfl (by decide) fun _ _ hroom => .resetTaken hroom reading
  | chainReset q => exact .read rfl (by decide) fun _ => .chainResetTaken
  | chainResetHoldStart => exact (Steady.startHoldIfIdle s).completes
  | chainResetHoldEnd => exact .chainResetHoldEnd s
  | kindRefusal kind q => exact .kindRefusal kind q s
  | replyMarkedDrop kind q => exact .replyMarkedDrop kind q s

theorem exec_lawful {i : Instr} {s t : State} (h : exec i s = .next t) : Lawful s t := by
  obtain ⟨u, hu, hlawful⟩ := completes i s
  rw [hu] at h
  injection h with h
  exact h ▸ hlawful

/-! ## One step -/

/-- Settles O1: the two branches of the step. -/
theorem stepRunsTheFrontCommand : Obligations.StepRunsTheFrontCommand := by
  unfold Obligations.StepRunsTheFrontCommand
  intro s
  constructor
  · intro i rest h
    simp only [step, h]
  · intro h
    simp only [step, h]

/-- Settles O2, from `completes`. -/
theorem everyCommandCompletes : Obligations.EveryCommandCompletes := by
  unfold Obligations.EveryCommandCompletes
  exact ⟨fun i s => (completes i s).imp fun _ => And.left, fun _ _ _ h => (exec_lawful h).pending⟩

/-- A step idles, or runs a command from the state with the rest of the queue. -/
theorem step_cases {s t : State} (h : step s = .next t) : t = s ∨ ∃ rest, Lawful (s.withPending rest) t := by
  unfold step at h
  split at h
  · injection h with h
    exact .inl h.symm
  · next rest _ => exact .inr ⟨rest, exec_lawful h⟩

/-- At reset every slot is FREE and every lane NORMAL. -/
theorem slotLaneLaw_reset : SlotLaneLaw State.reset := fun k l hk hl => by
  have hslot : slotNow State.reset k = .free := by
    simp only [slotNow, State.reset, State.fresh, Repair.fresh, List.getD_replicate _ hk]
  have hlane : laneNow State.reset l = .normal := by
    simp only [laneNow, State.reset, State.fresh, Repair.fresh, List.getD_replicate _ hl]
  simp [hslot, hlane, SlotState.boundTo]

/-- Settles O54: State.reset is a fresh state of depth 8, which a power-on reset leaves. -/
theorem resetMeetsTheLaws : Obligations.ResetMeetsTheLaws := by
  unfold Obligations.ResetMeetsTheLaws
  exact ⟨capacities_fresh .., paramRanges_default, driveLaw_fresh .., timerLaw_fresh ..,
    standbyQuiet_fresh .., List.nodup_nil, tableRanges_fresh .., countLimits_fresh .., slotLaneLaw_reset⟩

/-- Settles O55, from `completes`. -/
theorem stepKeepsTheCapacities : Obligations.StepKeepsTheCapacities := by
  unfold Obligations.StepKeepsTheCapacities
  intro s t hs h
  obtain rfl | ⟨rest, hlawful⟩ := step_cases h
  · exact hs
  · exact hlawful.caps { hs with }

/-- Settles O56, from `completes`. -/
theorem stepKeepsTheDriveLaw : Obligations.StepKeepsTheDriveLaw := by
  unfold Obligations.StepKeepsTheDriveLaw
  intro s t hs h
  obtain rfl | ⟨rest, hlawful⟩ := step_cases h
  · exact hs
  · exact hlawful.drive ⟨hs.state, hs.phase⟩

/-- Settles O57, from `completes`. -/
theorem stepKeepsTheTimersAndParameters : Obligations.StepKeepsTheTimersAndParameters := by
  unfold Obligations.StepKeepsTheTimersAndParameters
  refine ⟨fun s t hs h => ?_, fun s t hs h => ?_⟩ <;> obtain rfl | ⟨rest, hlawful⟩ := step_cases h
  · exact hs
  · exact hlawful.timers { hs with }
  · exact hs
  · exact hlawful.params hs

/-- Settles O58, from `completes`. -/
theorem stepKeepsStandbyQuiet : Obligations.StepKeepsStandbyQuiet := by
  unfold Obligations.StepKeepsStandbyQuiet
  intro s t hs h
  obtain rfl | ⟨rest, hlawful⟩ := step_cases h
  · exact hs
  · exact hlawful.quiet { hs with }

/-- Settles O59, from `completes`. -/
theorem stepKeepsOneRecordPerTarget : Obligations.StepKeepsOneRecordPerTarget := by
  unfold Obligations.StepKeepsOneRecordPerTarget
  intro s t hs h
  obtain rfl | ⟨rest, hlawful⟩ := step_cases h
  · exact hs
  · exact hlawful.records hs

/-- Settles O60, from `completes`. -/
theorem stepKeepsTheTablesAndCounts : Obligations.StepKeepsTheTablesAndCounts := by
  unfold Obligations.StepKeepsTheTablesAndCounts
  refine ⟨fun s t hs h => ?_, fun s t hs h => ?_⟩ <;> obtain rfl | ⟨rest, hlawful⟩ := step_cases h
  · exact hs
  · exact hlawful.tables { hs with }
  · exact hs
  · exact hlawful.counts { hs with }

end Sys2Proof.Machine

/-! The take of a message and the messages that reach no owner (O3, O4). -/

namespace Sys2Proof.Machine

-- One theorem at a time: elaborated at once, they wait on each other and each holds a thread.
set_option Elab.async false

/-! ## When a message may be taken (R153, R163) -/

theorem replyRoom_iff (s : State) : replyRoom s = true ↔ s.unit.replies.length < 8 := decide_eq_true_iff

theorem enumReplies_iff (p : List Byte) (down : Bool) :
    enumReplies p down = true ↔ byteAt p 0 = 0 ∨ byteAt p 0 = 255 ∨ down = false := by
  simp [enumReplies, or_assoc]

theorem mayBeAnswered_of_broadcast {kind : Byte} {q : Request} (hq : q.broadcast = true) (down : Bool) :
    mayBeAnswered kind q down = true ↔
      kind = 0x01 ∧ q.payload.length = 1 ∧ (byteAt q.payload 0 = 0 ∨ byteAt q.payload 0 = 255 ∨ down = false) := by
  simp only [mayBeAnswered, hq, if_true, Bool.and_eq_true, beq_iff_eq, enumReplies_iff, and_assoc]
  refine and_congr_right fun hkind => ?_
  subst hkind
  exact and_congr_left' beq_iff_eq

theorem mayBeAnswered_of_addressed {kind : Byte} {q : Request} (hq : q.broadcast = false) (down : Bool) :
    mayBeAnswered kind q down = true ↔
      kind.getLsbD 7 = false ∧ (kind = 0x08 → q.payload.length ≠ 217) ∧ (kind = 0x09 → q.payload.length ≠ 2) := by
  simp only [mayBeAnswered, hq, Bool.false_eq_true, if_false]
  change _ ↔ hasReplyMarker kind = false ∧ _
  by_cases hmarker : hasReplyMarker kind = true
  · simp [hmarker]
  · by_cases hrow : kind = 0x08
    · subst hrow; simp [hasReplyMarker, kRow, lengthFits]
    · by_cases hframe : kind = 0x09
      · subst hframe; simp [hasReplyMarker, kFrame, lengthFits]
      · rw [if_neg hmarker, if_neg (not_or.mpr ⟨hrow, hframe⟩)]
        exact iff_of_true rfl ⟨by simpa using hmarker, fun h => absurd h hrow, fun h => absurd h hframe⟩

theorem takeable_iff (kind : Byte) (q : Request) (down : Bool) (s : State) :
    takeable kind q down s = true ↔
      s.unit.resetWaiting = false ∧ s.link.inLinkReset = false
        ∧ (mayBeAnswered kind q down = true → s.unit.replies.length < 8)
        ∧ ¬ (kind = 0x14 ∧ q.broadcast = true ∧ down = true) := by
  simp only [takeable, Bool.and_eq_true, Bool.not_eq_true', Bool.or_eq_true, ← replyRoom_iff, kReset, and_assoc,
    Bool.and_eq_false_iff, beq_eq_false_iff_ne]
  cases mayBeAnswered kind q down <;> by_cases hkind : kind = 0x14 <;> cases q.broadcast <;> cases down <;> simp [hkind]

/-! ## The take of the message at the head -/

theorem headIs_of_ready {kind : Byte} {q : Request} {m : Message} {down : Bool} {rest : List RxPlace} {s : State}
    (hbuf : s.link.upBuf = .ready m down :: rest) (hm : isRequest kind q m = true) : headIs kind q s = true := by
  simp only [headIs, hbuf, hm]

theorem headDown_of_ready {m : Message} {down : Bool} {rest : List RxPlace} {s : State}
    (hbuf : s.link.upBuf = .ready m down :: rest) : headDown s = down := by
  simp only [headDown, hbuf]

theorem taken_of_ready {kind : Byte} {q : Request} {m : Message} {down : Bool} {rest : List RxPlace} {s : State}
    (hbuf : s.link.upBuf = .ready m down :: rest) (hm : isRequest kind q m = true) :
    taken kind q s = takeable kind q down s := by
  have hhead := headIs_of_ready hbuf hm
  rw [taken, present_of_headIs hhead, hhead, headDown_of_ready hbuf, Bool.true_and]

theorem atTake_of_ready {kind : Byte} {q : Request} {m : Message} {down : Bool} {rest : List RxPlace} {s : State}
    (hbuf : s.link.upBuf = .ready m down :: rest) (hm : isRequest kind q m = true) :
    atTake kind q s = s.withLink { s.link with upBuf := rest } := by
  rw [atTake, present_of_headIs (headIs_of_ready hbuf hm), takeHead, hbuf, List.tail_cons]

/-! ## A request given while the buffer is empty (log 4) -/

section
variable {kind : Byte} {q : Request} {s : State} (hup : s.link.upBuf = []) (hdown : s.link.downBuf.length < 2)
  (hreset : s.link.inLinkReset = false) (hrx : s.link.upRx = .hunt)
include hup hdown hreset hrx

theorem arrivesNow_of_empty : arrivesNow kind q s = true := by
  simp [arrivesNow, headIs, upGoOut, upRoom, hup, hdown, hreset, hrx]

/-- An unassigned tile charges an addressed request to misroute (R152). -/
theorem request_of_unassigned (owner : Bool → State → State) (hq : q.broadcast = false) (haddr : s.link.address = 0) :
    request kind q owner s = .next (charge .up .misroute s) := by
  have hnowhere : routesNowhere q s = true := by simp [routesNowhere, hq, haddr]
  have hpresent : present kind q s = s := by simp [present, hnowhere]
  have htaken : taken kind q s = false := by simp [taken, hpresent, headIs, hup]
  rw [request_held owner htaken, untaken, arrivesNow_of_empty hup hdown hreset hrx, hnowhere]
  rfl

/-- The message of a request that the tile's own address routes to it. -/
theorem present_of_assigned (hq : q.broadcast = false) (haddr : s.link.address ≠ 0) :
    present kind q s = s.withLink { s.link with
      upBuf := [.ready ⟨BitVec.ofNat 8 s.link.address, q.src, kind, q.tag, q.payload⟩ false] } := by
  have hnowhere : routesNowhere q s = false := by simp [routesNowhere, haddr]
  simp [present, arrivesNow_of_empty hup hdown hreset hrx, hnowhere, hup, hq, requestMessage, byteOf]

end

theorem request_of_present {kind : Byte} {q : Request} {s : State} (owner : Bool → State → State)
    (hroute : routesNowhere q s = false) (hhead : headIs kind q (present kind q s) = true) :
    request kind q owner s = request kind q owner (present kind q s) := by
  have hagain := present_of_headIs hhead
  have huntaken : untaken kind q s = untaken kind q (present kind q s) := by
    rw [untaken_of_headIs hhead, untaken, hroute, Bool.and_false]; rfl
  simp only [request, taken, atTake, hagain, huntaken]

/-- Settles O3, from what may be taken and what a request given now makes of the buffer. -/
theorem theTakeRemovesTheHeadMessage : Obligations.TheTakeRemovesTheHeadMessage := by
  unfold Obligations.TheTakeRemovesTheHeadMessage
  refine ⟨fun kind q m down rest owner s hbuf hm => ?_, takeable_iff, fun kind q down => ?_,
    fun kind q owner s hup hdown hreset hrx hq => ?_⟩
  · have htaken := taken_of_ready hbuf hm
    have hat := atTake_of_ready hbuf hm
    have hhead := headIs_of_ready hbuf hm
    refine ⟨fun h => ⟨htaken.trans h, hat, ?_⟩, fun h => ?_⟩
    · rw [request_taken owner (htaken.trans h), hat, present_of_headIs hhead, headDown_of_ready hbuf]
    · rw [request_held owner (htaken.trans h), untaken_of_headIs hhead]
  · cases hq : q.broadcast
    · simp [mayBeAnswered_of_addressed hq]
    · simp [mayBeAnswered_of_broadcast hq]
  · refine ⟨request_of_unassigned hup hdown hreset hrx owner hq, fun haddr hlimit => ?_⟩
    have hpresent := present_of_assigned (kind := kind) hup hdown hreset hrx hq haddr
    rw [← hpresent]
    refine request_of_present owner (by simp [routesNowhere, haddr]) ?_
    have hdst : BitVec.ofNat 8 s.link.address ≠ 255 := fun h => by
      have hnat := congrArg BitVec.toNat h
      simp at hnat
      omega
    simpa [hpresent, headIs, isRequest, hq] using hdst

/-! ## Messages that reach no owner (R164) -/

theorem refuseLength_of_other {kind : Byte} (hkind : kind ≠ 0x01) (q : Request) (down : Bool) (s : State) :
    refuseLength kind q down s = refuse kind q .length s := by
  rw [refuseLength, if_neg fun h => hkind h.1]

theorem judge_of_lengthRefused {kind : Byte} {q : Request} (hkind : kind ≠ 0x01)
    (hlength : lengthFits kind q.payload.length = false) (down : Bool) (owner : State → State) (s : State) :
    judge kind q down owner s = refuse kind q .length s := by
  simp only [judge, hlength, Bool.not_false, if_true, refuseLength_of_other hkind]
  split
  · next hdropped => simp [refuse_eq, (Bool.and_eq_true_iff.mp hdropped).1]
  · rfl

/-- Settles O4, by the judgement of R164 on a taken message. -/
theorem undispatchedMessages : Obligations.UndispatchedMessages := by
  unfold Obligations.UndispatchedMessages
  intro kind q owner s htaken
  refine ⟨fun hkind hlength hq => ?_, fun hkind hlength hq => ?_, fun hq hkind => ?_, fun hkind hmarker => ?_,
    fun hmarker => ?_⟩
  · rw [request_taken owner htaken, judge_of_lengthRefused hkind hlength, refuse_eq, hq]; rfl
  · rw [request_taken owner htaken, judge_of_lengthRefused hkind hlength, refuse_eq, hq]; rfl
  · exact request_broadcast_dropped owner htaken hq hkind
  · simp only [exec, execKindRefusal, hkind, hmarker, htaken, Bool.or_self, Bool.false_eq_true, if_false, if_true, kindRefused,
      refuse_eq, statusByte]
  · simp only [exec, execReplyMarkedDrop, hmarker, htaken, if_true]

end Sys2Proof.Machine

/-! What the resets leave, and the end of a link reset (O5, O6, O7). -/

namespace Sys2Proof.Machine

-- One theorem at a time: elaborated at once, they wait on each other and each holds a thread.
set_option Elab.async false

/-! ## The application of changes and the rest of the Repair Engine (R112) -/

/-- Nothing of the Repair Engine moves but the maps, the slots, the Defect List and the list of changes. -/
def MapsMoved (r x : Repair) : Prop :=
  x = { r with
    cells := x.cells, lanes := x.lanes, slots := x.slots, rows := x.rows, defects := x.defects, changes := x.changes }

theorem MapsMoved.refl (r : Repair) : MapsMoved r r := rfl

theorem MapsMoved.trans {r x y : Repair} (h : MapsMoved r x) (k : MapsMoved x y) : MapsMoved r y := by
  unfold MapsMoved at *
  rw [k, h]

theorem mapsMoved_applyChange (frame : Nat) (s : State) (c : Change) :
    MapsMoved s.repair (applyChange frame s c).repair := by
  unfold applyChange
  split
  · rfl
  · dsimp only
    split
    · rw [raise_repair]; rfl
    · rfl
  · dsimp only
    split
    · rfl
    · rw [raise_repair]; rfl
  · rfl

theorem mapsMoved_applyChangesAt (frame : Nat) (s : State) : MapsMoved s.repair (applyChangesAt frame s).repair :=
  MapsMoved.trans
    (List.foldlRecOn (motive := fun t : State => MapsMoved s.repair t.repair) _ _ (.refl _)
      fun t ht c _ => ht.trans (mapsMoved_applyChange frame t c)) rfl

/-- With no change waiting there is nothing to apply. -/
theorem applyChangesAt_of_nil (frame : Nat) {s : State} (h : s.repair.changes = []) : applyChangesAt frame s = s := by
  simp only [applyChangesAt, h, List.foldl_nil]
  rw [← h]
  rfl

/-! ## Power-on and link resets -/

theorem faultOf_eq (reading : Int) : faultOf reading = decide (reading < -40 ∨ 125 < reading) := by
  simp [faultOf]

theorem depthOf_eq (straps : BitVec 2) :
    depthOf straps = if straps = 0 then 8 else if straps = 1 then 12 else 16 := by
  revert straps; decide

/-- At rest every lane's trace is A (R17). -/
theorem traceSelected_of_rest {s : State} (h : s.scan.traces = restTraces) (l : Nat) : traceSelected s l = .a := by
  rw [traceSelected, h]
  exact getD_replicate_self _ _ _

/-- Settles O5, block by block from the fresh state. -/
theorem hardResetsLeave : Obligations.HardResetsLeave := by
  unfold Obligations.HardResetsLeave
  intro straps reading s
  refine ⟨_, _, rfl, rfl, rfl, rfl, rfl, rfl, Bool.and_false _, Bool.and_false _, rfl, faultOf_eq reading, rfl, rfl, rfl, ?_⟩
  rintro v (rfl | rfl) <;>
  exact ⟨rfl, depthOf_eq straps, rfl, rfl, rfl, rfl, rfl, rfl, rfl, rfl, rfl, rfl, rfl, rfl, rfl, rfl, rfl, rfl, rfl, rfl,
    traceSelected_of_rest rfl, rfl, rfl, rfl, rfl, rfl, rfl, rfl, rfl, rfl, rfl, rfl, rfl, rfl, rfl, rfl, rfl,
    rfl, rfl, rfl, rfl, rfl, rfl, rfl, rfl, rfl, rfl, rfl, rfl, rfl, rfl, rfl, rfl, rfl, rfl⟩

/-! ## The end of a link reset -/

theorem noteDownGo_eq (s : State) :
    noteDownGo s
      = s.withLink { s.link with partner := s.link.partner || !(s.link.inLinkReset || holding s) } := by
  unfold noteDownGo
  cases hreset : downAtReset s
  · simp [downAtReset] at hreset
    simp [hreset]
  · rw [downAtReset] at hreset
    simp [hreset]
    rfl

/-- Settles O6. -/
theorem linkResetEndsAndGoSetsThePartner : Obligations.LinkResetEndsAndGoSetsThePartner := by
  unfold Obligations.LinkResetEndsAndGoSetsThePartner
  refine ⟨fun s hreset => ?_, fun s hreset => ?_, fun s => ?_⟩
  · refine ⟨linkResetEnd s, by simp [exec, execLinkResetRelease, hreset], ?_, ?_, ?_, ?_⟩
    · rw [linkResetEnd, faultOf_eq]; rfl
    · intro hup hdown
      simp [upGoOut, upRoom, linkResetEnd, hup, hdown]
    · intro hpass
      simp [downGoOut, downRoom, linkResetEnd, hpass]
    · intro hhold
      have hsame : holding (linkResetEnd s) = holding s := rfl
      rw [downAtReset, hsame, hhold]; rfl
  · simp [exec, execLinkResetRelease, hreset]
  · rw [← noteDownGo_eq]; rfl

/-! ## The soft reset -/

theorem softLink_congr {s t : State} (h : t.link = s.link) : softLink t = softLink s := by
  unfold softLink sendingPass
  rw [h]

theorem softReset_link (reading : Int) (s : State) : (softReset reading s).link = softLink s :=
  softLink_congr (ListFrame.applyChangesAt 0 s).link

theorem softLink_passBuf (s : State) :
    (softLink s).passBuf = (match s.link.upTx with | .pass _ => s.link.passBuf.take 1 | _ => []) := by
  unfold softLink sendingPass
  cases s.link.upTx <;> rfl

theorem softReset_repair (reading : Int) (s : State) :
    (softReset reading s).repair = softRepair (applyChangesAt 0 s).repair := rfl

theorem softRepair_slots (r : Repair) : ∀ x ∈ (softRepair r).slots, x.isReserved = false := by
  intro x hx
  obtain ⟨y, -, rfl⟩ := List.mem_map.mp hx
  split
  · rfl
  · next hy => simpa using hy

theorem RxState.softReset_eq (x : RxState) :
    x.softReset = (match x with
      | .hunt => .hunt
      | .header => .skip .softReset none
      | .body h _ _ => .skip .softReset (some h)
      | .skip .overrun h => .skip .overrun h
      | .skip _ h => .skip .softReset h) := by
  cases x with
  | skip why h => cases why <;> rfl
  | _ => rfl

theorem exec_reset_addressed {q : Request} {s : State} (reading : Int) (h : Dispatched kReset q s)
    (hq : q.broadcast = false) :
    exec (.reset q reading) s = .next ((atTake kReset q s).withUnit { s.unit with
      replies := s.unit.replies ++ [{ replyOf kReset q 0 [] with isReset := true }], resetWaiting := true }) := by
  have hexec : exec (.reset q reading) s = .next (resetTaken q reading (atTake kReset q s)) :=
    request_dispatched (fun _ => resetTaken q reading) h
  rw [hexec, resetTaken, hq]
  simp [pushReply, replyTo, replyOf, withReplyMarker, statusByte]

/-- The two events that bring a soft reset, and the state that it meets (R174). -/
theorem exec_softReset {q : Request} {reading : Int} {s base : State} {c : Instr}
    (h : (c = .reset q reading ∧ Dispatched 0x14 q s ∧ q.broadcast = true ∧ base = atTake 0x14 q s)
      ∨ (c = .upTransmitEnd reading ∧ (∃ w, s.link.upTx = .own w true)
          ∧ base = s.withLink { s.link with upTx := .idle })) :
    exec c s = .next (softReset reading base) := by
  obtain ⟨rfl, hdisp, hq, rfl⟩ | ⟨rfl, ⟨w, hw⟩, rfl⟩ := h
  · exact exec_reset_broadcast reading hdisp hq
  · exact exec_upTransmitEnd_of_resetReply reading hw

/-- The state that a soft reset meets differs from the one before the event in the ports alone. -/
theorem base_of_softReset {q : Request} {reading : Int} {s base : State} {c : Instr}
    (h : (c = .reset q reading ∧ Dispatched 0x14 q s ∧ q.broadcast = true ∧ base = atTake 0x14 q s)
      ∨ (c = .upTransmitEnd reading ∧ (∃ w, s.link.upTx = .own w true)
          ∧ base = s.withLink { s.link with upTx := .idle })) :
    base = s.withLink base.link ∧ base.link.address = s.link.address ∧ base.link.subordinate = s.link.subordinate := by
  obtain ⟨-, -, -, rfl⟩ | ⟨-, -, rfl⟩ := h
  · exact ⟨atTake_eq _ _ _, atTake_address _ _ _, atTake_subordinate _ _ _⟩
  · exact ⟨rfl, rfl, rfl⟩

/-- Settles O7. -/
theorem resetRequestAndSoftReset : Obligations.ResetRequestAndSoftReset := by
  unfold Obligations.ResetRequestAndSoftReset
  intro q reading s
  refine ⟨fun hdisp hq => ⟨_, exec_reset_addressed reading hdisp hq, rfl, rfl, rfl, ?_⟩, fun base c hevent => ?_⟩
  · constructor <;> simp
  · obtain ⟨hbase, haddress, hsubordinate⟩ := base_of_softReset hevent
    have hframe := ListFrame.applyChangesAt 0 base
    have hlink := softReset_link reading base
    have hmoved := mapsMoved_applyChangesAt 0 base
    have hstraps : base.straps = s.straps := by rw [hbase]; rfl
    have hgains : base.comp.gains = s.comp.gains := by rw [hbase]; rfl
    have hparams : base.unit.params = s.unit.params := by rw [hbase]; rfl
    have hrepair : base.repair = s.repair := by rw [hbase]; rfl
    have hdepth : depth (applyChangesAt 0 base) = depth s := by rw [depth_applyChangesAt, depth, hstraps]; rfl
    have hcounter : (applyChangesAt 0 base).repair.seqCounter = s.repair.seqCounter := by rw [hmoved, hrepair]
    have hunrecorded : (applyChangesAt 0 base).repair.unrecorded = s.repair.unrecorded := by rw [hmoved, hrepair]
    have hchanges : (softReset reading base).repair.changes = [] := rfl
    have hzero : (softReset reading base).store.fill = List.replicate (depth s) (List.replicate 144 0) := by
      rw [← hdepth]; rfl
    have hpulses : (softReset reading base).comp.pulses = List.replicate (depth s) (List.replicate 144 0) := by
      rw [← hdepth]; rfl
    have hflags : (softReset reading base).store.rowFlags = List.replicate (depth s) false := by rw [← hdepth]; rfl
    refine ⟨softReset reading base, exec_softReset hevent, rfl, hframe.straps.trans hstraps, hframe.gains.trans hgains,
      ?_, ?_, ?_, ?_, ?_, ?_, ?_, ?_, ?_, ?_, ?_, ?_, ?_, hzero, rfl, hflags, rfl, rfl, rfl, rfl, rfl, hpulses, rfl, rfl,
      rfl, ?_, rfl, traceSelected_of_rest rfl, rfl, faultOf_eq reading, rfl, rfl, rfl, rfl, rfl, rfl, rfl, rfl,
      rfl, rfl, rfl, rfl, hchanges, rfl, rfl, rfl, softRepair_slots _, hcounter, hunrecorded, fun hnone => ?_⟩
    · rw [hlink]; exact haddress
    · rw [hlink]; exact hsubordinate
    all_goals try rw [hlink]
    · rfl
    · rfl
    · rfl
    · rfl
    · rfl
    · rfl
    · rfl
    · rfl
    · exact softLink_passBuf base
    · exact RxState.softReset_eq _
    · exact RxState.softReset_eq _
    · exact congrArg Params.repeats (hframe.params.trans hparams)
    · rw [softReset_repair, applyChangesAt_of_nil 0 (hrepair ▸ hnone), hrepair]
      exact ⟨rfl, rfl, rfl, rfl⟩

end Sys2Proof.Machine

/-! Reception at the link ports: start bytes, headers, end marks and gaps (O9 to O12). -/

namespace Sys2Proof.Machine

-- One theorem at a time: elaborated at once, they wait on each other and each holds a thread.
set_option Elab.async false

/-! ## Start bytes (R145, R149) -/

/-- Settles O9. -/
theorem startByteBeginsAMessageOrOverruns : Obligations.StartByteBeginsAMessageOrOverruns := by
  unfold Obligations.StartByteBeginsAMessageOrOverruns
  intro s hreset
  refine ⟨fun hrx => ⟨fun hroom => ?_, fun hfull => ?_⟩, fun hrx hhold => ⟨fun hroom => ?_, fun hfull => ?_⟩⟩
  · have hup := (upRoom_iff s).mpr hroom
    simp [exec, execStartByteReceived, startUp, hreset, hrx, hup]
  · have hup := mt (upRoom_iff s).mp hfull
    simp only [exec, execStartByteReceived, startUp, hreset, hrx, if_neg hup]
    rfl
  · have hdown := (downRoom_iff s).mpr hroom
    simp [exec, execStartByteReceived, startDown, downAtReset, hreset, hhold, hrx, hdown]
  · have hdown := mt (downRoom_iff s).mp hfull
    simp only [exec, execStartByteReceived, startDown, downAtReset, hreset, hhold, hrx, if_neg hdown]
    rfl

/-! ## Headers (R145, R152, R154) -/

theorem lengthValid_iff (h : Header) : lengthValid h = true ↔ h.len.toNat ≤ 512 := decide_eq_true_iff

/-- What go seen at DOWN with a header makes of the state. -/
theorem noteGo_eq (go : Bool) (s : State) :
    (if go then noteDownGo s else s)
      = s.withLink { s.link with partner := s.link.partner || (go && !(s.link.inLinkReset || holding s)) } := by
  cases go
  · simp; rfl
  · simp [noteDownGo_eq]

theorem headerUp_valid {h : Header} {s : State} (hlen : h.len.toNat ≤ 512) (hrx : s.link.upRx = .header) (go : Bool) :
    headerUp h go s = routeUp h go
      (s.withLink { s.link with partner := s.link.partner || (go && !(s.link.inLinkReset || holding s)) }) := by
  rw [headerUp, hrx]
  dsimp only
  rw [if_pos ((lengthValid_iff h).mpr hlen), noteGo_eq]

theorem headerUp_invalid {h : Header} {s : State} (hlen : 512 < h.len.toNat) (hrx : s.link.upRx = .header) (go : Bool) :
    headerUp h go s
      = charge .up .framingErr (s.withLink { s.link with upRx := .hunt, upBuf := dropUpPlace s.link.upBuf }) := by
  rw [headerUp, hrx]
  dsimp only
  rw [if_neg (mt (lengthValid_iff h).mp (Nat.not_le.mpr hlen))]

theorem headerUp_skip {why : SkipWhy} {s : State} (h : Header) (hrx : s.link.upRx = .skip why none) (go : Bool) :
    headerUp h go s
      = s.withLink { s.link with upRx := if h.len.toNat ≤ 512 then .skip why (some h) else .hunt } := by
  rw [headerUp, hrx]
  simp only [lengthValid_iff]

theorem headerDown_valid {h : Header} {s : State} (hlen : h.len.toNat ≤ 512) (hrx : s.link.downRx = .header) :
    headerDown h s = s.withLink { s.link with downRx := .body h false .none } := by
  rw [headerDown, hrx]
  dsimp only
  rw [if_pos ((lengthValid_iff h).mpr hlen)]

theorem headerDown_invalid {h : Header} {s : State} (hlen : 512 < h.len.toNat) (hrx : s.link.downRx = .header) :
    headerDown h s
      = charge .down .framingErr (s.withLink { s.link with downRx := .hunt, passBuf := dropPassPlace s.link.passBuf }) := by
  rw [headerDown, hrx]
  dsimp only
  rw [if_neg (mt (lengthValid_iff h).mp (Nat.not_le.mpr hlen))]

theorem headerDown_skip {why : SkipWhy} {s : State} (h : Header) (hrx : s.link.downRx = .skip why none) :
    headerDown h s
      = s.withLink { s.link with downRx := if h.len.toNat ≤ 512 then .skip why (some h) else .hunt } := by
  rw [headerDown, hrx]
  simp only [lengthValid_iff]

/-- The copy goes cut-through (R154). -/
def cutsThrough (s : State) (h : Header) (go : Bool) : Bool :=
  go && !s.link.downBusy && s.link.downBuf.isEmpty && h.kind != 0x01

theorem forwardWay_of_down {s : State} {h : Header} {go : Bool} (hdown : routesDown s h = true)
    (henum : ¬ (h.dst = 255 ∧ h.kind = kEnum)) :
    forwardWay s h go = if cutsThrough s h go then .cutThrough else .stored := by
  have hcut : (!s.link.downBusy && go && s.link.downBuf.isEmpty && !(h.kind == kEnum)) = cutsThrough s h go := by
    rw [cutsThrough, Bool.and_comm go]; rfl
  rw [forwardWay, hdown, if_neg henum, hcut]
  rfl

theorem forwardWay_of_not_down {s : State} {h : Header} (go : Bool) (hdown : routesDown s h = false) :
    forwardWay s h go = .none := by
  simp [forwardWay, hdown]

theorem forwardWay_of_enum {s : State} {h : Header} (go : Bool) (hdown : routesDown s h = true)
    (henum : h.dst = 255 ∧ h.kind = kEnum) : forwardWay s h go = .enumPlace := by
  rw [forwardWay, hdown, if_pos henum]
  rfl

/-- A message for the tile, or that goes on down, is received (R152). -/
theorem routeUp_onward {h : Header} {go : Bool} {s : State}
    (hway : routesToTile s h = true ∨ routesDown s h = true ∨ h.dst = 255) :
    routeUp h go s = s.withLink { s.link with
      upRx := .body h (routesToTile s h) (forwardWay s h go)
      upBuf := if routesToTile s h then s.link.upBuf else dropUpPlace s.link.upBuf
      downBuf := s.link.downBuf ++ forwardPlace h (forwardWay s h go)
      downBusy := s.link.downBusy || forwardWay s h go == .cutThrough } := by
  have hgo : (!routesToTile s h && forwardWay s h go == .none && h.dst != 255) = false := by
    obtain htile | hdown | hall := hway
    · simp [htile]
    · have hsome : forwardWay s h go ≠ .none := by
        simp only [forwardWay, hdown, Bool.not_true, Bool.false_eq_true, if_false]
        repeat' split
        all_goals exact fun hnone => nomatch hnone
      simp [hsome]
    · simp [hall]
  rw [routeUp]
  dsimp only
  rw [hgo]
  rfl

theorem routesToTile_addressed {h : Header} (hdst : h.dst ≠ 255) (s : State) :
    routesToTile s h = true ↔ h.dst.toNat = s.link.address ∧ s.link.address ≠ 0 := by
  rw [routesToTile, if_neg hdst]
  simp

theorem routesDown_addressed {h : Header} (hdst : h.dst ≠ 255) (s : State) :
    routesDown s h = true ↔ s.link.address < h.dst.toNat ∧ h.dst.toNat ≤ s.link.subordinate := by
  rw [routesDown, if_neg hdst]
  simp [behind]

/-- An addressed message for the tile's own address stays local (R152). -/
theorem routeUp_local {h : Header} {s : State} (go : Bool) (hdst : h.dst ≠ 255) (hown : h.dst.toNat = s.link.address)
    (haddr : s.link.address ≠ 0) : routeUp h go s = s.withLink { s.link with upRx := .body h true .none } := by
  have htile := (routesToTile_addressed hdst s).mpr ⟨hown, haddr⟩
  have hdown : routesDown s h = false := by
    rw [Bool.eq_false_iff, ne_eq, routesDown_addressed hdst]
    omega
  rw [routeUp_onward (.inl htile), forwardWay_of_not_down go hdown, htile]
  have hcut : (Forward.none == .cutThrough) = false := rfl
  simp [forwardPlace, hcut]

/-- An addressed message for a tile behind takes a place of the down-forward buffer (R152, R154). -/
theorem routeUp_behind {h : Header} {s : State} (go : Bool) (hdst : h.dst ≠ 255) (habove : s.link.address < h.dst.toNat)
    (hbelow : h.dst.toNat ≤ s.link.subordinate) :
    routeUp h go s = s.withLink { s.link with
      upRx := .body h false (if cutsThrough s h go then .cutThrough else .stored)
      upBuf := dropUpPlace s.link.upBuf
      downBuf := s.link.downBuf ++ [if cutsThrough s h go then .cutting h else .receiving]
      downBusy := s.link.downBusy || cutsThrough s h go } := by
  have hdown := (routesDown_addressed hdst s).mpr ⟨habove, hbelow⟩
  have htile : routesToTile s h = false := by
    rw [Bool.eq_false_iff, ne_eq, routesToTile_addressed hdst]
    omega
  rw [routeUp_onward (.inr (.inl hdown)), forwardWay_of_down hdown fun henum => hdst henum.1, htile]
  cases cutsThrough s h go <;> rfl

/-- An addressed message for nobody here goes to discard (R152). -/
theorem routeUp_nowhere {h : Header} {s : State} (go : Bool) (hdst : h.dst ≠ 255)
    (hother : h.dst.toNat ≠ s.link.address ∨ s.link.address = 0)
    (hbehind : ¬ (s.link.address < h.dst.toNat ∧ h.dst.toNat ≤ s.link.subordinate)) :
    routeUp h go s
      = s.withLink { s.link with upRx := .skip .misroute (some h), upBuf := dropUpPlace s.link.upBuf } := by
  have htile : routesToTile s h = false := by
    rw [Bool.eq_false_iff, ne_eq, routesToTile_addressed hdst]
    exact fun ⟨hown, haddr⟩ => hother.elim (absurd hown) haddr
  have hdown : routesDown s h = false := by
    rw [Bool.eq_false_iff, ne_eq, routesDown_addressed hdst]
    exact hbehind
  have hout : (h.dst != 255) = true := bne_iff_ne.mpr hdst
  simp only [routeUp, htile, forwardWay_of_not_down go hdown, hout]
  rfl

/-- A broadcast is local for the kinds accepted locally, and with DOWN partner present takes a place below (R152, R154). -/
theorem routeUp_broadcast {h : Header} (go : Bool) (s : State) (hdst : h.dst = 255) :
    routeUp h go s = s.withLink { s.link with
      upRx := .body h (acceptsBroadcast h.kind)
        (if !s.link.partner then .none else if h.kind = 0x01 then .enumPlace
          else if cutsThrough s h go then .cutThrough else .stored)
      upBuf := if acceptsBroadcast h.kind then s.link.upBuf else dropUpPlace s.link.upBuf
      downBuf := s.link.downBuf ++ (if !s.link.partner then [] else
        [if h.kind = 0x01 then .enumSlot else if cutsThrough s h go then .cutting h else .receiving])
      downBusy := s.link.downBusy || (s.link.partner && cutsThrough s h go) } := by
  have htile : routesToTile s h = acceptsBroadcast h.kind := by simp [routesToTile, hdst]
  have hdown : routesDown s h = s.link.partner := by simp [routesDown, hdst]
  rw [routeUp_onward (.inr (.inr hdst)), htile]
  cases hpartner : s.link.partner
  · rw [forwardWay_of_not_down go (hdown.trans hpartner)]
    rfl
  · by_cases hkind : h.kind = 0x01
    · have hcut : cutsThrough s h go = false := by simp [cutsThrough, hkind]
      rw [forwardWay_of_enum go (hdown.trans hpartner) ⟨hdst, hkind⟩, hcut, if_pos hkind, if_pos hkind]
      rfl
    · rw [forwardWay_of_down (hdown.trans hpartner) fun henum => hkind henum.2, if_neg hkind, if_neg hkind]
      cases cutsThrough s h go <;> rfl

/-- Settles O10, by the cases of routing. -/
theorem headersAreCheckedAndRouted : Obligations.HeadersAreCheckedAndRouted := by
  unfold Obligations.HeadersAreCheckedAndRouted
  refine ⟨fun h go s => ⟨fun hlen hrx => ?_, fun hlen hrx => ?_, fun hlen hrx => ?_, fun why hrx => ?_, fun why hrx => ?_⟩,
    fun h go s hlen hrx => ⟨fun hdst => ⟨fun hown haddr => ?_, fun habove hbelow => ?_, fun hother hbehind => ?_⟩,
      fun hdst => ?_⟩⟩
  · exact congrArg _ (headerUp_invalid hlen hrx go)
  · exact congrArg _ (headerDown_invalid hlen hrx)
  · exact congrArg _ (headerDown_valid hlen hrx)
  · exact congrArg _ (headerUp_skip h hrx go)
  · exact congrArg _ (headerDown_skip h hrx)
  · exact congrArg _ ((headerUp_valid hlen hrx go).trans (routeUp_local go hdst hown haddr))
  · exact congrArg _ ((headerUp_valid hlen hrx go).trans (routeUp_behind go hdst habove hbelow))
  · exact congrArg _ ((headerUp_valid hlen hrx go).trans (routeUp_nowhere go hdst hother hbehind))
  · exact congrArg _ ((headerUp_valid hlen hrx go).trans (routeUp_broadcast go _ hdst))

/-! ## End marks (R147, R153 to R156, R159) -/

theorem classifyEnd_good {h : Header} {payload : List Byte} {crc : Word16} {mark : Byte} (hmark : mark = 0x5A)
    (hcrc : crc = messageCrc h payload) : classifyEnd h payload crc mark = none := by
  simp [classifyEnd, hmark, hcrc]

/-- A message that ends bad is charged by its end. -/
theorem classifyEnd_bad {h : Header} {payload : List Byte} {crc : Word16} {mark : Byte}
    (hbad : ¬ (mark = 0x5A ∧ crc = messageCrc h payload)) :
    ∃ k, classifyEnd h payload crc mark = some k ∧ ∀ c : Counters, c.charged k = chargedBad mark c := by
  by_cases hpoison : mark = 0xA9
  · subst hpoison
    exact ⟨.poisonedRx, rfl, fun c => rfl⟩
  · by_cases hgood : mark = 0x5A
    · subst hgood
      have hcrc : crc ≠ messageCrc h payload := fun hcrc => hbad ⟨rfl, hcrc⟩
      refine ⟨.crcErr, ?_, fun c => rfl⟩
      rw [classifyEnd, if_neg (by decide), if_neg (by decide), if_pos hcrc]
    · refine ⟨.framingErr, ?_, fun c => ?_⟩
      · rw [classifyEnd, if_pos ⟨hgood, hpoison⟩]
      · rw [chargedBad, if_neg hpoison, if_neg hgood]; rfl

theorem classifyEnd_eq_none_iff (h : Header) (payload : List Byte) (crc : Word16) (mark : Byte) :
    classifyEnd h payload crc mark = none ↔ mark = 0x5A ∧ crc = messageCrc h payload := by
  refine ⟨fun hnone => ?_, fun ⟨hmark, hcrc⟩ => classifyEnd_good hmark hcrc⟩
  by_contra hbad
  obtain ⟨k, hk, -⟩ := classifyEnd_bad hbad
  simp [hk] at hnone

theorem finishCut_eq (w : Wire) (xs : List FwdPlace) :
    finishCut w xs = xs.map fun p => match p with | .cutting _ => .ready w | _ => p := by
  refine List.map_congr_left fun p _ => ?_
  cases p <;> rfl

theorem forwardGood_eq (f : Forward) (w : Wire) (xs : List FwdPlace) :
    forwardGood f w xs = (match f with
      | .none => xs
      | .enumPlace => xs
      | .stored => xs.map fun p => if p = .receiving then .ready w else p
      | .cutThrough => xs.map fun p => match p with | .cutting _ => .ready w | _ => p) := by
  cases f
  case cutThrough => exact finishCut_eq w xs
  all_goals rfl

theorem forwardBad_eq (f : Forward) (w : Wire) (xs : List FwdPlace) :
    forwardBad f w xs = (match f with
      | .none => xs
      | .enumPlace => (xs.reverse.erase .enumSlot).reverse
      | .stored => xs.filter (· != .receiving)
      | .cutThrough => xs.map fun p => match p with | .cutting _ => .ready w | _ => p) := by
  cases f
  case cutThrough => exact finishCut_eq w xs
  all_goals rfl

section
variable {h : Header} {payload : List Byte} {crc : Word16} {mark : Byte} {s : State}
  (hlen : payload.length = h.len.toNat)
include hlen

theorem endUp_good {toTile : Bool} {fwd : Forward} (hrx : s.link.upRx = .body h toTile fwd) (hmark : mark = 0x5A)
    (hcrc : crc = messageCrc h payload) :
    endUp payload crc mark s
      = upHunt (if toTile then fillUpPlace (messageOf h payload) (fwd != .none) s.link.upBuf else s.link.upBuf)
          (forwardGood fwd ⟨messageOf h payload, crc, mark⟩ s.link.downBuf) s := by
  simp only [endUp, hrx, hlen, ne_eq, not_true, if_false, classifyEnd_good hmark hcrc]

theorem endUp_bad {toTile : Bool} {fwd : Forward} (hrx : s.link.upRx = .body h toTile fwd)
    (hbad : ¬ (mark = 0x5A ∧ crc = messageCrc h payload)) :
    endUp payload crc mark s
      = raise .linkErrors (s.withLink { s.link with
          upRx := .hunt
          upBuf := dropUpPlace s.link.upBuf
          downBuf := forwardBad fwd ⟨messageOf h payload, crc, 0xA9⟩ s.link.downBuf
          upCounts := chargedBad mark s.link.upCounts }) := by
  obtain ⟨k, hk, hcharged⟩ := classifyEnd_bad hbad
  simp only [endUp, hrx, hlen, ne_eq, not_true, if_false, hk, charge, upHunt, State.withLink_link, hcharged]
  rfl

theorem endUp_overrun (hrx : s.link.upRx = .skip .overrun (some h)) :
    endUp payload crc mark s = s.withLink { s.link with upRx := .hunt } := by
  simp only [endUp, hrx, hlen, ne_eq, not_true, if_false]
  rfl

theorem endUp_misroute (hrx : s.link.upRx = .skip .misroute (some h)) :
    endUp payload crc mark s
      = raise .linkErrors (s.withLink { s.link with
          upRx := .hunt
          upCounts := if mark = 0x5A ∧ crc = messageCrc h payload then
              { s.link.upCounts with misroute := min (s.link.upCounts.misroute + 1) 65535 }
            else chargedBad mark s.link.upCounts }) := by
  by_cases hgood : mark = 0x5A ∧ crc = messageCrc h payload
  · simp only [endUp, hrx, hlen, ne_eq, not_true, if_false, classifyEnd_good hgood.1 hgood.2, if_pos hgood]
    rfl
  · obtain ⟨k, hk, hcharged⟩ := classifyEnd_bad hgood
    simp only [endUp, hrx, hlen, ne_eq, not_true, if_false, hk, if_neg hgood, Option.getD_some, charge, upHunt,
      State.withLink_link, hcharged]
    rfl

theorem endUp_softReset (hrx : s.link.upRx = .skip .softReset (some h)) :
    endUp payload crc mark s
      = s.withLink { s.link with
          upRx := .hunt
          downBuf := finishCut ⟨messageOf h payload, crc,
            if mark = 0x5A ∧ crc = messageCrc h payload then 0x5A else 0xA9⟩ s.link.downBuf } := by
  simp only [endUp, hrx, hlen, ne_eq, not_true, if_false, classifyEnd_eq_none_iff]
  rfl

theorem endDown_bad {b : Bool} {f : Forward} (hrx : s.link.downRx = .body h b f)
    (hbad : ¬ (mark = 0x5A ∧ crc = messageCrc h payload)) :
    endDown payload crc mark s
      = raise .linkErrors (s.withLink { s.link with
          downRx := .hunt
          passBuf := dropPassPlace s.link.passBuf
          downCounts := chargedBad mark s.link.downCounts }) := by
  obtain ⟨k, hk, hcharged⟩ := classifyEnd_bad hbad
  simp only [endDown, hrx, hlen, ne_eq, not_true, if_false, hk, charge, State.withLink_link, hcharged]
  rfl

theorem endDown_good {b : Bool} {f : Forward} (hrx : s.link.downRx = .body h b f) (hmark : mark = 0x5A)
    (hcrc : crc = messageCrc h payload) :
    endDown payload crc mark s
      = noteEnumReply (messageOf h payload) (s.withLink { s.link with
          downRx := .hunt, passBuf := fillPassPlace ⟨messageOf h payload, crc, mark⟩ s.link.passBuf }) := by
  simp only [endDown, hrx, hlen, ne_eq, not_true, if_false, classifyEnd_good hmark hcrc]

theorem endDown_skip {why : SkipWhy} (hrx : s.link.downRx = .skip why (some h)) :
    endDown payload crc mark s = s.withLink { s.link with downRx := .hunt } := by
  simp only [endDown, hrx, hlen, ne_eq, not_true, if_false]

end

/-- An ENUM reply whose last lies in own..254 sets the subordinate address (R159). -/
theorem noteEnumReply_eq (m : Message) (s : State) :
    noteEnumReply m s = s.withLink { s.link with
      subordinate :=
        if m.kind = 0x81 ∧ 2 ≤ m.payload.length ∧ s.link.address ≠ 0 ∧ s.link.address ≤ (m.payload.getD 1 0).toNat
            ∧ (m.payload.getD 1 0).toNat ≤ 254
        then (m.payload.getD 1 0).toNat else s.link.subordinate } := by
  have hmarked : withReplyMarker kEnum = 0x81 := by decide
  by_cases hreply : m.kind = 0x81 ∧ 2 ≤ m.payload.length
  · obtain ⟨hkind, hlength⟩ := hreply
    have hbyte : m.payload[1]? = some (m.payload.getD 1 0) := by
      rw [List.getD_eq_getElem?_getD, List.getElem?_eq_getElem (Nat.lt_of_succ_le hlength)]; rfl
    have hlast : enumReplyLast m = some (m.payload.getD 1 0).toNat := by
      rw [enumReplyLast, hmarked, if_pos hkind, hbyte]; rfl
    simp only [noteEnumReply, hlast, hkind, hlength, true_and]
    split
    · rfl
    · rfl
  · have hlast : enumReplyLast m = none := by
      rw [enumReplyLast, hmarked]
      split
      · next hkind =>
        have hshort : m.payload.length ≤ 1 := Nat.le_of_lt_succ (Nat.lt_of_not_le fun hlength => hreply ⟨hkind, hlength⟩)
        rw [List.getElem?_eq_none hshort]; rfl
      · rfl
    rw [if_neg fun ⟨hkind, hlength, _⟩ => hreply ⟨hkind, hlength⟩]
    simp only [noteEnumReply, hlast]
    rfl

/-- Settles O11, by the receiver's state and the classification of the end. -/
theorem endMarksAreClassified : Obligations.EndMarksAreClassified := by
  unfold Obligations.EndMarksAreClassified
  refine ⟨fun h toTile fwd payload crc mark s hrx hlen => ⟨fun hmark hcrc => ?_, fun hbad => ?_⟩,
    fun h payload crc mark s hlen => ⟨fun hrx => ?_, fun hrx => ?_, fun hrx => ?_⟩,
    fun h payload crc mark s hlen => ⟨fun hrx hmark hcrc => ?_, fun hrx hbad => ?_, fun why hrx => ?_⟩⟩
  · refine congrArg _ ((endUp_good hlen hrx hmark hcrc).trans ?_)
    subst hmark
    rw [forwardGood_eq]
    cases fwd <;> rfl
  · refine congrArg _ ((endUp_bad hlen hrx hbad).trans ?_)
    rw [forwardBad_eq]
    rfl
  · exact congrArg _ (endUp_overrun hlen hrx)
  · exact congrArg _ (endUp_misroute hlen hrx)
  · refine congrArg _ ((endUp_softReset hlen hrx).trans ?_)
    rw [finishCut_eq]
    rfl
  · refine congrArg _ ((endDown_good hlen hrx hmark hcrc).trans ?_)
    subst hmark
    rw [noteEnumReply_eq]
    rfl
  · exact congrArg _ (endDown_bad hlen hrx hbad)
  · exact congrArg _ (endDown_skip hlen hrx)

/-! ## Gaps (R146, R155) -/

theorem gapUp_body {h : Header} {toTile : Bool} {fwd : Forward} {s : State} (hrx : s.link.upRx = .body h toTile fwd)
    (received : List Byte) :
    gapUp received s = charge .up .framingErr
      (upHunt (dropUpPlace s.link.upBuf) (forwardBad fwd (paddedCopy h received) s.link.downBuf) s) := by
  rw [gapUp, hrx]

theorem gapDown_inMessage {s : State} (hrx : s.link.downRx = .header ∨ ∃ h b f, s.link.downRx = .body h b f) :
    gapDown s = charge .down .framingErr
      (s.withLink { s.link with downRx := .hunt, passBuf := dropPassPlace s.link.passBuf }) := by
  obtain hrx | ⟨h, b, f, hrx⟩ := hrx <;> rw [gapDown, hrx]

/-- Settles O12, by the receiver's state. -/
theorem gapEndsTheMessage : Obligations.GapEndsTheMessage := by
  unfold Obligations.GapEndsTheMessage
  intro received s
  refine ⟨fun h toTile fwd hrx => ?_, fun hrx => ?_, fun x hrx => ?_, fun x hrx => ?_, fun h hrx => ?_, fun hrx => ?_,
    fun why x hrx => ?_, fun hrx => ?_, fun hrx => ?_⟩
  · refine congrArg _ ((gapUp_body hrx received).trans ?_)
    rw [forwardBad_eq]
    rfl
  · simp only [exec, execGapTimeout, gapUp, hrx]; rfl
  · simp only [exec, execGapTimeout, gapUp, hrx]; rfl
  · obtain hrx | ⟨-, hrx⟩ := hrx <;> simp only [exec, execGapTimeout, gapUp, hrx] <;> rfl
  · simp only [exec, execGapTimeout, gapUp, hrx, finishCut_eq]; rfl
  · exact congrArg _ (gapDown_inMessage hrx)
  · simp only [exec, execGapTimeout, gapDown, hrx]
  · simp only [exec, execGapTimeout, gapUp, hrx]
  · simp only [exec, execGapTimeout, gapDown, hrx]

end Sys2Proof.Machine

/-! Transmission, enumeration, the chain reset and the deferred replies (O13 to O17). -/

namespace Sys2Proof.Machine

-- One theorem at a time: elaborated at once, they wait on each other and each holds a thread.
set_option Elab.async false

/-! ## The UP transmitter (R157, R165, R177) -/

theorem ownReady_of_reply {s : State} {r : Reply} {rest : List Reply} (h : s.unit.replies = r :: rest) :
    ownReady s = true := by simp [ownReady, h]

theorem ownReady_of_notice {s : State} {k : NoticeKind} (h : s.unit.notices.highest = some k) : ownReady s = true := by
  simp [ownReady, h]

theorem ownReady_of_nothing {s : State} (hreplies : s.unit.replies = []) (hnotices : s.unit.notices.highest = none) :
    ownReady s = false := by simp [ownReady, hreplies, hnotices]

/-- The local source is served when it alone is ready, or was not served last (R157). -/
theorem arbitrateUp_own {s : State} (hown : ownReady s = true)
    (hturn : passReady s = none ∨ s.link.lastServed = .passThrough) : arbitrateUp s = serveOwn s := by
  obtain hnone | hlast := hturn
  · simp [arbitrateUp, hnone, hown]
  · unfold arbitrateUp
    split
    · rw [if_pos hown]
    · rw [if_pos hown, if_pos hlast]

/-- The pass-through source is served when it alone is ready, or was not served last (R157). -/
theorem arbitrateUp_pass {s : State} {w : Wire} (hpass : passReady s = some w)
    (hturn : ownReady s = false ∨ s.link.lastServed = .ownTraffic) : arbitrateUp s = servePass w s := by
  obtain hidle | hlast := hturn
  · simp [arbitrateUp, hpass, hidle]
  · simp [arbitrateUp, hpass, hlast]

theorem serveOwn_of_reply {s : State} {r : Reply} {rest : List Reply} (h : s.unit.replies = r :: rest) :
    serveOwn s = beginUp (.own (replyWire r s) r.isReset) .ownTraffic (s.withUnit { s.unit with replies := rest }) := by
  rw [serveOwn, h]

theorem serveOwn_of_notice {s : State} {k : NoticeKind} (hreplies : s.unit.replies = [])
    (h : s.unit.notices.highest = some k) :
    serveOwn s = beginUp (.own (noticeWire k s) false) .ownTraffic (noticeSent k s) := by
  rw [serveOwn, hreplies]
  simp only [h]

theorem exec_upTransmitStart {s : State} (hidle : s.link.upTx = .idle) (hreset : s.link.inLinkReset = false) :
    exec (.upTransmitStart true) s = .next (arbitrateUp s) := by
  simp [exec, execUpTransmitStart, hidle, hreset]

/-- Settles O13, by the arbiter's turns. -/
theorem upTransmitterServesInTurn : Obligations.UpTransmitterServesInTurn := by
  unfold Obligations.UpTransmitterServesInTurn
  refine ⟨fun s hidle hreset => ⟨fun r rest hreplies hturn => ?_, fun k hreplies hnotice hturn => ?_,
    fun w hpass hturn => ?_, ?_⟩, fun reading w s => ⟨fun htx => ?_, fun htx => ?_⟩⟩
  · rw [exec_upTransmitStart hidle hreset, arbitrateUp_own (ownReady_of_reply hreplies) hturn, serveOwn_of_reply hreplies]
    rfl
  · rw [exec_upTransmitStart hidle hreset, arbitrateUp_own (ownReady_of_notice hnotice) hturn,
      serveOwn_of_notice hreplies hnotice]
    rfl
  · rw [exec_upTransmitStart hidle hreset,
      arbitrateUp_pass hpass (hturn.imp_left fun ⟨hreplies, hnotices⟩ => ownReady_of_nothing hreplies hnotices)]
    rfl
  · simp [exec, execUpTransmitStart]
  · simp only [exec, execUpTransmitEnd, htx]
  · simp only [exec, execUpTransmitEnd, htx]

/-! ## The DOWN transmitter (R148, R153, R154) -/

theorem isBroadcastReset_iff (m : Message) : isBroadcastReset m = true ↔ m.dst = 255 ∧ m.kind = 0x14 := by
  simp [isBroadcastReset, kReset]

/-- Any test that singles out the broadcast RESETs that wait counts them. -/
theorem countP_waitingResets {f : RxPlace → Bool} (hwaits : ∀ m, f (.ready m true) = isBroadcastReset m)
    (hfree : ∀ m, f (.ready m false) = false) (hreceiving : f .receiving = false) (xs : List RxPlace) :
    xs.countP f = waitingResets xs := by
  refine congrArg (List.countP · xs) (funext fun p => ?_)
  match p with
  | .receiving => exact hreceiving
  | .ready m true => exact hwaits m
  | .ready m false => exact hfree m

/-- Any test that singles out the forward copies of broadcast RESETs counts them. -/
theorem countP_resetCopies {f : FwdPlace → Bool} (hcopy : ∀ w, f (.ready w) = isBroadcastReset w.msg)
    (hcut : ∀ h, f (.cutting h) = false) (hreceiving : f .receiving = false) (henum : f .enumSlot = false)
    (xs : List FwdPlace) : xs.countP f = resetCopies xs := by
  refine congrArg (List.countP · xs) (funext fun p => ?_)
  cases p with
  | ready w => exact hcopy w
  | cutting h => exact hcut h
  | receiving => exact hreceiving
  | enumSlot => exact henum

/-- The first broadcast RESET that waits loses its mark. -/
theorem releaseReset_of_first {before after : List RxPlace} {m : Message} (hm : isBroadcastReset m = true)
    (hbefore : ∀ x, .ready x true ∈ before → isBroadcastReset x = false) :
    releaseReset (before ++ .ready m true :: after) = before ++ .ready m false :: after := by
  induction before with
  | nil => simp [releaseReset, hm]
  | cons p before ih =>
    have hrest := ih fun x hx => hbefore x (List.mem_cons_of_mem _ hx)
    match p with
    | .receiving => simp [releaseReset, hrest]
    | .ready x false => simp [releaseReset, hrest]
    | .ready x true => simp [releaseReset, hrest, hbefore x List.mem_cons_self]

theorem startHoldIfIdle_of_none {s : State} (h : s.link.hold = .none) : startHoldIfIdle s = s := by
  rw [startHoldIfIdle, h]

theorem exec_downTransmitEnd {w : Wire} {rest : List FwdPlace} {s : State} (hbuf : s.link.downBuf = .ready w :: rest)
    (hhold : s.link.hold = .none) (hbusy : s.link.downBusy = true) :
    exec .downTransmitEnd s = .next (downSent w rest s) := by
  simp only [exec, execDownTransmitEnd, hbusy, hbuf, if_true]
  rw [startHoldIfIdle_of_none (s := downSent w rest s) hhold]

theorem downSent_keeping {w : Wire} {rest : List FwdPlace} {s : State}
    (hkeep : ¬ (isBroadcastReset w.msg = true ∧ resetCopies rest < waitingResets s.link.upBuf)) :
    downSent w rest s = s.withLink { s.link with downBusy := false, downBuf := rest } := by
  have hcond : ¬ (isBroadcastReset w.msg && decide (resetCopies rest < waitingResets s.link.upBuf)) = true := by
    simpa using hkeep
  rw [downSent, if_neg hcond]

theorem downSent_releasing {w : Wire} {rest : List FwdPlace} {s : State} (hreset : isBroadcastReset w.msg = true)
    (hmore : resetCopies rest < waitingResets s.link.upBuf) :
    downSent w rest s
      = s.withLink { s.link with downBusy := false, downBuf := rest, upBuf := releaseReset s.link.upBuf } := by
  simp only [downSent, hreset, hmore, decide_true, Bool.and_self, if_true]

theorem exec_downTransmitStart_go {s u : State} (hnote : noteDownGo s = u) (hidle : u.link.downBusy = false)
    (hfree : downAtReset u = false) (hready : downReady u = true) :
    exec (.downTransmitStart true) s = .next (u.withLink { u.link with downBusy := true }) := by
  simp only [exec, execDownTransmitStart, if_true, hnote, hidle, hfree, hready]
  rfl

/-- Settles O14. -/
theorem downTransmitterServesInOrder : Obligations.DownTransmitterServesInOrder := by
  unfold Obligations.DownTransmitterServesInOrder
  intro w rest s hbuf hreset hhold
  have hatReset : downAtReset s = false := by simp [downAtReset, holding, hreset, hhold]
  refine ⟨fun hidle => ?_, fun hidle => ?_, fun hbusy => ?_⟩
  · have hnote : noteDownGo s = s.withLink { s.link with partner := true } := by simp [noteDownGo, hatReset]
    exact exec_downTransmitStart_go hnote hidle hatReset (by simp [downReady, hbuf])
  · simp [exec, execDownTransmitStart]
  · intro waits copy
    rw [exec_downTransmitEnd hbuf hhold hbusy,
      countP_waitingResets (f := waits) (fun _ => rfl) (fun _ => rfl) rfl,
      countP_resetCopies (f := copy) (fun _ => rfl) (fun _ => rfl) rfl rfl]
    refine ⟨fun hkeep => congrArg _ (downSent_keeping ?_), fun before m after hdst hkind hmore hup hm hbefore => ?_⟩
    · rw [isBroadcastReset_iff]
      exact fun ⟨hres, hmore⟩ => hkeep.elim (absurd hres) (Nat.not_le.mpr hmore)
    · have hfirst : releaseReset s.link.upBuf = before ++ .ready m false :: after := by
        rw [hup]
        exact releaseReset_of_first hm fun x hx => hbefore _ hx
      rw [downSent_releasing ((isBroadcastReset_iff _).mpr ⟨hdst, hkind⟩) hmore, hfirst]

/-! ## Enumeration (R158) -/

theorem exec_enum_dispatched {q : Request} {s : State} (h : Dispatched kEnum q s) :
    exec (.enum q) s = .next (enumTaken q (headDown (present kEnum q s)) (atTake kEnum q s)) :=
  request_dispatched (enumTaken q) h

@[simp] theorem byteOf_byte (n : Byte) : byteOf n.toNat = n :=
  (BitVec.ofNat_toNat 8 n).trans (BitVec.setWidth_eq n)

theorem byteOf_succ (n : Byte) : byteOf (n.toNat + 1) = n + 1 := by
  apply BitVec.eq_of_toNat_eq
  simp [BitVec.toNat_add]

theorem enumReply_eq (q : Request) (x : ReplyStatus) (last : Nat) (s : State) :
    enumReply q x last s = s.replying (replyOf kEnum q (statusByte x) [byteOf last]) := rfl

theorem giveUpEnumPlace_eq (down : Bool) (s : State) :
    giveUpEnumPlace down s = s.withLink { s.link with
      downBuf := if down then s.link.downBuf.erase .enumSlot else s.link.downBuf } := by
  cases down <;> rfl

/-- Settles O15, row by row. -/
theorem enumAssignsAddresses : Obligations.EnumAssignsAddresses := by
  unfold Obligations.EnumAssignsAddresses
  intro q n s hdisp hpayload
  rw [exec_enum_dispatched hdisp]
  have hbyte : byteAt q.payload 0 = n.toNat := by rw [hpayload]; rfl
  refine ⟨fun hq hlow hhigh hdown => ?_, fun hq hlow hhigh hdown => ?_, fun hq hn => ?_, fun hq => ?_⟩
  · have hzero : n.toNat ≠ 0 := by omega
    have hall : n.toNat ≠ 255 := by omega
    simp only [enumTaken, hq, hbyte, hzero, hall, hdown, nextEnum, byteOf_byte, byteOf_succ, Bool.not_true, Bool.false_eq_true,
      if_false, if_true]
    rfl
  · have hzero : n.toNat ≠ 0 := by omega
    have hall : n.toNat ≠ 255 := by omega
    simp only [enumTaken, hq, hbyte, hzero, hall, hdown, Bool.not_true, Bool.false_eq_true, if_false, enumReply_eq,
      byteOf_byte]
    rfl
  · obtain rfl | rfl := hn
    · simp only [enumTaken, hq, hbyte, enumReply_eq, giveUpEnumPlace_eq]
      rfl
    · simp only [enumTaken, hq, hbyte, enumReply_eq, giveUpEnumPlace_eq]
      rfl
  · simp only [enumTaken, hq, enumReply_eq, atTake_address]
    rfl

/-! ## The chain reset (R160) -/

theorem exec_chainReset_dispatched {q : Request} {s : State} (h : Dispatched kChainReset q s) :
    exec (.chainReset q) s = .next (chainResetTaken q (atTake kChainReset q s)) :=
  request_dispatched (fun _ => chainResetTaken q) h

theorem chainResetTaken_free {q : Request} {s : State} (h : s.link.hold = .none) :
    chainResetTaken q s = startHoldIfIdle (s.withLink { s.link with hold := .waiting q.src q.tag }) := by
  rw [chainResetTaken, holdFree, h]; rfl

theorem chainResetTaken_held {q : Request} {s : State} (h : s.link.hold ≠ .none) :
    chainResetTaken q s = refuse kChainReset q .busy s := by
  have hheld : ¬ holdFree s = true := by simpa [holdFree] using h
  rw [chainResetTaken, if_neg hheld]

theorem startHoldIfIdle_of_idle {src tag : Byte} {s : State} (h : s.link.hold = .waiting src tag)
    (hidle : s.link.downBusy = false) : startHoldIfIdle s = startHold src tag s := by
  rw [startHoldIfIdle, h]
  simp only [hidle, Bool.false_eq_true, if_false]

theorem startHoldIfIdle_of_busy {src tag : Byte} {s : State} (h : s.link.hold = .waiting src tag)
    (hbusy : s.link.downBusy = true) : startHoldIfIdle s = s := by
  rw [startHoldIfIdle, h]
  simp only [hbusy, if_true]

theorem chainResetTaken_busy {q : Request} {s : State} (h : s.link.hold = .none) (hbusy : s.link.downBusy = true) :
    chainResetTaken q s = s.withLink { s.link with hold := .waiting q.src q.tag } :=
  (chainResetTaken_free h).trans
    (startHoldIfIdle_of_busy (s := s.withLink { s.link with hold := .waiting q.src q.tag }) rfl hbusy)

theorem chainResetTaken_idle {q : Request} {s : State} (h : s.link.hold = .none) (hidle : s.link.downBusy = false) :
    chainResetTaken q s = startHold q.src q.tag s :=
  (chainResetTaken_free h).trans
    (startHoldIfIdle_of_idle (s := s.withLink { s.link with hold := .waiting q.src q.tag }) rfl hidle)

/-- A reply that is due enters where a place is free, and waits elsewhere (R160, R166). -/
theorem enterHold_due {s : State} {r : Reply} (h : s.link.hold = .due r) :
    enterHold s = if s.unit.replies.length < 8 then (s.withLink { s.link with hold := .none }).replying r else s := by
  rw [enterHold, h]
  simp only [replyRoom_iff]
  rfl

theorem enterHold_of_full {s : State} (h : ¬ s.unit.replies.length < 8) : enterHold s = s := by
  unfold enterHold
  split
  · rw [if_neg (mt (replyRoom_iff s).mp h)]
  all_goals rfl

/-- Settles O16. -/
theorem chainResetHoldsTheLineBelow : Obligations.ChainResetHoldsTheLineBelow := by
  unfold Obligations.ChainResetHoldsTheLineBelow
  intro q s
  refine ⟨fun hdisp => ?_, fun src tag hhold hidle => ?_, fun src tag ms hhold => ?_⟩
  · have haddr := hdisp.addressed rfl
    rw [exec_chainReset_dispatched hdisp]
    refine ⟨fun hheld => ?_, fun hfree hbusy => ?_, fun hfree hidle => ?_⟩
    · rw [chainResetTaken_held ((atTake_hold kChainReset q s).symm ▸ hheld), refuse, answer_addressed haddr]
      rfl
    · rw [chainResetTaken_busy ((atTake_hold kChainReset q s).trans hfree) ((atTake_downBusy kChainReset q s).trans hbusy)]
    · rw [chainResetTaken_idle ((atTake_hold kChainReset q s).trans hfree) ((atTake_downBusy kChainReset q s).trans hidle)]
      refine ⟨_, rfl, rfl, rfl, rfl, atTake_address .., atTake_address .., rfl, atTake_upTx .., ?_, rfl, atTake_upCounts ..,
        atTake_downCounts .., atTake_lastServed .., Bool.or_true _, atTake_unit .., ?_⟩
      · exact congrArg RxState.withoutForward (atTake_upRx ..)
      · constructor <;> simp [startHold]
  · have hexec : exec .chainResetHoldStart s = .next (startHold src tag s) :=
      congrArg Host.Outcome.next (startHoldIfIdle_of_idle hhold hidle)
    refine ⟨_, hexec, rfl, rfl, rfl, rfl, rfl, rfl, rfl, rfl, rfl, rfl, rfl, rfl, rfl,
      rfl, ?_⟩
    constructor <;> rfl
  · have hdue := enterHold_due (s := s.withLink { s.link with hold := .due ⟨src, 0x95, tag, [0], false⟩ }) rfl
    have hexec : exec .chainResetHoldEnd s
        = .next (enterHold (s.withLink { s.link with hold := .due ⟨src, 0x95, tag, [0], false⟩ })) := by
      simp only [exec, execChainResetHoldEnd, hhold]
      rfl
    refine ⟨fun hroom => ?_, fun hfull => ?_⟩
    · rw [hexec, hdue, State.withLink_unit, if_pos hroom]; rfl
    · rw [hexec, hdue, State.withLink_unit, if_neg hfull]

/-! ## Deferred replies (R66, R127, R166) -/

theorem enterSpot_of_full {s : State} (h : ¬ s.unit.replies.length < 8) : enterSpot s = s := by
  unfold enterSpot
  split
  · rfl
  · split
    · rw [if_neg (mt (replyRoom_iff s).mp h)]
    · rfl

theorem foldl_fixed {α β : Type} {f : β → α → β} {b : β} (h : ∀ a, f b a = b) (xs : List α) : xs.foldl f b = b := by
  induction xs with
  | nil => rfl
  | cons x xs ih => rw [List.foldl_cons, h, ih]

/-- The state once k of the due entries at the head have left with their replies. -/
def spotsLeft (k : Nat) (due rest : List SpotEntry) (s : State) : State :=
  (s.withSense { s.sense with spots := due.drop k ++ rest }).withUnit
    { s.unit with replies := s.unit.replies ++ (due.take k).map dueReply }

theorem spotsLeft_zero {due rest : List SpotEntry} {s : State} (h : s.sense.spots = due ++ rest) :
    spotsLeft 0 due rest s = s := by
  simp only [spotsLeft, List.drop_zero, List.take_zero, List.map_nil, List.append_nil]
  rw [← h]
  rfl

theorem length_replying (r : Reply) (s : State) :
    (s.replying r).unit.replies.length = s.unit.replies.length + 1 := by simp [State.replying]

/-- Offers in a row let the due entries at the head leave, as far as there are offers and places (R66). -/
theorem enterSpot_foldl (xs : List Nat) : ∀ (due rest : List SpotEntry) (s : State), s.sense.spots = due ++ rest →
    (∀ e ∈ due, e.status ≠ .waiting) → (∀ e, rest.head? = some e → e.status = .waiting) →
    xs.foldl (fun t _ => enterSpot t) s = spotsLeft (min xs.length (8 - s.unit.replies.length)) due rest s := by
  induction xs with
  | nil =>
    intro due rest s hspots hdue hrest
    rw [List.length_nil, Nat.zero_min, spotsLeft_zero hspots, List.foldl_nil]
  | cons x xs ih =>
    intro due rest s hspots hdue hrest
    by_cases hroom : s.unit.replies.length < 8
    · cases due with
      | nil =>
        rw [foldl_fixed fun _ => enterSpot_waits (by rw [hspots]; exact hrest)]
        rw [spotsLeft, List.drop_nil, List.take_nil, List.nil_append, ← List.nil_append rest, ← hspots]
        simp only [List.map_nil, List.append_nil]
        rfl
      | cons e due =>
        obtain ⟨he, hdue⟩ := List.forall_mem_cons.mp hdue
        have hhead : s.sense.spots = e :: (due ++ rest) := hspots
        rw [List.foldl_cons, enterSpot_cons hhead he, if_pos hroom, ih due rest _ rfl hdue hrest]
        have hcount : min (x :: xs).length (8 - s.unit.replies.length)
            = min xs.length (8 - (s.unit.replies.length + 1)) + 1 := by
          rw [List.length_cons]; omega
        rw [hcount, length_replying, State.withSense_unit]
        simp [spotsLeft, State.replying]
        rfl
    · have hnone : 8 - s.unit.replies.length = 0 := by omega
      rw [foldl_fixed fun _ => enterSpot_of_full hroom, hnone, Nat.min_zero, spotsLeft_zero hspots]

theorem enterSpots_of_due {due rest : List SpotEntry} {s : State} (hspots : s.sense.spots = due ++ rest)
    (hdue : ∀ e ∈ due, e.status ≠ .waiting) (hrest : ∀ e, rest.head? = some e → e.status = .waiting) :
    enterSpots s = spotsLeft (8 - s.unit.replies.length) due rest s := by
  rw [enterSpots, enterSpot_foldl _ due rest s hspots hdue hrest, List.length_range]
  congr 1
  exact Nat.min_eq_right (Nat.sub_le _ _)

theorem enterSpots_of_full {s : State} (h : ¬ s.unit.replies.length < 8) : enterSpots s = s :=
  foldl_fixed (fun _ => enterSpot_of_full h) _

theorem enterBind_of_full {s : State} (h : ¬ s.unit.replies.length < 8) : enterBind s = s := by
  unfold enterBind
  split
  · split
    · rw [if_neg (mt (replyRoom_iff s).mp h)]
    all_goals rfl
  · rfl

/-- Settles O17. -/
theorem deferredRepliesEnter : Obligations.DeferredRepliesEnter := by
  unfold Obligations.DeferredRepliesEnter
  refine fun s => ⟨fun due rest hspots hdue hrest => ?_, fun hroom => ⟨fun b r hb hr => ?_, fun r hr => ?_⟩,
    fun hfull x => ?_⟩
  · exact congrArg _ (enterSpots_of_due hspots hdue hrest)
  · refine congrArg _ ((enterBind_of_ended hb hr).trans ?_)
    rw [if_pos ((replyRoom_iff s).mpr hroom)]
    rfl
  · refine congrArg _ ((enterHold_due hr).trans ?_)
    rw [if_pos hroom]
  · cases x
    · exact congrArg _ (enterSpots_of_full hfull)
    · exact congrArg _ (enterBind_of_full hfull)
    · exact congrArg _ (enterHold_of_full hfull)

end Sys2Proof.Machine

/-! Bytes that hold bits and numbers, the notices, and the reads of lists and maps (O18, O20, O24, O25). -/

namespace Sys2Proof.Machine

-- One theorem at a time: elaborated at once, they wait on each other and each holds a thread.
set_option Elab.async false

/-! ## Bytes of bits and of numbers (R179, 11.2) -/

/-- The number whose bits below n are given. -/
def bitsBelow (b : Nat → Bool) (n : Nat) : Nat := (List.range n).foldl (fun acc i => acc + (if b i then 2 ^ i else 0)) 0

theorem bitsBelow_succ (b : Nat → Bool) (n : Nat) :
    bitsBelow b (n + 1) = bitsBelow b n + (if b n then 2 ^ n else 0) := by
  simp [bitsBelow, List.range_succ]

theorem bitsBelow_lt (b : Nat → Bool) (n : Nat) : bitsBelow b n < 2 ^ n := by
  induction n with
  | zero => exact Nat.zero_lt_one
  | succ n ih =>
    rw [bitsBelow_succ, Nat.pow_succ]
    split <;> omega

theorem testBit_bitsBelow (b : Nat → Bool) {n j : Nat} (h : j < n) : (bitsBelow b n).testBit j = b j := by
  induction n with
  | zero => exact absurd h (Nat.not_lt_zero j)
  | succ n ih =>
    rw [bitsBelow_succ]
    obtain hlt | rfl := Nat.lt_succ_iff_lt_or_eq.mp h
    · split
      · rw [Nat.add_comm, Nat.testBit_two_pow_add_gt hlt, ih hlt]
      · exact ih hlt
    · have htop : (bitsBelow b j).testBit j = false := Nat.testBit_lt_two_pow (bitsBelow_lt b j)
      split
      · next hb => rw [Nat.add_comm, Nat.testBit_two_pow_add_eq, htop, hb]; rfl
      · next hb => rw [Nat.add_zero, htop, Bool.eq_false_iff.mpr hb]

theorem length_bitBytes (n : Nat) (bits : List Bool) : (bitBytes n bits).length = n := by simp [bitBytes]

/-- Bit i of the bits stands in bit i mod 8 of byte i / 8. -/
theorem getLsbD_bitBytes (bits : List Bool) {n i : Nat} (h : i < 8 * n) :
    ((bitBytes n bits).getD (i / 8) 0).getLsbD (i % 8) = bits.getD i false := by
  have hbyte : i / 8 < n := by omega
  have hbit : i % 8 < 8 := Nat.mod_lt _ (by decide)
  have hget : (bitBytes n bits).getD (i / 8) 0 = byteOf (bitsBelow (fun j => bits.getD (8 * (i / 8) + j) false) 8) := by
    simp [bitBytes, bitsBelow, List.getD_eq_getElem?_getD, hbyte]
  rw [hget, byteOf, BitVec.getLsbD_ofNat, testBit_bitsBelow _ hbit, Nat.div_add_mod]
  simp [hbit]

theorem getD_map_of_eq {α β : Type} (f : α → β) (xs : List α) (i : Nat) (d : α) :
    (xs.map f).getD i (f d) = f (xs.getD i d) := by
  simp only [List.getD_eq_getElem?_getD, List.getElem?_map]
  cases xs[i]? <;> rfl

/-! ## Notices (R176 to R178) -/

/-- The order of priority of the notice kinds (R177). -/
def noticeOrder : List NoticeKind := [.wideFault, .rowLost, .laneEvent, .defect, .listFull, .videoState, .linkErrors]

theorem NoticeKind.forall_iff {p : NoticeKind → Prop} :
    (∀ k, p k) ↔ p .wideFault ∧ p .rowLost ∧ p .laneEvent ∧ p .defect ∧ p .listFull ∧ p .videoState ∧ p .linkErrors := by
  refine ⟨fun h => ⟨h _, h _, h _, h _, h _, h _, h _⟩, fun ⟨hwide, hrow, hlane, hdefect, hlist, hvideo, hlink⟩ k => ?_⟩
  cases k <;> assumption

theorem NoticeFlags.highest_eq_none_iff (f : NoticeFlags) : f.highest = none ↔ ∀ k, f.get k = false := by
  rw [NoticeKind.forall_iff]
  obtain ⟨wide, row, lane, defect, list, video, link⟩ := f
  cases wide <;> cases row <;> cases lane <;> cases defect <;> cases list <;> cases video <;> cases link <;> decide

/-- The kind sent first is the pending one that no pending kind comes before. -/
theorem NoticeFlags.highest_eq_some_iff (f : NoticeFlags) (k : NoticeKind) :
    f.highest = some k ↔ f.get k = true ∧ ∀ j, noticeOrder.idxOf j < noticeOrder.idxOf k → f.get j = false := by
  have hrank (j : NoticeKind) : noticeOrder.idxOf j = (noticeCode j).toNat - 64 := by cases j <;> rfl
  rw [NoticeKind.forall_iff]
  simp only [hrank]
  cases k <;> simp [NoticeFlags.highest, NoticeFlags.get, noticeCode] <;> grind

theorem raise_get (k j : NoticeKind) (s : State) :
    (raise k s).unit.notices.get j
      = (s.unit.notices.get j || (decide (j = k) && s.unit.params.noticeMask.get k)) := by
  rw [raise_or, State.withUnit_unit, NoticeFlags.get_set]
  split
  · next h => subst h; simp
  · next h => simp [h]

theorem policyByte_eq (p : Policy) : policyByte p = (match p with | .auto => 0 | .advise => 1 | .suspended => 2) := by
  cases p <;> rfl

/-- The record of a kind nearest the tail of the list. -/
theorem reverse_find?_of_last {before after : List Defect} {d : Defect} {p : Defect → Bool} (hd : p d = true)
    (hafter : ∀ x ∈ after, p x = false) : (before ++ d :: after).reverse.find? p = some d := by
  have hnone : after.reverse.find? p = none := by simpa using hafter
  simp [List.find?_append, hnone, hd]

/-- The four list-full bits (R177). -/
theorem getLsbD_fourFlags : ∀ a b c d : Bool, ∀ i < 8,
    (byteOf ((if a then 1 else 0) + (if b then 2 else 0) + (if c then 4 else 0) + (if d then 8 else 0))).getLsbD i
      = [a, b, c, d].getD i false := by
  decide

/-- Settles O18. -/
theorem noticesAreRaisedAndCarryTheState : Obligations.NoticesAreRaisedAndCarryTheState := by
  unfold Obligations.NoticesAreRaisedAndCarryTheState
  refine ⟨fun k j s => ⟨raise_get k j s, by rw [raise_eq]; rfl⟩, ?_, fun s => ?_⟩
  · rintro order rfl
    exact ⟨rfl, fun f => ⟨f.highest_eq_some_iff, f.highest_eq_none_iff⟩⟩
  · refine ⟨fun before d after hlist hd hafter => ?_, fun hnone => ?_, length_bitBytes _ _, fun r hr => ?_,
      ⟨_, rfl, length_bitBytes _ _, fun l hl => ?_⟩, fun before d hlist => ?_, fun hlist => ?_, ⟨_, rfl, fun i hi => ?_⟩, ?_,
      rfl⟩
    · have hfind : s.repair.defects.reverse.find? (fun x => x.kind == .wide) = some d := by
        rw [hlist]
        exact reverse_find?_of_last (by simp [hd]) fun x hx => by simpa using hafter x hx
      rw [noticePayload, hfind, policyByte_eq]
      rfl
    · have hfind : s.repair.defects.reverse.find? (fun x => x.kind == .wide) = none := by simpa using hnone
      rw [noticePayload, hfind, policyByte_eq]
      rfl
    · rw [noticePayload, getLsbD_bitBytes _ (by omega)]
      exact getD_map_of_eq (fun x : RowState => x == .lost) s.repair.rows r .normal
    · rw [getLsbD_bitBytes _ (by omega)]
      exact getD_map_of_eq (fun x : LaneState => x == .dark) s.repair.lanes l .normal
    · rw [noticePayload, hlist, List.getLast?_concat]
      rfl
    · rw [noticePayload, hlist]
      rfl
    · rw [fullFlags, ← getLsbD_fourFlags _ _ _ _ i hi]
      simp only [decide_eq_true_eq]
      rfl
    · rw [noticePayload, reportedVideo]
      cases s.ctl.mode <;> cases s.ctl.video <;> rfl

/-! ## Reads that change nothing (R87, R136, R170 to R173) -/

theorem exec_ident_dispatched {q : Request} {s : State} (h : Dispatched kIdent q s) :
    exec (.ident q) s = .next (answer kIdent q .ok (identContent (atTake kIdent q s)) (atTake kIdent q s)) :=
  request_dispatched (fun _ t => answer kIdent q .ok (identContent t) t) h

theorem exec_status_dispatched {q : Request} {s : State} (h : Dispatched kStatus q s) :
    exec (.status q) s = .next (answer kStatus q .ok (statusContent (atTake kStatus q s)) (atTake kStatus q s)) :=
  request_dispatched (fun _ t => answer kStatus q .ok (statusContent t) t) h

theorem exec_clearCounts_dispatched {q : Request} {s : State} (h : Dispatched kClearCounts q s) :
    exec (.clearCounts q) s = .next (countsCleared q (atTake kClearCounts q s)) :=
  request_dispatched (fun _ => countsCleared q) h

theorem exec_readDefects_dispatched {q : Request} {s : State} (h : Dispatched kReadDefects q s) :
    exec (.readDefects q) s = .next (defectsRead q (atTake kReadDefects q s)) :=
  request_dispatched (fun _ => defectsRead q) h

theorem exec_readSuspects_dispatched {q : Request} {s : State} (h : Dispatched kReadSuspects q s) :
    exec (.readSuspects q) s = .next (suspectsRead q (atTake kReadSuspects q s)) :=
  request_dispatched (fun _ => suspectsRead q) h

theorem exec_readSpares_dispatched {q : Request} {s : State} (h : Dispatched kReadSpares q s) :
    exec (.readSpares q) s
      = .next (answer kReadSpares q .ok (sparesContent (atTake kReadSpares q s)) (atTake kReadSpares q s)) :=
  request_dispatched (fun _ t => answer kReadSpares q .ok (sparesContent t) t) h

theorem exec_readMap_dispatched {q : Request} {s : State} (h : Dispatched kReadMap q s) :
    exec (.readMap q) s = .next (mapRead q (atTake kReadMap q s)) :=
  request_dispatched (fun _ => mapRead q) h

section
variable {q : Request} (haddr : q.broadcast = false) (s : State)
include haddr

theorem defectsRead_of_refused (hbad : byteAt q.payload 1 = 0 ∨ 32 < byteAt q.payload 1) :
    defectsRead q s = s.replying (replyOf kReadDefects q 4 []) := by
  rw [defectsRead, if_pos hbad, refuse, answer_addressed haddr, statusByte]

theorem defectsRead_of_page (hgood : ¬ (byteAt q.payload 1 = 0 ∨ 32 < byteAt q.payload 1)) :
    defectsRead q s = s.replying (replyOf kReadDefects q 0
      ([byteOf s.repair.defects.length] ++ le16 s.repair.seqCounter
        ++ [byteOf (pageOf s.repair.defects (byteAt q.payload 0) (byteAt q.payload 1)).length]
        ++ bitBytes 4 ((pageOf s.repair.defects (byteAt q.payload 0) (byteAt q.payload 1)).map (removalListed s))
        ++ ((pageOf s.repair.defects (byteAt q.payload 0) (byteAt q.payload 1)).map defectBytes).flatten)) := by
  rw [defectsRead, if_neg hgood, answer_addressed haddr, statusByte]

theorem mapRead_of_refused (hbad : byteAt q.payload 1 = 0 ∨ 3 < byteAt q.payload 1
      ∨ depth s < byteAt q.payload 0 + byteAt q.payload 1) :
    mapRead q s = s.replying (replyOf kReadMap q 4 []) := by
  rw [mapRead, if_pos hbad, refuse, answer_addressed haddr, statusByte]

theorem mapRead_of_rows (hgood : ¬ (byteAt q.payload 1 = 0 ∨ 3 < byteAt q.payload 1
      ∨ depth s < byteAt q.payload 0 + byteAt q.payload 1)) :
    mapRead q s = s.replying (replyOf kReadMap q 0
      ([byteOf (byteAt q.payload 0), byteOf (byteAt q.payload 1)]
        ++ ((List.range (byteAt q.payload 1)).map fun i => mapRow s (byteAt q.payload 0 + i)).flatten)) := by
  rw [mapRead, if_neg hgood, answer_addressed haddr, statusByte]

end

theorem removalListed_atTake (kind : Byte) (q : Request) (s : State) :
    removalListed (atTake kind q s) = removalListed s := by
  funext x
  rw [removalListed, atTake_repair, removalListed]

/-- Settles O24. -/
theorem listsAreReadInPages : Obligations.ListsAreReadInPages := by
  unfold Obligations.ListsAreReadInPages
  refine ⟨fun q s hdisp => ?_, fun q s hdisp => ?_⟩
  · have haddr := hdisp.addressed rfl
    rw [exec_readDefects_dispatched hdisp]
    refine ⟨fun hbad => by rw [defectsRead_of_refused haddr _ hbad], fun hlow hhigh =>
      ⟨bitBytes 4 ((pageOf s.repair.defects (byteAt q.payload 0) (byteAt q.payload 1)).map (removalListed s)), ?_,
        length_bitBytes _ _, fun i hi => ?_⟩⟩
    · rw [defectsRead_of_page haddr _ (by omega), removalListed_atTake, atTake_repair]
      rfl
    · rw [getLsbD_bitBytes _ (by omega), List.getD_eq_getElem?_getD, List.getElem?_map, pageOf]
      cases ((s.repair.defects.drop (byteAt q.payload 0)).take (byteAt q.payload 1))[i]? with
      | none => rfl
      | some x => rfl
  · have haddr := hdisp.addressed rfl
    rw [exec_readSuspects_dispatched hdisp]
    refine ⟨fun hfirst => ?_, fun hfirst => ?_, fun hfirst => ?_⟩
    · simp only [suspectsRead, hfirst, answer_addressed haddr, atTake_track]
      rfl
    · simp only [suspectsRead, hfirst, answer_addressed haddr, atTake_track]
      rfl
    · simp only [suspectsRead, refuse, answer_addressed haddr]
      split
      · omega
      · omega
      · rfl

theorem laneByte_eq (x : LaneState) :
    laneByte x = (match x with | .normal => 0x00 | .spared k => BitVec.ofNat 8 (0x10 + k) | .dark => 0x20) := by
  cases x <;> rfl

/-- One row of the current maps, as READ_MAP gives it. -/
theorem mapRow_eq (s : State) (r : Nat) :
    mapRow s r = (if rowNow s r = .lost then 1 else 0) :: (List.range 144).map fun l => cellByte (cellEntry s r l) := by
  rw [mapRow]
  cases rowNow s r <;> rfl

/-- Settles O25. -/
theorem mapsAreRead : Obligations.MapsAreRead := by
  unfold Obligations.MapsAreRead
  refine ⟨fun q s hdisp => ?_, fun q s hdisp => ⟨fun hbad => ?_, fun hlow hhigh hdepth => ?_⟩⟩
  · rw [exec_readSpares_dispatched hdisp, answer_addressed (hdisp.addressed rfl), sparesContent, atTake_repair, atTake_corr,
      funext laneByte_eq]
    rfl
  · rw [exec_readMap_dispatched hdisp, mapRead_of_refused (hdisp.addressed rfl) _ (by rwa [depth_atTake])]
  · rw [exec_readMap_dispatched hdisp, mapRead_of_rows (hdisp.addressed rfl) _ (by rw [depth_atTake]; omega)]
    simp only [mapRow_eq, rowNow_atTake, cellEntry_atTake]
    rfl

end Sys2Proof.Machine

/-! The layouts of the records and of the informational replies (O19, O20). -/

namespace Sys2Proof.Machine

-- One theorem at a time: elaborated at once, they wait on each other and each holds a thread.
set_option Elab.async false

/-! ## Numbers and codes at their offsets (R179) -/

theorem le16At_of_bytes {p : List Byte} {i n : Nat} (hlow : byteAt p i = n % 256) (hhigh : byteAt p (i + 1) = n / 256 % 256) :
    le16At p i = n % 65536 := by
  rw [le16At, hlow, hhigh]; omega

theorem le32At_of_bytes {p : List Byte} {i n : Nat} (h0 : byteAt p i = n % 256) (h1 : byteAt p (i + 1) = n / 256 % 256)
    (h2 : byteAt p (i + 2) = n / 65536 % 256) (h3 : byteAt p (i + 2 + 1) = n / 16777216 % 256) :
    le16At p i + 65536 * le16At p (i + 2) = n % 4294967296 := by
  rw [le16At, le16At, h0, h1, h2, h3]; omega

theorem signed16At_of_bytes {p : List Byte} {i : Nat} {n : Int} (hlow : byteAt p i = (n % 65536).toNat % 256)
    (hhigh : byteAt p (i + 1) = (n % 65536).toNat / 256 % 256) (hmin : -32768 ≤ n) (hmax : n < 32768) :
    signed16 (le16At p i) = n := by
  have hsmall : (n % 65536).toNat % 65536 = (n % 65536).toNat := by omega
  rw [le16At_of_bytes hlow hhigh, hsmall, signed16_emod n hmin hmax]

theorem dieByte_toNat (d : Die) : (dieByte d).toNat = (match d with | .a => 0 | .b => 1) := by cases d <;> rfl

theorem modeByte_toNat (m : Mode) : (modeByte m).toNat = (match m with | .standby => 0 | .run => 1 | .blank => 2) := by
  cases m <;> rfl

theorem causeByte_toNat (c : ResetCause) : (causeByte c).toNat = (match c with | .power => 0 | .link => 1 | .soft => 2) := by
  cases c <;> rfl

theorem causeByte_eq (c : ResetCause) : causeByte c = (match c with | .power => 0 | .link => 1 | .soft => 2) := by
  cases c <;> rfl

theorem policyByte_toNat (p : Policy) : (policyByte p).toNat = (match p with | .auto => 0 | .advise => 1 | .suspended => 2) := by
  cases p <;> rfl

theorem flagByte_toNat (b : Bool) : (flagByte b).toNat = if b then 1 else 0 := by cases b <;> rfl

theorem probeByte_toNat (r : ProbeResult) : (probeByte r).toNat = (match r with | .pending => 0 | .pass => 1 | .fail => 2) := by
  cases r <;> rfl

theorem failKindByte_toNat (k : FailKind) : (failKindByte k).toNat = (match k with | .openDie => 0 | .shortDie => 1) := by
  cases k <;> rfl

theorem faultKindByte_toNat (k : FaultKind) :
    (faultKindByte k).toNat = (match k with | .openDie => 0 | .shortDie => 1 | .intermittent => 2) := by cases k <;> rfl

theorem optByte_toNat (x : Option Nat) : (optByte x).toNat = (match x with | some k => k % 256 | none => 255) := by
  cases x
  · rfl
  · exact byteOf_toNat _

theorem checkPhaseByte_toNat (x : Option Check) :
    (checkPhaseByte x).toNat = (match x with | none => 0 | some c => if c.verify.isSome then 2 else 1) := by
  cases x with
  | none => rfl
  | some c => cases h : c.verify <;> simp [checkPhaseByte, h]

theorem defectKindByte_toNat (k : DefectKind) : (defectKindByte k).toNat = (match k with
    | .openDie => 0 | .shortDie => 1 | .intermittent => 2 | .laneDead => 3 | .rowDead => 4 | .wide => 5 | .manual => 6) := by
  cases k <;> rfl

theorem defectActionByte_toNat (a : DefectAction) : (defectActionByte a).toNat = (match a with
    | .none => 0 | .dieSwap => 1 | .conceal => 2 | .spareBound => 3 | .laneDark => 4 | .rowConceal => 5
    | .selectA => 6 | .selectB => 7 | .forceOff => 8) := by
  cases a <;> rfl

theorem depth_le (s : State) : depth s ≤ 16 := by
  rw [depth, depthOf_eq]; split_ifs <;> decide

/-! ## IDENT, STATUS and CLEAR_COUNTS (R150, R170, R171) -/

theorem reportedVideo_toNat (s : State) : (videoByte (reportedVideo s)).toNat
    = if s.ctl.mode = .run then (match s.ctl.video with | .dark => 0 | .live => 1 | .holding => 2) else 0 := by
  rw [reportedVideo]
  cases s.ctl.mode <;> cases s.ctl.video <;> rfl

theorem statusContent_atTake (kind : Byte) (q : Request) (s : State) :
    statusContent (atTake kind q s) = statusContent s := by
  simp only [statusContent, reportedVideo, freeSlots, policyNow, depth_atTake, atTake_ctl, atTake_address, atTake_subordinate,
    atTake_sense, atTake_store, atTake_comp, atTake_track, atTake_corr, atTake_repair, atTake_unit]

/-- The fields of STATUS in one list, the offsets of 11.5 being its places. -/
theorem statusContent_eq (s : State) : statusContent s =
    [modeByte s.ctl.mode, videoByte (reportedVideo s), causeByte s.ctl.cause, byteOf s.link.address,
      byteOf s.link.subordinate, byteOf (depth s), byteOf (s.sense.sample % 65536).toNat,
      byteOf ((s.sense.sample % 65536).toNat / 256), flagByte s.sense.sensorFault, byteOf s.store.frameCount,
      byteOf (s.store.frameCount / 256), byteOf (s.store.frameCount / 65536), byteOf (s.store.frameCount / 16777216),
      byteOf s.store.incomplete, byteOf (s.store.incomplete / 256), byteOf s.store.skipped, byteOf (s.store.skipped / 256),
      byteOf s.store.badRow, byteOf (s.store.badRow / 256), byteOf s.comp.clipCount, byteOf (s.comp.clipCount / 256),
      byteOf s.track.suspects.length, byteOf s.track.queue.length, checkPhaseByte s.corr.check,
      byteOf s.repair.changes.length, byteOf s.repair.defects.length, byteOf (freeSlots s), policyByte (policyNow s),
      byteOf s.repair.unrecorded, byteOf (s.repair.unrecorded / 256), byteOf s.sense.sweeps, byteOf (s.sense.sweeps / 256),
      dieByte s.sense.cursor.pass, byteOf s.sense.cursor.row, byteOf s.sense.cursor.lane] := rfl

/-- Settles O20. -/
theorem informationRequestsAreAnswered : Obligations.InformationRequestsAreAnswered := by
  unfold Obligations.InformationRequestsAreAnswered
  refine ⟨fun q s hdisp => ?_, fun q s hdisp => ⟨0 :: statusContent s, ?_, ?_⟩, fun q s hdisp => ?_⟩
  · have hstrap : byteOf s.straps.toNat = s.straps.setWidth 8 := BitVec.eq_of_toNat_eq (by simp)
    rw [exec_ident_dispatched hdisp, answer_addressed (hdisp.addressed rfl)]
    simp only [identContent, atTake_straps, depth_atTake, atTake_address, atTake_subordinate, atTake_ctl, causeByte_eq,
      hstrap]
    rfl
  · rw [exec_status_dispatched hdisp, answer_addressed (hdisp.addressed rfl), statusContent_atTake]
    rfl
  · rw [statusContent_eq]
    refine ⟨rfl, rfl, modeByte_toNat _, reportedVideo_toNat s, causeByte_toNat _, byteOf_toNat _, byteOf_toNat _,
      (byteOf_toNat _).trans (Nat.mod_eq_of_lt ((depth_le s).trans_lt (by decide))),
      signed16At_of_bytes (byteOf_toNat _) (byteOf_toNat _), flagByte_toNat _,
      le32At_of_bytes (byteOf_toNat _) (byteOf_toNat _) (byteOf_toNat _) (byteOf_toNat _),
      le16At_of_bytes (byteOf_toNat _) (byteOf_toNat _), le16At_of_bytes (byteOf_toNat _) (byteOf_toNat _),
      le16At_of_bytes (byteOf_toNat _) (byteOf_toNat _), le16At_of_bytes (byteOf_toNat _) (byteOf_toNat _), ?_⟩
    exact ⟨byteOf_toNat _, byteOf_toNat _, checkPhaseByte_toNat _, byteOf_toNat _, byteOf_toNat _, byteOf_toNat _,
      policyByte_toNat _, le16At_of_bytes (byteOf_toNat _) (byteOf_toNat _),
      le16At_of_bytes (byteOf_toNat _) (byteOf_toNat _), dieByte_toNat _, byteOf_toNat _, byteOf_toNat _⟩
  · rw [exec_clearCounts_dispatched hdisp, countsCleared, answer_eq]
    rfl

/-! ## A defect record, written and read back (R130, R138, R181) -/

/-- The target type, r, L and d of a defect record. -/
theorem targetBytes_toNat (t : Target) : (targetBytes t).map BitVec.toNat
    = (match t with
      | .die r l d => [0, r % 256, l % 256, match d with | .a => 0 | .b => 1]
      | .lane l => [1, 0, l % 256, 0]
      | .row r => [2, r % 256, 0, 0]
      | .cell r l => [3, r % 256, l % 256, 0]) := by
  cases t with
  | die r l d => cases d <;> simp [targetBytes, dieByte]
  | lane l => simp [targetBytes]
  | row r => simp [targetBytes]
  | cell r l => simp [targetBytes]

theorem targetBytes_four (t : Target) : ∃ a b c d, targetBytes t = [a, b, c, d] := by
  cases t <;> exact ⟨_, _, _, _, rfl⟩

/-- The flags of a defect record in one byte. -/
theorem defectFlags_toNat (x : Defect) :
    (byteOf ((if x.verifyFailed then 1 else 0) + (if x.hotSeen then 2 else 0) + 4 * originCode x.origin)).toNat
      = (if x.verifyFailed then 1 else 0) + (if x.hotSeen then 2 else 0)
        + 4 * (match x.origin with | .sensed => 0 | .manual => 1 | .loaded => 2) := by
  rw [byteOf_toNat]
  cases x.verifyFailed <;> cases x.hotSeen <;> cases x.origin <;> rfl

theorem defectFlags_testBit (x : Defect) :
    let n := (byteOf ((if x.verifyFailed then 1 else 0) + (if x.hotSeen then 2 else 0) + 4 * originCode x.origin)).toNat
    n.testBit 0 = x.verifyFailed ∧ n.testBit 1 = x.hotSeen := by
  cases x.verifyFailed <;> cases x.hotSeen <;> cases x.origin <;> decide

/-- The fields of a defect record at their offsets. -/
structure DefectLayout (x : Defect) (p : List Byte) : Prop where
  length : p.length = 14
  seq    : le16At p 0 = x.seq % 65536
  target : [byteAt p 2, byteAt p 3, byteAt p 4, byteAt p 5] = (targetBytes x.target).map BitVec.toNat
  kind   : byteAt p 6 = (defectKindByte x.kind).toNat
  action : byteAt p 7 = (defectActionByte x.action).toNat
  slot   : byteAt p 8 = (optByte x.slot).toNat
  flags  : byteAt p 9
    = (byteOf ((if x.verifyFailed then 1 else 0) + (if x.hotSeen then 2 else 0) + 4 * originCode x.origin)).toNat
  frame  : le16At p 10 = x.frame % 65536
  temp   : -32768 ≤ x.temp → x.temp < 32768 → signed16 (le16At p 12) = x.temp

theorem defectLayout (x : Defect) : DefectLayout x (defectBytes x) := by
  obtain ⟨a, b, c, d, htarget⟩ := targetBytes_four x.target
  rw [defectBytes, htarget]
  exact
    { length := rfl
      seq := le16At_of_bytes (byteOf_toNat _) (byteOf_toNat _)
      target := by rw [htarget]; rfl
      kind := rfl
      action := rfl
      slot := rfl
      flags := rfl
      frame := le16At_of_bytes (byteOf_toNat _) (byteOf_toNat _)
      temp := signed16At_of_bytes (byteOf_toNat _) (byteOf_toNat _) }

theorem kindOfCode_defectKindByte (k : DefectKind) : kindOfCode (defectKindByte k).toNat = some k := by cases k <;> rfl

theorem actionOfCode_defectActionByte (a : DefectAction) : actionOfCode (defectActionByte a).toNat = some a := by
  cases a <;> rfl

/-- A target is of a tile of depth d. -/
def TargetFits (d : Nat) (t : Target) : Prop :=
  match t with
  | .die r l _ => r < d ∧ l < 144
  | .lane l => l < 144
  | .row r => r < d
  | .cell r l => r < d ∧ l < 144

theorem combination_iff (t : Target) (k : DefectKind) (a : DefectAction) : combination t k a = true ↔ a ∈ actionsOf t k := by
  simp [combination]

/-- What R130 and R138 ask of a record: a target of the tile, and the field checks. -/
theorem recordFits_iff (d : Nat) (x : Defect) : RecordFits d x ↔ TargetFits d x.target ∧ loadFieldsFit x = true := by
  have hslot : (if x.action = .spareBound then ∃ k, x.slot = some k ∧ k < 12 else x.slot = none)
      ↔ (if x.action = .spareBound then (match x.slot with | some k => decide (k < Config.spareSlots) | none => false)
        else x.slot.isNone) = true := by
    split
    · cases x.slot <;> simp
    · simp
  have hfailed : (x.verifyFailed = true → ∃ l, x.target = .lane l) ↔ (!x.verifyFailed || x.target.isLane) = true := by
    cases x.verifyFailed <;> cases x.target <;> simp [Target.isLane]
  have hhot : (x.hotSeen = true → x.kind ≠ .manual) ↔ (!x.hotSeen || x.kind != .manual) = true := by
    cases x.hotSeen <;> simp
  have htarget : (match x.target, x.kind with
      | .die r l _, .openDie => r < d ∧ l < 144 ∧ (x.action = .dieSwap ∨ x.action = .conceal ∨ x.action = .none)
      | .die r l _, .shortDie => r < d ∧ l < 144 ∧ (x.action = .dieSwap ∨ x.action = .conceal ∨ x.action = .none)
      | .die r l _, .intermittent => r < d ∧ l < 144 ∧ (x.action = .dieSwap ∨ x.action = .conceal ∨ x.action = .none)
      | .lane l, .laneDead => l < 144 ∧ (x.action = .spareBound ∨ x.action = .laneDark ∨ x.action = .none)
      | .lane l, .manual => l < 144 ∧ x.action = .spareBound
      | .row r, .rowDead => r < d ∧ (x.action = .rowConceal ∨ x.action = .none)
      | .cell r l, .manual => r < d ∧ l < 144
          ∧ (x.action = .selectA ∨ x.action = .selectB ∨ x.action = .conceal ∨ x.action = .forceOff)
      | _, _ => False)
      ↔ TargetFits d x.target ∧ combination x.target x.kind x.action = true ∧ (x.kind != .wide) = true := by
    rw [combination_iff]
    cases x.target <;> cases x.kind <;> simp [actionsOf, TargetFits, and_assoc]
  unfold RecordFits loadFieldsFit
  simp only [Bool.and_eq_true, decide_eq_true_eq, ← hfailed, ← hhot, and_assoc] at htarget ⊢
  refine (and_congr_left' htarget).trans ?_
  simp only [and_assoc]
  exact and_congr_right' (and_congr_right' (and_congr_right' (and_congr_left' hslot)))

/-- The target read from any bytes is of the tile. -/
theorem targetFits_of_loadTarget {s : State} {b : List Byte} {t : Target} (h : loadTarget s b = some t) :
    TargetFits (depth s) t := by
  unfold loadTarget at h
  dsimp only at h
  split at h
  · split at h
    · next x hx =>
      injection h with h
      subst h
      unfold dieNamed at hx
      split at hx
      · split at hx
        · next hin => injection hx with hx; subst hx; exact hin
        · exact nomatch hx
      · exact nomatch hx
    · exact nomatch h
  · split at h
    · next hin => injection h with h; subst h; exact hin
    · exact nomatch h
  · split at h
    · next hin => injection h with h; subst h; exact hin
    · exact nomatch h
  · split at h
    · next hin => injection h with h; subst h; exact hin
    · exact nomatch h
  · exact nomatch h

/-- A record that is read has the fields that R130 and R138 allow. -/
theorem recordFits_of_loadRecord {s : State} {b : List Byte} {y : Defect} (h : loadRecord s b = some y) :
    RecordFits (depth s) y := by
  unfold loadRecord at h
  split at h
  · next t k a htarget _ _ =>
    split at h
    · next hfit =>
      injection h with h
      subst h
      exact (recordFits_iff _ _).mpr ⟨targetFits_of_loadTarget htarget, hfit⟩
    · exact nomatch h
  · exact nomatch h

/-- A target of the tile reads back from its four bytes. -/
theorem loadTarget_of_fits {s : State} {p : List Byte} {t : Target} (hfits : TargetFits (depth s) t)
    (hbytes : [byteAt p 2, byteAt p 3, byteAt p 4, byteAt p 5] = (targetBytes t).map BitVec.toNat) :
    loadTarget s p = some t := by
  have hdepth := depth_le s
  rw [targetBytes_toNat] at hbytes
  cases t with
  | die r l d =>
    obtain ⟨hr, hl⟩ : r < depth s ∧ l < 144 := hfits
    simp only [List.cons.injEq, and_true] at hbytes
    obtain ⟨h2, h3, h4, h5⟩ := hbytes
    have hr' : r % 256 = r := by omega
    have hl' : l % 256 = l := by omega
    have hdie : dieNamed s r l (byteAt p 5) = some ⟨r, l, d⟩ := by
      cases d <;> simp [dieNamed, dieOfCode, h5, hr, hl]
    simp only [loadTarget, h2, h3, h4, hr', hl', hdie]
  | lane l =>
    have hl : l < 144 := hfits
    simp only [List.cons.injEq, and_true] at hbytes
    obtain ⟨h2, -, h4, -⟩ := hbytes
    have hl' : l % 256 = l := by omega
    simp [loadTarget, h2, h4, hl', hl]
  | row r =>
    have hr : r < depth s := hfits
    simp only [List.cons.injEq, and_true] at hbytes
    obtain ⟨h2, h3, -, -⟩ := hbytes
    have hr' : r % 256 = r := by omega
    simp [loadTarget, h2, h3, hr', hr]
  | cell r l =>
    obtain ⟨hr, hl⟩ : r < depth s ∧ l < 144 := hfits
    simp only [List.cons.injEq, and_true] at hbytes
    obtain ⟨h2, h3, h4, -⟩ := hbytes
    have hr' : r % 256 = r := by omega
    have hl' : l % 256 = l := by omega
    simp [loadTarget, h2, h3, h4, hr', hl', hr, hl]

theorem slotOfByte_of_fits {x : Defect}
    (h : if x.action = .spareBound then ∃ k, x.slot = some k ∧ k < 12 else x.slot = none) :
    slotOfByte (optByte x.slot).toNat = x.slot := by
  split at h
  · obtain ⟨k, hk, hlt⟩ := h
    have hmod : k % 256 = k := by omega
    have hne : k ≠ 255 := by omega
    rw [hk, optByte_toNat]
    simp [slotOfByte, hmod, hne]
  · rw [h]; rfl

/-- A record whose fields are allowed reads back with the same fields, as a loaded one. -/
theorem loadRecord_defectBytes {s : State} {x : Defect} (hfits : RecordFits (depth s) x) (hframe : x.frame < 65536) :
    loadRecord s (defectBytes x) = some { x with seq := 0, origin := .loaded } := by
  obtain ⟨-, -, htarget, hkind, haction, hslot, hflags, hframeAt, htemp⟩ := defectLayout x
  obtain ⟨htargetFits, hfields⟩ := (recordFits_iff _ _).mp hfits
  obtain ⟨-, hslotFits, -, -, hmin, hmax⟩ := hfits
  obtain ⟨hfailed, hhot⟩ := defectFlags_testBit x
  have hread : loadedDefect (defectBytes x) x.target x.kind x.action = { x with seq := 0, origin := .loaded } := by
    rw [loadedDefect, hslot, slotOfByte_of_fits hslotFits, hflags, hfailed, hhot, hframeAt, Nat.mod_eq_of_lt hframe,
      htemp (by omega) (by omega)]
  rw [loadRecord, loadTarget_of_fits htargetFits htarget, hkind, kindOfCode_defectKindByte, haction,
    actionOfCode_defectActionByte]
  dsimp only
  rw [hread, if_pos]
  exact hfields

/-! ## The other records (R181) -/

theorem cellByte_toNat (e : CellEntry) :
    (cellByte e).toNat = cellStateCode e.state + 4 * healthCode e.healthA + 32 * healthCode e.healthB := by
  rw [cellByte, byteOf_toNat]
  cases e.state <;> cases e.healthA <;> cases e.healthB <;> rfl

theorem length_probeBytes (x : Probe) : (probeBytes x).length = 5 := by
  unfold probeBytes
  split <;> rfl

/-- The bytes of one probe. -/
theorem probeBytes_toNat (x : Probe) : (probeBytes x).map BitVec.toNat
    = (match x.target with
        | some d => [1, d.row % 256, d.lane % 256, match d.die with | .a => 0 | .b => 1]
        | none => [0, 0, 0, 0])
      ++ [match x.result with | .pending => 0 | .pass => 1 | .fail => 2] := by
  unfold probeBytes
  cases x.target <;> simp [dieBytes, dieByte_toNat, probeByte_toNat]

theorem byteAt_append_right {p r : List Byte} {i : Nat} (h : p.length ≤ i) : byteAt (p ++ r) i = byteAt r (i - p.length) := by
  rw [byteAt, byteAt, List.getD_append_right _ _ _ _ h]

/-- A suspect record at its offsets. -/
theorem suspectBytes_layout (x : Suspect) :
    (suspectBytes x).length = 20 ∧ byteAt (suspectBytes x) 0 = x.die.row % 256 ∧ byteAt (suspectBytes x) 1 = x.die.lane % 256
    ∧ byteAt (suspectBytes x) 2 = (match x.die.die with | .a => 0 | .b => 1)
    ∧ byteAt (suspectBytes x) 3 = (if x.held.isSome then 1 else 0) + (if x.lastWindow.isSome then 2 else 0)
    ∧ byteAt (suspectBytes x) 4 = (match x.kind with | .openDie => 0 | .shortDie => 1)
    ∧ byteAt (suspectBytes x) 5 = x.hits % 256 ∧ byteAt (suspectBytes x) 6 = x.passes % 256
    ∧ byteAt (suspectBytes x) 7 = x.flips % 256
    ∧ le16At (suspectBytes x) 8 + 65536 * le16At (suspectBytes x) 10 = x.createdFrame % 4294967296
    ∧ le16At (suspectBytes x) 12 = (match x.lastWindow with | some w => w % 65536 | none => 0)
    ∧ byteAt (suspectBytes x) 14 = (match x.held with
          | some h => (match h.kind with | .openDie => 0 | .shortDie => 1 | .intermittent => 2) | none => 255)
    ∧ byteAt (suspectBytes x) 15 = (match x.held with | some h => h.order % 256 | none => 255)
    ∧ le16At (suspectBytes x) 16 + 65536 * le16At (suspectBytes x) 18
        = (match x.held with | some h => h.frame % 4294967296 | none => 0) := by
  have hflags : (byteOf ((if x.held.isSome then 1 else 0) + (if x.lastWindow.isSome then 2 else 0))).toNat
      = (if x.held.isSome then 1 else 0) + (if x.lastWindow.isSome then 2 else 0) := by
    rw [byteOf_toNat]; split_ifs <;> rfl
  have hwindow : le16At (suspectBytes x) 12 = x.lastWindow.getD 0 % 65536 :=
    le16At_of_bytes (byteOf_toNat _) (byteOf_toNat _)
  have hwindow' : x.lastWindow.getD 0 % 65536 = (match x.lastWindow with | some w => w % 65536 | none => 0) := by
    cases x.lastWindow <;> rfl
  have hframe : le16At (suspectBytes x) 8 + 65536 * le16At (suspectBytes x) 10 = x.createdFrame % 4294967296 :=
    le32At_of_bytes (byteOf_toNat _) (byteOf_toNat _) (byteOf_toNat _) (byteOf_toNat _)
  unfold suspectBytes at *
  refine ⟨?_, byteOf_toNat _, byteOf_toNat _, dieByte_toNat _, hflags, failKindByte_toNat _, byteOf_toNat _, byteOf_toNat _,
    byteOf_toNat _, hframe, hwindow.trans hwindow', ?_⟩
  · cases x.held <;> rfl
  · cases x.held with
    | none => exact ⟨rfl, rfl, rfl⟩
    | some h => exact ⟨faultKindByte_toNat _, byteOf_toNat _,
        le32At_of_bytes (byteOf_toNat _) (byteOf_toNat _) (byteOf_toNat _) (byteOf_toNat _)⟩

/-- A fault descriptor at its offsets. -/
theorem descriptorBytes_layout (x : Descriptor) :
    (descriptorBytes x).length = 10 ∧ byteAt (descriptorBytes x) 0 = x.die.row % 256
    ∧ byteAt (descriptorBytes x) 1 = x.die.lane % 256
    ∧ byteAt (descriptorBytes x) 2 = (match x.die.die with | .a => 0 | .b => 1)
    ∧ byteAt (descriptorBytes x) 3 = (match x.kind with | .openDie => 0 | .shortDie => 1 | .intermittent => 2)
    ∧ byteAt (descriptorBytes x) 4 = x.hits % 256 ∧ byteAt (descriptorBytes x) 5 = x.flips % 256
    ∧ le16At (descriptorBytes x) 6 + 65536 * le16At (descriptorBytes x) 8 = x.frame % 4294967296 :=
  ⟨rfl, byteOf_toNat _, byteOf_toNat _, dieByte_toNat _, faultKindByte_toNat _, byteOf_toNat _, byteOf_toNat _,
    le32At_of_bytes (byteOf_toNat _) (byteOf_toNat _) (byteOf_toNat _) (byteOf_toNat _)⟩

/-- A slot record at its offsets. -/
theorem slotBytes_layout (x : SlotState) :
    (slotBytes x).length = 7
    ∧ [byteAt (slotBytes x) 0, byteAt (slotBytes x) 1, byteAt (slotBytes x) 2]
        = (match x with
          | .free => [0, 255, 255]
          | .reserved l => [1, l % 256, l % 3]
          | .bound l _ => [2, l % 256, l % 3]
          | .failed => [3, 255, 255])
    ∧ le16At (slotBytes x) 3 + 65536 * le16At (slotBytes x) 5 = (match x with | .bound _ f => f % 4294967296 | _ => 0) := by
  have hcolour (l : Nat) : (byteOf (l % 3)).toNat = l % 3 := by rw [byteOf_toNat]; omega
  cases x with
  | free => exact ⟨rfl, rfl, rfl⟩
  | failed => exact ⟨rfl, rfl, rfl⟩
  | reserved l => exact ⟨rfl, by simp [slotBytes, byteAt, hcolour], rfl⟩
  | bound l f => exact ⟨rfl, by simp [slotBytes, byteAt, hcolour],
      le32At_of_bytes (byteOf_toNat _) (byteOf_toNat _) (byteOf_toNat _) (byteOf_toNat _)⟩

theorem probeBytes_five (x : Probe) : ∃ a b c d e, probeBytes x = [a, b, c, d, e] := by
  unfold probeBytes
  cases x.target <;> exact ⟨_, _, _, _, _, rfl⟩

theorem length_probesBytes (probes : List Probe) : ((probes.map probeBytes).flatten).length = 5 * probes.length := by
  induction probes with
  | nil => rfl
  | cons y l ih =>
    simp only [List.map_cons, List.flatten_cons, List.length_append, ih, length_probeBytes, List.length_cons]; omega

/-- The four probes of a check record at their offsets. -/
theorem probesAt {p head tail : List Byte} {probes : List Probe}
    (hp : p = head ++ (probes.map probeBytes).flatten ++ tail) (hhead : head.length = 5) {n : Nat} {x : Probe}
    (hx : probes[n]? = some x) :
    [byteAt p (5 * n + 5), byteAt p (5 * n + 6), byteAt p (5 * n + 7), byteAt p (5 * n + 8), byteAt p (5 * n + 9)]
      = (probeBytes x).map BitVec.toNat := by
  obtain ⟨before, after, rfl, rfl⟩ : ∃ before after, probes = before ++ x :: after ∧ before.length = n := by
    obtain ⟨hlt, rfl⟩ := List.getElem?_eq_some_iff.mp hx
    exact ⟨probes.take n, probes.drop (n + 1), by simp, List.length_take_of_le hlt.le⟩
  have hlength : (head ++ (before.map probeBytes).flatten).length = 5 * before.length + 5 := by
    rw [List.length_append, length_probesBytes, hhead]; omega
  obtain ⟨a, b, c, d, e, hfive⟩ := probeBytes_five x
  have hsplit : p = (head ++ (before.map probeBytes).flatten) ++ ([a, b, c, d, e] ++ ((after.map probeBytes).flatten ++ tail)) := by
    rw [hp, ← hfive]; simp
  have hat (i : Nat) : byteAt p (5 * before.length + 5 + i) = byteAt ([a, b, c, d, e] ++ ((after.map probeBytes).flatten ++ tail)) i := by
    rw [hsplit, byteAt_append_right (by omega)]
    congr 1; omega
  rw [hfive, ← Nat.add_zero (5 * before.length + 5), hat 0, show 5 * before.length + 6 = 5 * before.length + 5 + 1 from rfl,
    hat 1, show 5 * before.length + 7 = 5 * before.length + 5 + 2 from rfl, hat 2,
    show 5 * before.length + 8 = 5 * before.length + 5 + 3 from rfl, hat 3,
    show 5 * before.length + 9 = 5 * before.length + 5 + 4 from rfl, hat 4]
  rfl

/-- The seven bytes of a check's verify (R104). -/
def verifyBytes (v : Option Verify) : List Byte :=
  match v with
  | none => [0xFF, 0, 0, 0, 0, 0xFF, 0xFF]
  | some v => [byteOf v.slot] ++ dieBytes v.die ++ [byteOf v.tried.length, optByte v.tried[0]?, optByte v.tried[1]?]

theorem verifyBytes_toNat (v : Option Verify) : (verifyBytes v).map BitVec.toNat
    = (match v with
      | none => [255, 0, 0, 0, 0, 255, 255]
      | some v => [v.slot % 256, v.die.row % 256, v.die.lane % 256, match v.die.die with | .a => 0 | .b => 1,
          v.tried.length % 256, (match v.tried[0]? with | some k => k % 256 | none => 255),
          (match v.tried[1]? with | some k => k % 256 | none => 255)]) := by
  cases v with
  | none => rfl
  | some v => simp [verifyBytes, dieBytes, dieByte_toNat, optByte_toNat]

theorem verifyBytes_seven (v : Option Verify) : ∃ a b c d e f g, verifyBytes v = [a, b, c, d, e, f, g] := by
  cases v <;> exact ⟨_, _, _, _, _, _, _, rfl⟩

theorem checkBytes_some (c : Check) : checkBytes (some c)
    = ((if c.verify.isSome then 2 else 1) :: (dieBytes c.die ++ [flagByte c.hotSeen]))
      ++ (c.probes.map probeBytes).flatten ++ verifyBytes c.verify := by
  unfold checkBytes verifyBytes
  cases h : c.verify <;> simp [h]

/-- The check record at its offsets. -/
theorem checkBytes_layout (c : Check) (hfour : c.probes.length = 4) :
    (checkBytes (some c)).length = 32 ∧ byteAt (checkBytes (some c)) 0 = (if c.verify.isSome then 2 else 1)
    ∧ byteAt (checkBytes (some c)) 1 = c.die.row % 256 ∧ byteAt (checkBytes (some c)) 2 = c.die.lane % 256
    ∧ byteAt (checkBytes (some c)) 3 = (match c.die.die with | .a => 0 | .b => 1)
    ∧ byteAt (checkBytes (some c)) 4 = (if c.hotSeen then 1 else 0)
    ∧ (∀ (n : Nat) (x : Probe), c.probes[n]? = some x →
        [byteAt (checkBytes (some c)) (5 * n + 5), byteAt (checkBytes (some c)) (5 * n + 6),
            byteAt (checkBytes (some c)) (5 * n + 7), byteAt (checkBytes (some c)) (5 * n + 8),
            byteAt (checkBytes (some c)) (5 * n + 9)]
          = (probeBytes x).map BitVec.toNat)
    ∧ [byteAt (checkBytes (some c)) 25, byteAt (checkBytes (some c)) 26, byteAt (checkBytes (some c)) 27,
        byteAt (checkBytes (some c)) 28, byteAt (checkBytes (some c)) 29, byteAt (checkBytes (some c)) 30,
        byteAt (checkBytes (some c)) 31]
        = (verifyBytes c.verify).map BitVec.toNat := by
  have hprobes : ((c.probes.map probeBytes).flatten).length = 20 := by rw [length_probesBytes, hfour]
  obtain ⟨v0, v1, v2, v3, v4, v5, v6, hseven⟩ := verifyBytes_seven c.verify
  have hverify (i : Nat) : byteAt (checkBytes (some c)) (25 + i) = byteAt (verifyBytes c.verify) i := by
    rw [checkBytes_some, byteAt_append_right (by simp [hprobes, dieBytes])]
    congr 1
    simp [hprobes, dieBytes]
  refine ⟨?_, ?_, ?_, ?_, ?_, ?_, fun n x hx => probesAt (checkBytes_some c) rfl hx, ?_⟩
  · rw [checkBytes_some, hseven]; simp [hprobes, dieBytes]
  · rw [checkBytes_some]; cases c.verify <;> rfl
  · rw [checkBytes_some]; exact byteOf_toNat _
  · rw [checkBytes_some]; exact byteOf_toNat _
  · rw [checkBytes_some]; exact dieByte_toNat _
  · rw [checkBytes_some]; exact flagByte_toNat _
  · rw [show 25 = 25 + 0 from rfl, hverify, show 26 = 25 + 1 from rfl, hverify, show 27 = 25 + 2 from rfl, hverify,
      show 28 = 25 + 3 from rfl, hverify, show 29 = 25 + 4 from rfl, hverify, show 30 = 25 + 5 from rfl, hverify,
      show 31 = 25 + 6 from rfl, hverify, hseven]
    rfl

/-- Settles O19. -/
theorem recordsAreLaidOutAsTheFormatsSay : Obligations.RecordsAreLaidOutAsTheFormatsSay := by
  unfold Obligations.RecordsAreLaidOutAsTheFormatsSay
  refine ⟨?_, fun x s => ⟨loadRecord_defectBytes, fun b y => recordFits_of_loadRecord⟩, ?_, ?_, ?_, rfl, ?_, ?_⟩
  · rintro x _ rfl
    obtain ⟨hlength, hseq, htarget, hkind, haction, hslot, hflags, hframe, htemp⟩ := defectLayout x
    exact ⟨hlength, hseq, htarget.trans (targetBytes_toNat _), hkind.trans (defectKindByte_toNat _),
      haction.trans (defectActionByte_toNat _), hslot.trans (optByte_toNat _), hflags.trans (defectFlags_toNat x), hframe,
      htemp⟩
  · rintro x _ rfl
    exact suspectBytes_layout x
  · rintro x _ rfl
    exact descriptorBytes_layout x
  · rintro x _ rfl
    exact slotBytes_layout x
  · rintro c _ rfl hfour
    obtain ⟨hlength, hphase, hrow, hlane, hdie, hhot, hprobes, hverify⟩ := checkBytes_layout c hfour
    exact ⟨hlength, hphase, hrow, hlane, hdie, hhot, fun n x hx => (hprobes n x hx).trans (probeBytes_toNat x),
      hverify.trans (verifyBytes_toNat _)⟩
  · intro e
    exact (cellByte_toNat e).trans (by cases e.state <;> cases e.healthA <;> cases e.healthB <;> rfl)

end Sys2Proof.Machine

/-! SET_PARAM: what one pair stores, and the pairs in their order (O21). -/

namespace Sys2Proof.Machine

-- One theorem at a time: elaborated at once, they wait on each other and each holds a thread.
set_option Elab.async false

/-! ## One pair (R68, R168) -/

theorem clampNat_eq (lo hi v : Nat) : clampNat lo hi v = max lo (min v hi) := by rw [clampNat, Nat.min_comm]

theorem clampNat_zero (hi v : Nat) : clampNat 0 hi v = min v hi := by rw [clampNat_eq, Nat.zero_max]

theorem clampNat_ne_iff {lo hi v : Nat} (h : lo ≤ hi) : clampNat lo hi v ≠ v ↔ ¬ (lo ≤ v ∧ v ≤ hi) := by
  rw [clampNat_eq]; omega

theorem clampInt_ne_iff {lo hi v : Int} (h : lo ≤ hi) : clampInt lo hi v ≠ v ↔ ¬ (lo ≤ v ∧ v ≤ hi) := by
  rw [clampInt]; omega

theorem repeatValue_ne_iff (v : Nat) : repeatValue v ≠ v ↔ ¬ (v = 1 ∨ v = 2 ∨ v = 4 ∨ v = 8) := by
  rw [repeatValue]; split_ifs <;> omega

/-- A pair that `cond` calls in range is stored as `p`, unclamped, and any other as `p`, clamped. -/
def StoresAs (r : PairResult) (p : Params) (cond : Prop) : Prop := ∃ c, r = .stored p c ∧ (c = true ↔ ¬ cond)

theorem StoresAs.congr {r : PairResult} {p p' : Params} {cond cond' : Prop} (h : StoresAs r p cond) (hp : p = p')
    (hcond : cond ↔ cond') : StoresAs r p' cond' := by
  obtain ⟨c, hr, hc⟩ := h
  exact ⟨c, hp ▸ hr, hc.trans (not_congr hcond)⟩

theorem storesAs_storeNat {lo hi : Nat} (h : lo ≤ hi) (v : Nat) (set : Nat → Params) :
    StoresAs (storeNat lo hi v set) (set (max lo (min v hi))) (lo ≤ v ∧ v ≤ hi) :=
  ⟨_, congrArg (fun x => PairResult.stored (set x) _) (clampNat_eq lo hi v), decide_eq_true_iff.trans (clampNat_ne_iff h)⟩

theorem storesAs_storeNat_zero (hi v : Nat) (set : Nat → Params) :
    StoresAs (storeNat 0 hi v set) (set (min v hi)) (v ≤ hi) :=
  (storesAs_storeNat (Nat.zero_le hi) v set).congr (by rw [Nat.zero_max]) (by simp)

theorem storesAs_storeInt {lo hi : Int} (h : lo ≤ hi) (v : Int) (set : Int → Params) :
    StoresAs (storeInt lo hi v set) (set (max lo (min v hi))) (lo ≤ v ∧ v ≤ hi) :=
  ⟨_, by rw [storeInt, clampInt, min_comm], decide_eq_true_iff.trans (clampInt_ne_iff h)⟩

theorem storesAs_storeShort {v limit : Nat} (h : min v 254 < limit) (set : Nat → Params) :
    StoresAs (storeShort v limit set) (set (min v 254)) (v ≤ 254) := by
  rw [storeShort, clampNat_zero, if_neg (by omega)]
  exact storesAs_storeNat_zero 254 v set

theorem storeShort_refused {v limit : Nat} (h : limit ≤ min v 254) (set : Nat → Params) :
    storeShort v limit set = .refused := by
  rw [storeShort, clampNat_zero, if_pos h]

theorem storesAs_storeOpen {v limit : Nat} (h : limit < max 1 (min v 255)) (set : Nat → Params) :
    StoresAs (storeOpen v limit set) (set (max 1 (min v 255))) (1 ≤ v ∧ v ≤ 255) := by
  rw [storeOpen, clampNat_eq, if_neg (by omega)]
  exact storesAs_storeNat (by decide) v set

theorem storeOpen_refused {v limit : Nat} (h : max 1 (min v 255) ≤ limit) (set : Nat → Params) :
    storeOpen v limit set = .refused := by
  rw [storeOpen, clampNat_eq, if_pos h]

/-- A parameter of two values stores each of them. -/
theorem storesAs_code {v : Nat} {p : Params} (set : Nat → Params) (r : PairResult) (hv : v ≤ 1)
    (h0 : v = 0 → r = .stored (set 0) false) (h1 : v = 1 → r = .stored (set 1) false) (hp : set v = p) :
    StoresAs r p True := by
  obtain rfl | rfl : v = 0 ∨ v = 1 := by omega
  · exact ⟨false, hp ▸ h0 rfl, by simp⟩
  · exact ⟨false, hp ▸ h1 rfl, by simp⟩

theorem setPair_code_refused {p : Params} {id v : Nat} (hid : id = 0x11 ∨ id = 0x12 ∨ id = 0x13) (hv : 2 ≤ v) :
    setPair p id v = .refused := by
  obtain ⟨n, rfl⟩ := Nat.exists_eq_add_of_le' hv
  obtain rfl | rfl | rfl := hid <;> rfl

theorem setPair_unknown {p : Params} {id v : Nat} (h : id = 0 ∨ 0x14 < id) : setPair p id v = .refused := by
  unfold setPair
  split <;> first | rfl | omega

/-! ## The pairs in order (R168) -/

theorem get_masked (f m : NoticeFlags) (k : NoticeKind) : (f.masked m).get k = (f.get k && m.get k) := by
  cases k <;> rfl

theorem setPairs_refused {id v : Nat} {u : MessageUnit} (h : setPair u.params id v = .refused) (rest : List (Nat × Nat))
    (i : Nat) : setPairs ((id, v) :: rest) i u = { setPairs rest (i + 1) u with refused := some i } := by
  simp only [setPairs, h]

theorem setPairs_stored {id v : Nat} {u : MessageUnit} {p : Params} {c : Bool} (h : setPair u.params id v = .stored p c)
    (rest : List (Nat × Nat)) (i : Nat) : setPairs ((id, v) :: rest) i u
      = { setPairs rest (i + 1) (unitStored u id p) with
          clamped := c || (setPairs rest (i + 1) (unitStored u id p)).clamped } := by
  simp only [setPairs, h]

theorem status_clamped_or (r : PairsResult) (c : Bool) : ({ r with clamped := c || r.clamped } : PairsResult).status
    = (if r.status = .ok ∧ c = true then .clamped else r.status) := by
  obtain ⟨u, refused, clamped⟩ := r
  cases refused <;> cases clamped <;> cases c <;> rfl

theorem get_unitStored (u : MessageUnit) (id : Nat) (p : Params) (k : NoticeKind) :
    (unitStored u id p).notices.get k = (u.notices.get k && (decide (id ≠ 0x14) || p.noticeMask.get k)) := by
  unfold unitStored
  split
  · next h => simp [h, get_masked]
  · next h => simp [h]

/-! ## SET_PARAM -/

theorem exec_setParam_dispatched {q : Request} {s : State} (h : Dispatched kSetParam q s) :
    exec (.setParam q) s = .next (paramsSet q (atTake kSetParam q s)) :=
  request_dispatched (fun _ => paramsSet q) h

section
variable {q : Request} {id lo hi : Byte} {s : State} (hdisp : Dispatched 0x04 q s) (hpay : q.payload = [id, lo, hi])
include hdisp hpay

theorem exec_setParam_of_refused (h : setPair s.unit.params id.toNat (lo.toNat + 256 * hi.toNat) = .refused) :
    exec (.setParam q) s = .next (if q.broadcast then atTake 0x04 q s else (atTake 0x04 q s).replying (replyOf 0x04 q 4 [0])) := by
  have hpairs : setPairs (paramPairs q.payload) 0 s.unit = ⟨s.unit, some 0, false⟩ := by
    rw [hpay, paramPairs, setPairs_refused h]; rfl
  have hself : (atTake 0x04 q s).withUnit s.unit = atTake 0x04 q s := by
    conv_lhs => rw [← atTake_unit 0x04 q s]
    rfl
  rw [exec_setParam_dispatched hdisp, paramsSet, atTake_unit, hpairs, answer_eq]
  dsimp only
  rw [kSetParam, hself]
  rfl

theorem exec_setParam_of_stores {p : Params} {cond : Prop} [Decidable cond]
    (h : StoresAs (setPair s.unit.params id.toNat (lo.toNat + 256 * hi.toNat)) p cond) :
    exec (.setParam q) s = .next
      (if q.broadcast then (atTake 0x04 q s).withUnit (unitStored s.unit id.toNat p)
       else ((atTake 0x04 q s).withUnit (unitStored s.unit id.toNat p)).replying
        (replyOf 0x04 q (if cond then 0 else 1) [0xFF])) := by
  obtain ⟨c, hr, hc⟩ := h
  have hpairs : setPairs (paramPairs q.payload) 0 s.unit = ⟨unitStored s.unit id.toNat p, none, c⟩ := by
    rw [hpay, paramPairs, setPairs_stored hr]
    exact congrArg (PairsResult.mk _ none) (Bool.or_false c)
  have hstatus : statusByte (PairsResult.status ⟨unitStored s.unit id.toNat p, none, c⟩) = if cond then 0 else 1 := by
    by_cases hcond : cond
    · have : c = false := by simpa [hcond] using hc
      rw [if_pos hcond, this]; rfl
    · rw [if_neg hcond, hc.mpr hcond]; rfl
  rw [exec_setParam_dispatched hdisp, paramsSet, atTake_unit, hpairs, answer_eq, hstatus]
  rfl

end

/-- Settles O21. -/
theorem setParamStoresPairsInOrder : Obligations.SetParamStoresPairsInOrder := by
  unfold Obligations.SetParamStoresPairsInOrder
  refine ⟨fun q id lo hi s hdisp hpay => ?_, fun q s hdisp => ?_, fun _ _ _ _ => rfl, fun _ _ => ⟨rfl, rfl, rfl⟩,
    fun id v rest i u => ⟨fun h => ?_, fun p c h => ?_⟩⟩
  · intro v u stored done p refused
    have numeric {p' : Params} {cond : Prop} [Decidable cond] (h14 : id.toNat ≠ 0x14)
        (h : StoresAs (setPair p id.toNat v) p' cond) : exec (.setParam q) s = done (if cond then 0 else 1) p' := by
      have hunit : unitStored s.unit id.toNat p' = { s.unit with params := p' } := by rw [unitStored, if_neg h14]
      rw [exec_setParam_of_stores hdisp hpay h, hunit]
      simp only [done, stored, u, atTake_unit]
    have refuses (h : setPair p id.toNat v = .refused) : exec (.setParam q) s = refused :=
      exec_setParam_of_refused hdisp hpay h
    refine ⟨?_, ?_, ?_, ?_, ?_, ?_, ?_, ?_, ?_, ?_, ?_, ?_, ?_, ?_, ?_, ?_, ?_, ?_, ?_, ?_, ?_, ?_, ?_, ?_, ?_, ?_, ?_, ?_⟩
    · rintro rfl; exact numeric (by decide) (storesAs_storeNat_zero 255 v fun x => { p with brightness := x })
    · rintro rfl; exact numeric (by decide) ⟨_, rfl, decide_eq_true_iff.trans (repeatValue_ne_iff v)⟩
    · rintro rfl; exact numeric (by decide) (storesAs_storeNat (lo := 1) (hi := 32) (by decide) v fun x => { p with senseBudget := x })
    · rintro rfl; exact numeric (by decide) (storesAs_storeNat (lo := 1) (hi := 255) (by decide) v fun x => { p with blankBudget := x })
    · rintro rfl hlt
      exact numeric (by decide) (storesAs_storeShort hlt fun x => { p with shortLimit := { p.shortLimit with red := x } })
    · rintro rfl hle; exact refuses (storeShort_refused hle _)
    · rintro rfl hlt
      exact numeric (by decide) (storesAs_storeShort hlt fun x => { p with shortLimit := { p.shortLimit with green := x } })
    · rintro rfl hle; exact refuses (storeShort_refused hle _)
    · rintro rfl hlt
      exact numeric (by decide) (storesAs_storeShort hlt fun x => { p with shortLimit := { p.shortLimit with blue := x } })
    · rintro rfl hle; exact refuses (storeShort_refused hle _)
    · rintro rfl hlt
      exact numeric (by decide) (storesAs_storeOpen hlt fun x => { p with openLimit := { p.openLimit with red := x } })
    · rintro rfl hle; exact refuses (storeOpen_refused hle _)
    · rintro rfl hlt
      exact numeric (by decide) (storesAs_storeOpen hlt fun x => { p with openLimit := { p.openLimit with green := x } })
    · rintro rfl hle; exact refuses (storeOpen_refused hle _)
    · rintro rfl hlt
      exact numeric (by decide) (storesAs_storeOpen hlt fun x => { p with openLimit := { p.openLimit with blue := x } })
    · rintro rfl hle; exact refuses (storeOpen_refused hle _)
    · rintro rfl; exact numeric (by decide) (storesAs_storeNat (lo := 2) (hi := 15) (by decide) v fun x => { p with confirmHits := x })
    · rintro rfl; exact numeric (by decide) (storesAs_storeNat (lo := 2) (hi := 15) (by decide) v fun x => { p with flipLimit := x })
    · rintro rfl; exact numeric (by decide) (storesAs_storeNat_zero 255 v fun x => { p with concealShare := x })
    · rintro rfl; exact numeric (by decide) (storesAs_storeNat (lo := 5) (hi := 250) (by decide) v fun x => { p with frameTimeout := x })
    · rintro rfl; exact numeric (by decide) (storesAs_storeNat (lo := 1) (hi := 255) (by decide) v fun x => { p with holdTime := x })
    · rintro rfl
      exact numeric (by decide)
        (storesAs_storeInt (lo := -20) (hi := 110) (by decide) (signed16 v) fun x => { p with senseTempMax := x })
    · rintro rfl hv
      exact numeric (cond := True) (by decide) (storesAs_code (fun x => { p with walkEnable := decide (x = 1) }) _ hv
        (fun h => by rw [h]; rfl) (fun h => by rw [h]; rfl) rfl)
    · rintro rfl hv
      exact numeric (cond := True) (by decide) (storesAs_code (fun x => { p with walkBoth := decide (x = 0) }) _ hv
        (fun h => by rw [h]; rfl) (fun h => by rw [h]; rfl) rfl)
    · rintro rfl hv
      exact numeric (cond := True) (by decide) (storesAs_code (fun x => { p with policy := if x = 0 then .auto else .advise })
        _ hv (fun h => by rw [h]; rfl) (fun h => by rw [h]; rfl) rfl)
    · rintro (rfl | rfl | rfl) hv <;> exact refuses (setPair_code_refused (by decide) hv)
    · rintro rfl
      have hstores : StoresAs (setPair p 0x14 v) { p with noticeMask := maskOfValue v } (v ≤ 127) :=
        ⟨_, rfl, decide_eq_true_iff.trans (by omega)⟩
      rw [exec_setParam_of_stores hdisp hpay hstores]
      simp only [stored, u, atTake_unit]
      rfl
    · intro hid
      exact refuses (setPair_unknown (hid.imp_left fun h => by rw [h]; rfl))
  · rw [exec_setParam_dispatched hdisp, paramsSet, atTake_unit, answer_eq]
    have hstatus : statusByte (setPairs (paramPairs q.payload) 0 s.unit).status
        = (match (setPairs (paramPairs q.payload) 0 s.unit).status with | .ok => 0 | .clamped => 1 | _ => 4) := by
      rw [PairsResult.status]; split_ifs <;> rfl
    rw [hstatus]
    rfl
  · rw [setPairs_refused h]
    exact ⟨rfl, rfl, rfl⟩
  · rw [setPairs_stored h]
    exact ⟨unitStored u id p, rfl, get_unitStored u id p, rfl, rfl, rfl, rfl, rfl, status_clamped_or _ c⟩

end Sys2Proof.Machine

/-! The classification of a test, the Frame Store, the stages of a composition and the segment pulses (O31, O26, O51, O52). -/

namespace Sys2Proof.Machine

-- One theorem at a time: elaborated at once, they wait on each other and each holds a thread.
set_option Elab.async false

/-! ## Tests (R54, R55) -/

/-- Settles O31. -/
theorem testsAreClassified : Obligations.TestsAreClassified := by
  unfold Obligations.TestsAreClassified
  refine fun t k => ⟨fun hseen => ?_, fun hlate => ?_, rfl, rfl, fun r => by cases r <;> simp [TestResult.failing]⟩
  · have ht : reportedT t (some k) = k.val + 1 := min_eq_left hseen
    have hknee : kneeSeen t (some k) = true := decide_eq_true hseen
    refine ⟨fun hshort => ?_, fun hlong => ?_, ht⟩
    · rw [classify, hknee, ht, if_pos rfl, if_pos hshort]
    · rw [classify, hknee, ht, if_pos rfl, if_neg (by omega)]
  · have hknee : kneeSeen t (some k) = false := decide_eq_false (by omega)
    exact ⟨by simp [classify, hknee], min_eq_right (by omega)⟩

/-! ## ROW and FRAME (R31, R32, R180) -/

theorem exec_row_dispatched {q : Request} {s : State} (h : Dispatched kRow q s) :
    exec (.row q) s = .next (rowTaken q (atTake kRow q s)) := request_dispatched (fun _ => rowTaken q) h

theorem exec_frame_dispatched {q : Request} {reading : Int} {s : State} (h : Dispatched kFrame q s) :
    exec (.frame q reading) s = .next (frameTaken q reading (atTake kFrame q s)) :=
  request_dispatched (fun _ => frameTaken q reading) h

theorem byteAt_drop (p : List Byte) (n i : Nat) : byteAt (p.drop n) i = byteAt p (n + i) := by
  simp [byteAt, List.getD_eq_getElem?_getD]

/-- The two codes of a group of three bytes. -/
theorem unpackCodes_getD (n : Nat) : ∀ (p : List Byte) (j : Nat), p.length = 3 * n → j < n →
    (unpackCodes p).getD (2 * j) 0 = byteAt p (3 * j) + 256 * (byteAt p (3 * j + 1) % 16)
    ∧ (unpackCodes p).getD (2 * j + 1) 0 = byteAt p (3 * j + 1) / 16 + 16 * byteAt p (3 * j + 2) := by
  induction n with
  | zero => exact fun _ _ _ hj => absurd hj (Nat.not_lt_zero _)
  | succ n ih =>
    intro p j hp hj
    match p with
    | [] | [_] | [_, _] => simp at hp <;> omega
    | b0 :: b1 :: b2 :: rest =>
      have hrest : rest.length = 3 * n := by simp only [List.length_cons] at hp; omega
      cases j with
      | zero => exact ⟨rfl, rfl⟩
      | succ j => exact ih rest j hrest (by omega)

/-- The frames skipped, counted in 16-bit arithmetic. -/
theorem satAdd_skippedBy (f : FrameStore) {n : Nat} (hn : n < 65536) (hlast : f.lastNumber < 65536) :
    satAdd f.skipped (skippedBy f n)
      = if f.frameSeen = true ∧ n ≠ (f.lastNumber + 1) % 65536 then
          min (f.skipped + (((n : Int) - f.lastNumber - 1) % 65536).toNat) 65535
        else min f.skipped 65535 := by
  have hskip : (n + 2 * 65536 - f.lastNumber - 1) % 65536 = (((n : Int) - f.lastNumber - 1) % 65536).toNat := by omega
  rw [satAdd, skippedBy, hskip]
  split <;> rfl

theorem frameTaken_of_not_run {q : Request} {reading : Int} {s : State} (h : s.ctl.mode ≠ .run) :
    frameTaken q reading s = s.withStore (s.store.arrival (le16At q.payload 0)) := by
  unfold frameTaken
  cases hm : s.ctl.mode with
  | run => exact absurd hm h
  | standby => rfl
  | blank => rfl

/-- Settles O26. -/
theorem rowsAndFramesFillTheFrameStore : Obligations.RowsAndFramesFillTheFrameStore := by
  unfold Obligations.RowsAndFramesFillTheFrameStore
  refine ⟨?_, ?_⟩
  · rintro q _ s hdisp rfl
    rw [exec_row_dispatched hdisp, rowTaken, storeRow, depth_atTake, atTake_store]
    refine ⟨fun hout => by rw [if_neg (by omega)]; rfl, fun hin => ⟨unpackCodes (q.payload.drop 1), ?_, ?_, fun j hj => ?_⟩⟩
    · rw [if_pos hin]
    · have hpayload : q.payload.length = 217 := by simpa [lengthFits] using hdisp.2.1
      exact length_unpackCodes 72 _ (by simp [hpayload])
    · have hpayload : q.payload.length = 217 := by simpa [lengthFits] using hdisp.2.1
      have hcodes := unpackCodes_getD 72 (q.payload.drop 1) j (by simp [hpayload]) hj
      have h1 : 1 + (3 * j + 1) = 2 + 3 * j := by omega
      have h2 : 1 + (3 * j + 2) = 3 + 3 * j := by omega
      simpa only [byteAt_drop, h1, h2] using hcodes
  · rintro q reading _ s hdisp rfl hmode hlast
    have hmode' : (atTake kFrame q s).ctl.mode ≠ .run := by rw [atTake_ctl]; exact hmode
    rw [exec_frame_dispatched hdisp, frameTaken_of_not_run hmode', atTake_store, FrameStore.arrival,
      satAdd_skippedBy s.store (le16At_lt _ _) hlast, List.map_const']
    rfl

/-! ## Composition, stages 1 to 3 (R40 to R44) -/

theorem isVictim_iff (s : State) (r l : Nat) :
    isVictim s r l = true ↔ rowNow s r = .lost ∨ laneNow s l = .dark ∨ (cellEntry s r l).state = .concealed := by
  simp [isVictim, or_assoc]

theorem isForcedOff_iff (s : State) (r l : Nat) :
    isForcedOff s r l = true ↔ isVictim s r l = false ∧ (cellEntry s r l).state = .forcedOff := by
  simp [isForcedOff]

theorem isLive_iff (s : State) (r l : Nat) : isLive s r l = true ↔
    isVictim s r l = false ∧ ((cellEntry s r l).state = .aActive ∨ (cellEntry s r l).state = .bActive) := by
  rw [isLive, isForcedOff]
  cases hvictim : isVictim s r l with
  | true => simp
  | false =>
    have hstate : (cellEntry s r l).state ≠ .concealed := by
      intro h; rw [(isVictim_iff s r l).mpr (.inr (.inr h))] at hvictim; exact nomatch hvictim
    cases h : (cellEntry s r l).state <;> simp_all

theorem not_isLive_iff (s : State) (r l : Nat) :
    isLive s r l = false ↔ isVictim s r l = true ∨ isForcedOff s r l = true := by
  rw [isLive]
  cases isVictim s r l <;> cases isForcedOff s r l <;> simp

/-- A quantity summed over the neighbours of a cell. -/
theorem sum_neighbours (d r l : Nat) (f : Nat × Nat → Nat) :
    ((neighbours d r l).map f).sum = sumAround d r l fun r' l' => f (r', l') := by
  unfold neighbours sumAround Config.lanes
  split_ifs <;> simp [Nat.add_assoc]

theorem countP_eq_sum {α : Type} (p : α → Bool) (xs : List α) :
    xs.countP p = (xs.map fun x => if p x = true then 1 else 0).sum := by
  induction xs with
  | nil => rfl
  | cons x xs ih => rw [List.countP_cons, ih, List.map_cons, List.sum_cons, Nat.add_comm]

theorem sum_map_filter {α : Type} (p : α → Bool) (f : α → Nat) (xs : List α) :
    ((xs.filter p).map f).sum = (xs.map fun x => if p x = true then f x else 0).sum := by
  induction xs with
  | nil => rfl
  | cons x xs ih =>
    rw [List.filter_cons]
    cases h : p x <;> simp [h, ih]

theorem liveNeighbours_eq (s : State) (r l : Nat) :
    liveNeighbours s r l = sumAround (depth s) r l fun r' l' => if isLive s r' l' = true then 1 else 0 := by
  rw [liveNeighbours, countP_eq_sum, sum_neighbours]

theorem shareOf_eq (s : State) (r l : Nat) : shareOf s r l = lentShare s r l := by
  rw [shareOf, lentShare, liveNeighbours_eq]; rfl

theorem effectiveCode_eq (s : State) (r l : Nat) : effectiveCode s r l = cellAt s.store.display r l 0
    + sumAround (depth s) r l fun r' l' => if isVictim s r' l' = true then lentShare s r' l' else 0 := by
  rw [effectiveCode, sum_map_filter, sum_neighbours]
  simp only [shareOf_eq]
  rfl

theorem cellAt_le {t : CellTable Nat} (h : CodesFit t) (r l : Nat) : cellAt t r l 0 ≤ 4095 := by
  rw [cellAt, List.getD_eq_getElem?_getD, List.getD_eq_getElem?_getD]
  cases hrow : t[r]? with
  | none => simp
  | some row =>
    cases hx : row[l]? with
    | none => simp [hx]
    | some x => simpa [hx] using h row (List.mem_of_getElem? hrow) x (List.mem_of_getElem? hx)

/-- No share is above 4,095 × 255 / 256. -/
theorem lentShare_le {s : State} (hcodes : CodesFit s.store.display) (hshare : s.unit.params.concealShare ≤ 255) (r l : Nat) :
    lentShare s r l ≤ 4079 := by
  have hproduct : cellAt s.store.display r l 0 * s.unit.params.concealShare ≤ 4095 * 255 :=
    Nat.mul_le_mul (cellAt_le hcodes r l) hshare
  rw [lentShare]
  split
  · exact Nat.zero_le _
  · next hn =>
    refine (Nat.div_le_div hproduct (?_ : 256 ≤ _) (by decide)).trans (by decide)
    omega

theorem sumAround_le {f : Nat → Nat → Nat} {b : Nat} (h : ∀ r l, f r l ≤ b) (d r l : Nat) : sumAround d r l f ≤ 4 * b := by
  unfold sumAround
  have h1 := h r (l - 3)
  have h2 := h r (l + 3)
  have h3 := h (r - 1) l
  have h4 := h (r + 1) l
  split_ifs <;> omega

theorem effectiveCode_le {s : State} (hcodes : CodesFit s.store.display) (hshare : s.unit.params.concealShare ≤ 255)
    (r l : Nat) : effectiveCode s r l ≤ 20411 := by
  have hown := cellAt_le hcodes r l
  have hshares : (sumAround (depth s) r l fun r' l' => if isVictim s r' l' = true then lentShare s r' l' else 0) ≤ 4 * 4079 :=
    sumAround_le (fun r' l' => by
      split
      · exact lentShare_le hcodes hshare r' l'
      · exact Nat.zero_le _) _ _ _
  rw [effectiveCode_eq]
  omega

/-- Settles O51. -/
theorem stagesFollowTheArithmetic : Obligations.StagesFollowTheArithmetic := by
  unfold Obligations.StagesFollowTheArithmetic
  refine ⟨fun r l s => ⟨isVictim_iff s r l, isForcedOff_iff s r l, isLive_iff s r l, effectiveCode_eq s r l⟩,
    fun r l s hcodes hshare => effectiveCode_le hcodes hshare r l, fun r l s => ⟨fun hlive hstate => ?_, fun hlive hstate => ?_⟩⟩
  · rw [composedCode, if_pos hlive, gainInUse, hstate]; rfl
  · rw [composedCode, if_pos hlive, gainInUse, hstate]; rfl

/-! ## The Output Table (R39, R45) -/

theorem composedCode_of_not_live {s : State} {r l : Nat} (h : isLive s r l = false) : composedCode s r l = 0 := by
  rw [composedCode, h]; rfl

theorem pulse_compose (s : State) {r l : Nat} (hr : r < depth s) (hl : l < 144) :
    cellAt (compose s).comp.pulses r l 0 = limitedCode (composedCode s r l) := by
  simp [compose, cellAt, cellBuild, List.getD_eq_getElem?_getD, hr, hl]

theorem clipCount_compose (s : State) : (compose s).comp.clipCount
    = ((List.range (depth s)).map fun r => (List.range 144).countP fun l => decide (4095 < composedCode s r l)).sum := by
  simp [compose, cellBuild, List.countP_map, Function.comp_def]

theorem sum_le_of_forall_le {f : Nat → Nat} {b : Nat} (h : ∀ x, f x ≤ b) (n : Nat) :
    ((List.range n).map f).sum ≤ b * n := by
  have := List.sum_le_card_nsmul ((List.range n).map f) b (by simp only [List.mem_map]; rintro _ ⟨x, -, rfl⟩; exact h x)
  simpa [Nat.mul_comm] using this

/-- Settles O52. -/
theorem compositionFillsTheOutputTable : Obligations.CompositionFillsTheOutputTable := by
  unfold Obligations.CompositionFillsTheOutputTable
  refine fun s => ⟨fun r l hr hl => ?_, ?_, ?_, ?_, rfl⟩
  · rw [pulse_compose s hr hl]
    split
    · next h => rw [composedCode_of_not_live ((not_isLive_iff s r l).mpr h)]; rfl
    · rfl
  · rw [clipCount_compose]
    refine congrArg List.sum (List.map_congr_left fun r _ => ?_)
    rw [List.countP_eq_length_filter]
    refine congrArg List.length (List.filter_congr fun l _ => ?_)
    cases hlive : isLive s r l with
    | true => rfl
    | false => rw [composedCode_of_not_live hlive]; rfl
  · rw [clipCount_compose]
    exact sum_le_of_forall_le (fun r => List.countP_le_length.trans (by simp)) _
  · rw [clipCount_compose, List.sum_eq_zero_iff]
    simp only [List.mem_map, List.mem_range, forall_exists_index, and_imp, forall_apply_eq_imp_iff₂, List.countP_eq_zero,
      decide_eq_true_eq, Nat.not_lt]
    exact ⟨fun h r l hr hl => h r hr l hl, fun h r hr l hl => h r l hr hl⟩

end Sys2Proof.Machine

/-! The segment pulses, the drive pins, and the end of a row phase (O53, O30). -/

namespace Sys2Proof.Machine

-- One theorem at a time: elaborated at once, they wait on each other and each holds a thread.
set_option Elab.async false

/-! ## Segment pulses (R14) -/

/-- `n` segments of which the first `m` have one slot more. -/
theorem sum_segments (a m n : Nat) : ((List.range n).map fun i => a + if i < m then 1 else 0).sum = n * a + min m n := by
  induction n with
  | zero => simp
  | succ n ih =>
    rw [List.range_succ, List.map_append, List.sum_append, ih, Nat.succ_mul]
    simp only [List.map_cons, List.map_nil, List.sum_cons, List.sum_nil]
    split_ifs <;> omega

theorem sum_segmentPulse (p : Nat) {segs : Nat} (h : 0 < segs) : ((List.range segs).map (segmentPulse p segs)).sum = p := by
  have hlt := Nat.mod_lt p h
  have hdiv := Nat.div_add_mod p segs
  have hsum := sum_segments (p / segs) (p % segs) segs
  rw [Nat.min_eq_left hlt.le] at hsum
  exact hsum.trans hdiv

theorem segmentPulse_le_succ (p segs i j : Nat) : segmentPulse p segs i ≤ segmentPulse p segs j + 1 := by
  unfold segmentPulse
  split_ifs <;> omega

/-- A pulse of the whole row phase at most fits its segments. -/
theorem segmentPulse_le {p segs : Nat} (hp : p ≤ 4095) (hsegs : segs = 1 ∨ segs = 2 ∨ segs = 4 ∨ segs = 8) (i : Nat) :
    segmentPulse p segs i ≤ 4096 / segs := by
  unfold segmentPulse
  obtain rfl | rfl | rfl | rfl := hsegs <;> split_ifs <;> omega

theorem segmentPulse_zero (segs i : Nat) : segmentPulse 0 segs i = 0 := by simp [segmentPulse]

/-! ## The pins (R5, R6, R9, R13, R15) -/

/-- With no test and no row phase every drive pin is off. -/
theorem pins_off {s : State} (htest : testDriving s = none) (hphase : phaseNow s = none) (r l j : Nat) :
    rowSelected s r = false ∧ nodeDriver s l = .nothing ∧ laneLit s l j = false := by
  simp [rowSelected, nodeDriver, laneLit, htest, hphase]

theorem pins_of_test {s : State} {t : TestRecord} {d : TestDriver} (htest : testDriving s = some (t, d)) (r l j : Nat) :
    (rowSelected s r = true ↔ r = t.die.row) ∧ (laneLit s l j = true ↔ l = t.die.lane)
      ∧ (l ≠ t.die.lane → nodeDriver s l = .nothing) := by
  simp only [rowSelected, laneLit, nodeDriver, htest, beq_iff_eq]
  exact ⟨eq_comm, eq_comm, fun h => if_neg (Ne.symm h)⟩

/-- A lane is on in the slots of its pulses, for a cell that the phase drives. -/
theorem pulseOn_phasePulse (p : RowPhase) (l segs j : Nat) : pulseOn (phasePulse p l) segs j = true ↔
    p.entry = .normal ∧ (p.latch l).lane ≠ .dark ∧ ((p.latch l).cell = .aActive ∨ (p.latch l).cell = .bActive)
      ∧ j % (4096 / segs) < (p.latch l).pulse / segs + (if j / (4096 / segs) < (p.latch l).pulse % segs then 1 else 0) := by
  have hselected : (p.latch l).cell.selected = none ↔ ¬ ((p.latch l).cell = .aActive ∨ (p.latch l).cell = .bActive) := by
    cases (p.latch l).cell <;> simp [CellState.selected]
  have hentry : p.entry = .lost ↔ p.entry ≠ .normal := by cases p.entry <;> simp
  rw [pulseOn, decide_eq_true_iff, phasePulse]
  split
  · next hdark =>
    rw [segmentPulse_zero, hentry, hselected] at *
    exact ⟨fun h => absurd h (Nat.not_lt_zero _), fun ⟨h1, h2, h3, _⟩ => (hdark.elim (· h1) fun h => h.elim h2 (· h3)).elim⟩
  · next hlit =>
    rw [hentry, hselected] at hlit
    push Not at hlit
    exact ⟨fun h => ⟨hlit.1, hlit.2.1, hlit.2.2, h⟩, fun ⟨_, _, _, h⟩ => h⟩

/-- The pins in a row phase (R5, R6, R13, R14). -/
theorem pins_of_phase {s : State} {p : RowPhase} (htest : testDriving s = none) (hscan : s.scan.state = .scanning)
    (hphase : s.scan.phase = some p) (l : Nat) :
    (∀ r, rowSelected s r = true ↔ r = p.row ∧ p.entry = .normal)
    ∧ nodeDriver s l = (match (p.latch l).lane with | .normal => .own | .spared k => .slot k | .dark => .nothing)
    ∧ ∀ j, laneLit s l j = true ↔
        j < 4096 ∧ p.entry = .normal ∧ (p.latch l).lane ≠ .dark
          ∧ ((p.latch l).cell = .aActive ∨ (p.latch l).cell = .bActive)
          ∧ j % (4096 / s.scan.segments) < (p.latch l).pulse / s.scan.segments
              + (if j / (4096 / s.scan.segments) < (p.latch l).pulse % s.scan.segments then 1 else 0) := by
  have hnow : phaseNow s = some p := by rw [phaseNow, if_pos hscan, hphase]
  simp only [rowSelected, nodeDriver, laneLit, htest, hnow, Bool.and_eq_true, beq_iff_eq, decide_eq_true_eq,
    pulseOn_phasePulse]
  exact ⟨fun r => and_congr_left' eq_comm, rfl, fun _ => trivial⟩

/-! ## A row phase starts (R10 to R12) -/

theorem latch_latchRow (s : State) (r : Nat) {l : Nat} (hl : l < 144) :
    (latchRow s r).latch l = ⟨laneNow s l, (cellEntry s r l).state, cellAt s.comp.pulses r l 0⟩ := by
  simp [latchRow, RowPhase.latch, List.getD_eq_getElem?_getD, hl]

theorem trace_eq (c : CellState) : c.trace = (match c with | .bActive => .b | _ => .a) := by cases c <;> rfl

/-- The traces that a phase of row r sets (R6). -/
theorem traces_latchRow (s : State) (r : Nat) {l : Nat} (hl : l < 144) :
    ((latchRow s r).lanes.map fun x => x.cell.trace).getD l .a
      = (match (cellEntry s r l).state with | .bActive => .b | _ => .a) := by
  rw [← trace_eq]
  simp [latchRow, List.getD_eq_getElem?_getD, hl]

theorem exec_rowPhaseEnd_scanning {s : State} (h : s.scan.state = .scanning) :
    exec .rowPhaseEnd s = .next (phaseEnd s) := congrArg _ (if_pos h)

theorem phaseEnd_of_no_claim {s : State} (h : claimWaiting s = false) : phaseEnd s = startPhase s := by
  rw [phaseEnd, h]; rfl

theorem claimWaiting_of_no_test {s : State} (h : s.sense.test = none) : claimWaiting s = false := by
  rw [claimWaiting, h]

/-- Settles O53. -/
theorem pulsesAndPinsFollowTheTables : Obligations.PulsesAndPinsFollowTheTables := by
  unfold Obligations.PulsesAndPinsFollowTheTables
  refine ⟨fun p segs hp hsegs => ⟨sum_segmentPulse p (by omega), fun i j _ _ => segmentPulse_le_succ p segs i j,
      fun i _ => segmentPulse_le hp hsegs i⟩, fun s hlaw => ⟨fun hoff hnone r l j => ?_, fun t d => pins_of_test⟩,
    fun p l s htest hscan hphase => pins_of_phase htest hscan hphase l, fun s hscan htest => ?_⟩
  · have hstate := hlaw.state
    rw [hoff, hnone] at hstate
    exact pins_off hnone (by rw [phaseNow, hstate]; rfl) r l j
  · refine ⟨startPhase s, ?_, fun l hl => ?_⟩
    · rw [exec_rowPhaseEnd_scanning hscan, phaseEnd_of_no_claim (claimWaiting_of_no_test htest)]
    · have htesting : testDriving (startPhase s) = none := by
        show (s.sense.test.bind fun t => t.driver.map fun d => (t, d)) = none
        rw [htest]; rfl
      have hpins := pins_of_phase (s := startPhase s) (p := latchRow s s.scan.nextRow) htesting rfl rfl l
      rw [latch_latchRow s _ hl] at hpins
      exact ⟨hpins, traces_latchRow s _ hl⟩

/-! ## A waiting claim (R10, R16, R53) -/

theorem driverFor_of_connectsTo {s : State} {t : TestRecord} {d : TestDriver} (h : ConnectsTo s t d) :
    driverFor t.source (laneNow s t.die.lane) = some d := by
  revert h
  unfold ConnectsTo
  cases t.source <;> cases laneNow s t.die.lane <;> intro h <;> first | exact congrArg some (Eq.symm h) | exact h.elim

theorem driverFor_of_withdrawn {s : State} {t : TestRecord} (h : Withdrawn s t) :
    driverFor t.source (laneNow s t.die.lane) = none := by
  obtain ⟨hdark, hsource | hsource | ⟨n, hsource⟩⟩ := h <;> rw [hsource, hdark] <;> rfl

theorem takeClaim_of_connectsTo {s : State} {t : TestRecord} {d : TestDriver} (h : ConnectsTo s t d) (st : ScanState) :
    takeClaim t st s = (connect t d (s.withScan { s.scan with state := st, phase := none }), false) := by
  have hdriver := driverFor_of_connectsTo h
  unfold takeClaim
  dsimp only
  rw [show laneNow (s.withScan { s.scan with state := st, phase := none }) t.die.lane = laneNow s t.die.lane from rfl, hdriver]

theorem takeClaim_of_withdrawn {s : State} {t : TestRecord} (h : Withdrawn s t) (st : ScanState) :
    takeClaim t st s = (releaseLines ((s.withScan { s.scan with state := st, phase := none }).withSense
      { s.sense with test := none }), true) := by
  have hdriver := driverFor_of_withdrawn h
  unfold takeClaim
  dsimp only
  rw [show laneNow (s.withScan { s.scan with state := st, phase := none }) t.die.lane = laneNow s t.die.lane from rfl, hdriver]
  rfl

/-- A claim taken: the test drives, with its lane's trace switch set. -/
theorem claimAtPhaseEnd_of_connectsTo {s : State} {t : TestRecord} {d : TestDriver} (htest : s.sense.test = some t)
    (h : ConnectsTo s t d) (st : ScanState) : claimAtPhaseEnd st s
      = (s.withScan { s.scan with state := st, phase := none, traces := s.scan.traces.set t.die.lane t.die.die }).withSense
          { s.sense with test := some { t with driver := some d } } := by
  rw [claimAtPhaseEnd_of_test htest, takeClaim_of_connectsTo h]
  rfl

/-- With no window open there is no grant decision. -/
theorem decideGrant_of_closed {s : State} (h : s.sense.windowOpen = false) : decideGrant s = s := by
  simp [decideGrant, grantDecision, h]

theorem releaseLines_sense (s : State) : (releaseLines s).sense = s.sense := by
  unfold releaseLines
  cases s.scan.state <;> rfl

/-- A claim withdrawn with no window open. -/
theorem claimAtPhaseEnd_of_withdrawn {s : State} {t : TestRecord} (htest : s.sense.test = some t) (h : Withdrawn s t)
    (hclosed : s.sense.windowOpen = false) (st : ScanState) : claimAtPhaseEnd st s
      = releaseLines ((s.withScan { s.scan with state := st, phase := none }).withSense { s.sense with test := none }) := by
  rw [claimAtPhaseEnd_of_test htest, takeClaim_of_withdrawn h, if_pos rfl, decideGrant_of_closed]
  rw [releaseLines_sense]
  exact hclosed

theorem claimWaiting_of_test {s : State} {t : TestRecord} (htest : s.sense.test = some t) (hdriver : t.driver = none) :
    claimWaiting s = true := by
  rw [claimWaiting, htest]
  exact congrArg Option.isNone hdriver

theorem phaseEnd_of_claim {s : State} (h : claimWaiting s = true) : phaseEnd s = claimAtPhaseEnd .yielded s := by
  rw [phaseEnd, h]; rfl

/-- Settles O30. -/
theorem rowPhaseEndsServeTheLines : Obligations.RowPhaseEndsServeTheLines := by
  unfold Obligations.RowPhaseEndsServeTheLines
  refine ⟨fun s hscan hnone => ⟨latchRow s s.scan.nextRow, _, ?_, rfl, rfl,
      fun l hl => ⟨latch_latchRow s _ hl, traces_latchRow s _ hl⟩⟩, fun t d s hscan htest hdriver hconnects => ?_,
    fun t s hscan htest hdriver hwithdrawn hclosed => ?_⟩
  · rw [exec_rowPhaseEnd_scanning hscan, phaseEnd_of_no_claim hnone]
    rfl
  · rw [exec_rowPhaseEnd_scanning hscan, phaseEnd_of_claim (claimWaiting_of_test htest hdriver),
      claimAtPhaseEnd_of_connectsTo htest hconnects]
  · rw [exec_rowPhaseEnd_scanning hscan, phaseEnd_of_claim (claimWaiting_of_test htest hdriver),
      claimAtPhaseEnd_of_withdrawn htest hwithdrawn hclosed]
    exact ⟨_, rfl, rfl, rfl, rfl, rfl, rfl, rfl, rfl, rfl⟩

end Sys2Proof.Machine

/-! The application of the Pending Change List, entry by entry (O43). -/

namespace Sys2Proof.Machine

-- One theorem at a time: elaborated at once, they wait on each other and each holds a thread.
set_option Elab.async false

/-! ## One entry (R112, R113) -/

theorem applyChange_cell (frame : Nat) (s : State) (r l : Nat) (st : CellState) :
    applyChange frame s (.cell r l st)
      = s.withRepair { s.repair with cells := cellSet s.repair.cells r l { cellEntry s r l with state := st } } := rfl

theorem cellEntry_cellSet_same {s : State} {r l : Nat} (h : HasCell s r l) (e : CellEntry) :
    cellEntry (s.withRepair { s.repair with cells := cellSet s.repair.cells r l e }) r l = e :=
  cellAt_cellSet_same _ _ _ _ _ h.1 h.2

theorem cellEntry_cellSet_other {s : State} {r l r' l' : Nat} (h : r' ≠ r ∨ l' ≠ l) (e : CellEntry) :
    cellEntry (s.withRepair { s.repair with cells := cellSet s.repair.cells r l e }) r' l' = cellEntry s r' l' :=
  cellAt_cellSet_other _ _ _ _ _ _ _ h

theorem applyChange_row (frame : Nat) (s : State) (r : Nat) (st : RowState) :
    applyChange frame s (.row r st)
      = (if rowNow s r = st then s else raise .rowLost s).withRepair { s.repair with rows := s.repair.rows.set r st } := by
  unfold applyChange
  dsimp only
  by_cases h : rowNow s r = st
  · rw [if_pos h, if_pos (beq_iff_eq.mpr h)]
  · rw [if_neg h, if_neg (by simpa using h), raise_or, raise_or]
    rfl

theorem applyChange_removal (frame : Nat) (s : State) (x : Target) (seq : Nat) :
    applyChange frame s (.removal x seq) = s.withRepair { s.repair with
      defects := s.repair.defects.filter fun y => decide (y.target ≠ x ∨ y.seq ≠ seq) } := by
  have hfilter : (fun y : Defect => !(y.target == x && y.seq == seq)) = fun y => decide (y.target ≠ x ∨ y.seq ≠ seq) := by
    funext y
    by_cases ht : y.target = x <;> by_cases hs : y.seq = seq <;> simp [ht, hs]
  rw [← hfilter]
  rfl

/-- The lanes and slots that a lane change leaves. -/
def laneMoved (l : Nat) (st : LaneState) (disp : Disposition) (frame : Nat) (x : Repair) : Repair :=
  { x with slots := slotsAfter x.slots l st disp frame, lanes := x.lanes.set l st }

theorem applyChange_lane (frame : Nat) (s : State) (l : Nat) (st : LaneState) (disp : Disposition) :
    applyChange frame s (.lane l st disp)
      = (if laneChangeShows s l st disp frame = true then raise .laneEvent s else s).withRepair
          (laneMoved l st disp frame s.repair) := by
  unfold applyChange
  dsimp only
  split
  · rw [raise_or, raise_or]; rfl
  · rfl

theorem laneNow_set_same {s t : State} {l : Nat} {st : LaneState} (ht : t.repair.lanes = s.repair.lanes.set l st)
    (h : l < s.repair.lanes.length) : laneNow t l = st := by
  simp [laneNow, ht, List.getD_eq_getElem?_getD, h]

theorem laneNow_set_other {s t : State} {l l' : Nat} {st : LaneState} (ht : t.repair.lanes = s.repair.lanes.set l st)
    (h : l' ≠ l) : laneNow t l' = laneNow s l' := by
  simp [laneNow, ht, List.getD_eq_getElem?_getD, Ne.symm h]

theorem slot_eq_some_iff (st : LaneState) (k : Nat) : st.slot = some k ↔ st = .spared k := by
  cases st <;> simp [LaneState.slot]

/-- A slot after a lane change: bound by it, displaced by it, or as it was. -/
theorem slotNow_slotsAfter {s t : State} {l k : Nat} {st : LaneState} {disp : Disposition} {frame : Nat}
    (ht : t.repair.slots = slotsAfter s.repair.slots l st disp frame) (hk : k < s.repair.slots.length) :
    slotNow t k = (if st = .spared k then .bound l frame
      else if (slotNow s k).boundTo l = true then disp.toSlot else slotNow s k) := by
  have hget : s.repair.slots[k]? = some (slotNow s k) := by
    rw [slotNow, List.getD_eq_getElem?_getD, List.getElem?_eq_getElem hk]; rfl
  rw [slotNow, ht, slotsAfter, List.getD_eq_getElem?_getD, List.getElem?_mapIdx, hget]
  simp only [Option.map_some, Option.getD_some, slot_eq_some_iff]

theorem boundTo_bound (l frame l' : Nat) : (SlotState.bound l frame).boundTo l' = true ↔ l' = l := by
  rw [SlotState.boundTo, beq_iff_eq]
  exact eq_comm

theorem boundTo_displaced (disp : Disposition) (l : Nat) :
    disp.toSlot.boundTo l = false := by
  cases disp <;> rfl

/-- A slot is bound to one lane. -/
theorem boundTo_unique {x : SlotState} {l l' : Nat} (h : x.boundTo l = true) (h' : x.boundTo l' = true) : l' = l := by
  cases x <;> simp_all [SlotState.boundTo]

/-- A lane change keeps the slot law when the slot it names is bound to no other lane (R108). -/
theorem slotLaneLaw_applyChange {l : Nat} {st : LaneState} {disp : Disposition} {frame : Nat} {s : State}
    (hlaw : SlotLaneLaw s) (hslots : s.repair.slots.length = 12) (hlanes : s.repair.lanes.length = 144) (hl : l < 144)
    (hfree : ∀ k, st = .spared k → k < 12 ∧ ∀ l', l' ≠ l → (slotNow s k).boundTo l' = false) :
    SlotLaneLaw (applyChange frame s (.lane l st disp)) := by
  intro k l' hk hl'
  have hk' : k < s.repair.slots.length := by rw [hslots]; exact hk
  rw [applyChange_lane, slotNow_slotsAfter (s := s) (l := l) (st := st) (disp := disp) (frame := frame) rfl hk']
  by_cases hsame : l' = l
  · subst hsame
    rw [laneNow_set_same (s := s) rfl (by rw [hlanes]; exact hl)]
    by_cases hst : st = .spared k
    · simp [hst, boundTo_bound]
    · rw [if_neg hst]
      split
      · simp [boundTo_displaced, hst]
      · next h => simp [h, hst]
  · rw [laneNow_set_other (s := s) rfl hsame]
    by_cases hst : st = .spared k
    · have hother : (slotNow s k).boundTo l' = false := (hfree k hst).2 l' hsame
      have hlane : laneNow s l' ≠ .spared k := fun h => by rw [(hlaw k l' hk hl').mpr h] at hother; exact nomatch hother
      simp [hst, boundTo_bound, hsame, hlane]
    · rw [if_neg hst]
      split
      · next hbound =>
        have hlane : laneNow s l' ≠ .spared k := fun h => hsame (boundTo_unique hbound ((hlaw k l' hk hl').mpr h))
        simp [boundTo_displaced, hlane]
      · exact hlaw k l' hk hl'

/-! ## The whole list (R112, R47) -/

theorem foldl_applyChange_withChanges (frame : Nat) (x cs : List Change) : ∀ s : State,
    cs.foldl (applyChange frame) (s.withRepair { s.repair with changes := x })
      = (cs.foldl (applyChange frame) s).withRepair { (cs.foldl (applyChange frame) s).repair with changes := x } := by
  induction cs with
  | nil => exact fun _ => rfl
  | cons c cs ih => intro s; simp only [List.foldl_cons, applyChange_withChanges, ih]

/-- The first entry is applied, then the rest. -/
theorem applyChangesAt_cons {c : Change} {rest : List Change} {s : State} (h : s.repair.changes = c :: rest) (frame : Nat) :
    applyChangesAt frame s
      = applyChangesAt frame (applyChange frame (s.withRepair { s.repair with changes := rest }) c) := by
  have hrest : (applyChange frame (s.withRepair { s.repair with changes := rest }) c).repair.changes = rest :=
    applyChange_repair_changes _ _ _
  rw [applyChangesAt, applyChangesAt, hrest, applyChange_withChanges, foldl_applyChange_withChanges, h]
  rfl

theorem applyChanges_cons {c : Change} {rest : List Change} {s : State} (h : s.repair.changes = c :: rest) :
    applyChanges s
      = applyChanges (applyChange s.store.frameCount (s.withRepair { s.repair with changes := rest }) c) := by
  have hframe := ListFrame.applyChange s.store.frameCount (s.withRepair { s.repair with changes := rest }) c
  have hstore : (applyChange s.store.frameCount (s.withRepair { s.repair with changes := rest }) c).store = s.store := hframe.store
  have hctl : (applyChange s.store.frameCount (s.withRepair { s.repair with changes := rest }) c).ctl = s.ctl := hframe.ctl
  rw [applyChanges, applyChangesAt_cons h, applyChanges, hstore, hctl]

theorem applyChanges_of_nil {s : State} (h : s.repair.changes = []) :
    applyChanges s = if s.ctl.mode = .run then s else zeroVictims s := by
  rw [applyChanges, applyChangesAt_of_nil _ h]

/-- A pulse length after the zeroing of the victims (R47). -/
theorem pulse_zeroVictims (s : State) (r l : Nat) : cellAt (zeroVictims s).comp.pulses r l 0
    = if isVictim s r l = true ∨ isForcedOff s r l = true then 0 else cellAt s.comp.pulses r l 0 := by
  have hlive : cellAt (zeroVictims s).comp.pulses r l 0 = if isLive s r l = true then cellAt s.comp.pulses r l 0 else 0 := by
    simp only [zeroVictims, State.withComp_comp, cellAt, List.getD_eq_getElem?_getD, List.getElem?_mapIdx]
    cases hrow : s.comp.pulses[r]? with
    | none => simp
    | some row =>
      simp only [Option.map_some, Option.getD_some, List.getElem?_mapIdx]
      cases hx : row[l]? <;> simp
  rw [hlive]
  cases h : isLive s r l with
  | true => rw [if_pos rfl, if_neg (by rw [← not_isLive_iff, h]; decide)]
  | false => rw [if_neg (by decide), if_pos ((not_isLive_iff s r l).mp h)]

/-- Settles O43. -/
theorem changesAreApplied : Obligations.ChangesAreApplied := by
  unfold Obligations.ChangesAreApplied
  refine ⟨fun r l st frame s => ⟨rfl, fun h => cellEntry_cellSet_same h _, fun r' l' h => cellEntry_cellSet_other h _⟩,
    fun r st frame s => applyChange_row frame s r st, fun x seq frame s => applyChange_removal frame s x seq,
    fun l st disp frame s => ?_, fun l st disp frame s => slotLaneLaw_applyChange,
    fun s => ⟨fun c rest => applyChanges_cons, fun hnil hrun => ?_, fun hnil hrun => ?_⟩⟩
  · dsimp only
    rw [applyChange_lane, ← laneChangeShows_iff l st disp frame s]
    refine ⟨laneNow_set_same (s := s) rfl, fun l' => laneNow_set_other (s := s) rfl,
      fun k => slotNow_slotsAfter (s := s) rfl, fun hshows => ?_, fun hshows => ?_⟩
    · rw [if_pos hshows]; rfl
    · rw [if_neg hshows]; rfl
  · rw [applyChanges_of_nil hnil, if_pos hrun]
  · rw [applyChanges_of_nil hnil, if_neg hrun]
    exact ⟨rfl, pulse_zeroVictims s⟩

end Sys2Proof.Machine

/-! The checks of a REPAIR in their order (O45). -/

namespace Sys2Proof.Machine

-- One theorem at a time: elaborated at once, they wait on each other and each holds a thread.
set_option Elab.async false

/-! ## Room (R111, R115) -/

theorem changeRoom_eq_true_iff (n : Nat) (s : State) : changeRoom n s = true ↔ s.repair.changes.length + n ≤ 16 := decide_eq_true_iff

theorem not_changeRoom_iff (n : Nat) (s : State) : (!changeRoom n s) = true ↔ 16 < s.repair.changes.length + n := by
  rw [Bool.not_eq_true', Bool.eq_false_iff, Ne, changeRoom_eq_true_iff, Nat.not_le]

theorem recordRoom_eq_true_iff (s : State) (t : Target) : recordRoom s t = true ↔
    s.repair.defects.length < 192 ∨ ∃ x ∈ s.repair.defects, x.target = t := by
  simp [recordRoom, recordOf, or_comm, Config.defectPlaces]

theorem not_recordRoom_iff (s : State) (t : Target) : (!recordRoom s t) = true ↔
    192 ≤ s.repair.defects.length ∧ ∀ x ∈ s.repair.defects, x.target ≠ t := by
  rw [Bool.not_eq_true', Bool.eq_false_iff, Ne, recordRoom_eq_true_iff]
  push Not
  rfl

/-! ## A request judged by its checks (R123) -/

/-- The checks in the words of the statements: the same conditions with the same statuses. -/
abbrev SameChecks (props : List (Prop × Byte)) (checks : List (Bool × ReplyStatus)) : Prop :=
  List.Forall₂ (fun (p : Prop × Byte) (c : Bool × ReplyStatus) => (p.1 ↔ c.1 = true) ∧ p.2 = statusByte c.2) props checks

theorem refusedInOrder_of_firstRefusal {run : Host.Outcome State Fault Refusal} {no : Byte → Host.Outcome State Fault Refusal}
    {props : List (Prop × Byte)} {checks : List (Bool × ReplyStatus)} (h : SameChecks props checks)
    (hrun : ∀ x, firstRefusal checks = some x → run = no (statusByte x)) : RefusedInOrder run no props := by
  induction h with
  | nil => trivial
  | @cons p c props checks hpc _ ih =>
    obtain ⟨hiff, hstatus⟩ := hpc
    refine ⟨fun hp => ?_, fun hp => ih fun x hx => hrun x ?_⟩
    · rw [hstatus]
      exact hrun c.2 (by simp [firstRefusal, hiff.mp hp])
    · have hc : c.1 = false := by simpa [hiff] using hp
      simpa [firstRefusal, hc] using hx

/-- A REPAIR judged by its checks is refused by the first that applies, its reply alone being made. -/
theorem refusedInOrder_of_judged {run : Host.Outcome State Fault Refusal} {q : Request} {s : State}
    {props : List (Prop × Byte)} {checks : List (Bool × ReplyStatus)} {accept : State → State}
    (hrun : run = .next (judged q checks accept (atTake kRepair q s))) (haddr : q.broadcast = false)
    (h : SameChecks props checks) :
    RefusedInOrder run (fun x => .next ((atTake 0x0C q s).replying (replyOf 0x0C q x []))) props :=
  refusedInOrder_of_firstRefusal h fun x hx => by
    rw [hrun, judged, hx]
    dsimp only
    rw [refuse, answer_addressed haddr]

/-- With no check that applies the request is accepted. -/
theorem judged_of_passed {q : Request} {checks : List (Bool × ReplyStatus)} {accept : State → State} {s : State}
    (h : firstRefusal checks = none) : judged q checks accept s = accept s := by rw [judged, h]

/-! ## The checks (R101, R123) -/

theorem badCell_iff (s : State) (r l : Nat) : badCell s r l = true ↔ depth s ≤ r ∨ 144 ≤ l := by simp [badCell]

theorem checkHasCell_iff (s : State) (r l : Nat) :
    checkHasCell s r l = true ↔ ∃ c, s.corr.check = some c ∧ (c.die.row = r ∨ c.die.lane = l) := by
  unfold checkHasCell
  cases s.corr.check <;> simp

theorem checkHasLane_iff (s : State) (l : Nat) :
    checkHasLane s l = true ↔ ∃ c, s.corr.check = some c ∧ c.die.lane = l := by
  unfold checkHasLane
  cases s.corr.check <;> simp

theorem checkHasRow_iff (s : State) (r : Nat) :
    checkHasRow s r = true ↔ ∃ c, s.corr.check = some c ∧ c.die.row = r := by
  unfold checkHasRow
  cases s.corr.check <;> simp

theorem bindOn_iff (s : State) (l : Nat) :
    bindOn s l = true ↔ ∃ b, s.repair.bind = some b ∧ b.lane = l ∧ ∀ z, b.stage ≠ .ended z := by
  unfold bindOn
  cases s.repair.bind with
  | none => simp
  | some b =>
    obtain ⟨lane, slot, die, src, tag, stage⟩ := b
    cases stage <;> simp

theorem bindDieAt_eq_none_iff (s : State) (l r : Nat) : bindDieAt s l r = none ↔
    plannedRow s r = .lost ∨ (plannedCell s r l).selected = none
      ∨ ∃ d, (plannedCell s r l).selected = some d ∧ ((cellEntry s r l).health d).bad = true := by
  unfold bindDieAt
  cases hrow : plannedRow s r with
  | lost => simp
  | normal => cases hcell : (plannedCell s r l).selected <;> simp

theorem bindDie_isNone_iff (s : State) (l : Nat) : (bindDie s l).isNone = true ↔
    ∀ i, i < depth s → plannedRow s i = .lost ∨ (plannedCell s i l).selected = none
      ∨ ∃ d, (plannedCell s i l).selected = some d ∧ ((cellEntry s i l).health d).bad = true := by
  simp only [bindDie, Option.isNone_iff_eq_none, List.findSome?_eq_none_iff, List.mem_range, bindDieAt_eq_none_iff]

theorem target_eq_some_iff (x : SlotState) (l : Nat) : x.target = some l ↔ x = .reserved l ∨ ∃ f, x = .bound l f := by
  cases x <;> simp [SlotState.target]

theorem laneHeld_iff (s : State) (l : Nat) : laneHeld s l = true ↔
    (∃ j, plannedLane s l = .spared j) ∨ ∃ x ∈ s.repair.slots, x = .reserved l ∨ ∃ f, x = .bound l f := by
  have hslot : (plannedLane s l).slot.isSome = true ↔ ∃ j, plannedLane s l = .spared j := by
    cases plannedLane s l <;> simp [LaneState.slot]
  simp only [laneHeld, Bool.or_eq_true, hslot, List.any_eq_true, beq_iff_eq, target_eq_some_iff]

theorem contains_slotsOf_iff (l k : Nat) : (slotsOf l).contains k = true ↔ k / 2 = l / 24 := by
  simp only [slotsOf, groupOf, Config.groupLanes, List.contains_iff_mem, List.mem_cons, List.not_mem_nil, or_false]
  omega

theorem dieNamed_eq_none_iff (s : State) (r l k : Nat) :
    dieNamed s r l k = none ↔ (depth s ≤ r ∨ 144 ≤ l) ∨ 2 ≤ k := by
  unfold dieNamed
  obtain rfl | rfl | hk : k = 0 ∨ k = 1 ∨ 2 ≤ k := by omega
  · simp [dieOfCode, Config.lanes]; omega
  · simp [dieOfCode, Config.lanes]; omega
  · have hcode : dieOfCode k = none := by
      obtain ⟨n, rfl⟩ := Nat.exists_eq_add_of_le' hk
      rfl
    simp [hcode, hk]

theorem dieNamed_eq_some {s : State} {r l k : Nat} (hr : r < depth s) (hl : l < 144) (hk : k < 2) :
    dieNamed s r l k = some ⟨r, l, if k = 0 then .a else .b⟩ := by
  obtain rfl | rfl : k = 0 ∨ k = 1 := by omega
  · simp [dieNamed, dieOfCode, hr, hl]
  · simp [dieNamed, dieOfCode, hr, hl]

/-- With no die in it, the check for a bad die refuses nothing. -/
theorem firstRefusal_cellChecks_false (s : State) (r l : Nat) : firstRefusal (cellChecks r l false s)
    = firstRefusal [(badCell s r l, .field), (checkHasCell s r l, .busy), (!changeRoom 1 s, .busy),
        (!recordRoom s (.cell r l), .full)] := by
  unfold cellChecks firstRefusal
  cases badCell s r l <;> cases checkHasCell s r l <;> cases changeRoom 1 s <;> rfl

/-! ## The rows of REPAIR -/

/-- A take changes the links alone, so whatever does not read them reads the same. -/
theorem atTake_withLink (kind : Byte) (q : Request) (s : State) : ∃ x : Link, atTake kind q s = s.withLink x :=
  ⟨_, atTake_eq kind q s⟩

section
variable {q : Request} {s : State}

theorem exec_selectA_dispatched (h : RepairDispatched 1 q s) : exec (.selectA q) s
    = .next (judged q (cellChecks (repA q) (repB q) (namedBad q .a s) s) (cellManual q .aActive .selectA)
        (atTake kRepair q s)) := by
  refine (repairRow_dispatched _ h).trans ?_
  obtain ⟨x, hx⟩ := atTake_withLink kRepair q s
  rw [hx]; rfl

theorem exec_selectB_dispatched (h : RepairDispatched 2 q s) : exec (.selectB q) s
    = .next (judged q (cellChecks (repA q) (repB q) (namedBad q .b s) s) (cellManual q .bActive .selectB)
        (atTake kRepair q s)) := by
  refine (repairRow_dispatched _ h).trans ?_
  obtain ⟨x, hx⟩ := atTake_withLink kRepair q s
  rw [hx]; rfl

theorem exec_conceal_dispatched (h : RepairDispatched 3 q s) : exec (.conceal q) s
    = .next (judged q (cellChecks (repA q) (repB q) false s) (cellManual q .concealed .conceal) (atTake kRepair q s)) := by
  refine (repairRow_dispatched _ h).trans ?_
  obtain ⟨x, hx⟩ := atTake_withLink kRepair q s
  rw [hx]; rfl

theorem exec_forceOff_dispatched (h : RepairDispatched 4 q s) : exec (.forceOff q) s
    = .next (judged q (cellChecks (repA q) (repB q) false s) (cellManual q .forcedOff .forceOff) (atTake kRepair q s)) := by
  refine (repairRow_dispatched _ h).trans ?_
  obtain ⟨x, hx⟩ := atTake_withLink kRepair q s
  rw [hx]; rfl

theorem exec_releaseCell_dispatched (h : RepairDispatched 5 q s) : exec (.releaseCell q) s
    = .next (judged q [(badCell s (repA q) (repB q), .field), (checkHasCell s (repA q) (repB q), .busy),
        (!changeRoom 2 s, .busy), ((standingRecord s (.cell (repA q) (repB q))).isNone, .notFound)]
        (cellReleased q) (atTake kRepair q s)) := by
  refine (repairRow_dispatched _ h).trans ?_
  obtain ⟨x, hx⟩ := atTake_withLink kRepair q s
  rw [hx]; rfl

theorem exec_releaseDie_dispatched (h : RepairDispatched 6 q s) :
    exec (.releaseDie q) s = .next (dieRelease q (atTake kRepair q s)) := repairRow_dispatched _ h

/-- A RELEASE_DIE of a die of the tile, judged. -/
theorem dieRelease_atTake {x : DieRef} (hnamed : dieNamed s (repA q) (repB q) (repC q) = some x) :
    dieRelease q (atTake kRepair q s) = judged q
      [(checkHasCell s x.row x.lane, .busy), (!changeRoom (if dieReleaseMoves s x.row x.lane then 2 else 1) s, .busy),
        ((standingRecord s (.die x.row x.lane x.die)).isNone, .notFound)] (dieReleased q x) (atTake kRepair q s) := by
  obtain ⟨y, hy⟩ := atTake_withLink kRepair q s
  rw [hy, dieRelease]
  rw [show dieNamed (s.withLink y) (repA q) (repB q) (repC q) = some x from hnamed]
  rfl

theorem exec_releaseRow_dispatched (h : RepairDispatched 10 q s) : exec (.releaseRow q) s
    = .next (judged q [(decide (depth s ≤ repA q), .field), (checkHasRow s (repA q), .busy), (!changeRoom 2 s, .busy),
        ((standingRecord s (.row (repA q))).isNone, .notFound)] (rowReleased q) (atTake kRepair q s)) := by
  refine (repairRow_dispatched _ h).trans ?_
  obtain ⟨x, hx⟩ := atTake_withLink kRepair q s
  rw [hx]; rfl

/-- What a BIND that no check refuses does. -/
def bindTaken (q : Request) (s : State) : State :=
  match bindDie s (repB q) with
  | some x => bindAccepted q x s
  | none => s

theorem exec_bind_dispatched (h : RepairDispatched 7 q s) :
    exec (.bind q) s = .next (judged q (bindChecks q s) (bindTaken q) (atTake kRepair q s)) := by
  refine (repairRow_dispatched _ h).trans ?_
  obtain ⟨x, hx⟩ := atTake_withLink kRepair q s
  rw [hx]; rfl

theorem exec_unbindLane_dispatched (h : RepairDispatched 8 q s) : exec (.unbindLane q) s
    = .next (judged q [(decide (Config.lanes ≤ repB q), .field), (checkHasLane s (repB q), .busy), (bindOn s (repB q), .busy),
        (!changeRoom (if unbindMoves s (repB q) then 2 else 1) s, .busy),
        ((standingRecord s (.lane (repB q))).isNone, .notFound)] (laneUnbound q) (atTake kRepair q s)) := by
  refine (repairRow_dispatched _ h).trans ?_
  obtain ⟨x, hx⟩ := atTake_withLink kRepair q s
  rw [hx]; rfl

theorem exec_unbindSlot_dispatched (h : RepairDispatched 9 q s) : exec (.unbindSlot q) s
    = .next (judged q [(decide (Config.spareSlots ≤ repC q), .field), (!(slotNow s (repC q) == .failed), .state)]
        (slotUnbound q) (atTake kRepair q s)) := by
  refine (repairRow_dispatched _ h).trans ?_
  obtain ⟨x, hx⟩ := atTake_withLink kRepair q s
  rw [hx]; rfl

/-- An unknown operation is refused FIELD by whichever row carries it. -/
theorem repairRow_unknown (h : Dispatched kRepair q s) (hop : byteAt q.payload 0 = 0 ∨ 10 < byteAt q.payload 0) {op : Nat}
    (hlow : 1 ≤ op) (hhigh : op ≤ 10) (owner : State → State) :
    repairRow op q owner s = .next ((atTake 0x0C q s).replying (replyOf 0x0C q 4 [])) := by
  have hname : namesAnother op q = false := by
    have : ¬ (1 ≤ byteAt q.payload 0 ∧ byteAt q.payload 0 ≤ 10) := by omega
    simp [namesAnother, this]
  have hother : byteAt q.payload 0 ≠ op := by omega
  rw [repairRow, hname, if_neg (by decide), request_dispatched _ h, if_neg hother, refuse, answer_addressed (h.addressed rfl)]
  rfl

end

theorem not_slotNow_eq_iff (s : State) (k : Nat) : (!(slotNow s k == .failed)) = true ↔ slotNow s k ≠ .failed := by
  simp

/-- The checks of SELECT_A and SELECT_B in the words of the statements. -/
theorem sameChecks_cell (s : State) (r l : Nat) (bad : Bool) : SameChecks
    [(depth s ≤ r ∨ 144 ≤ l, 4), (∃ c, s.corr.check = some c ∧ (c.die.row = r ∨ c.die.lane = l), 2),
      (16 < s.repair.changes.length + 1, 2), (bad = true, 3),
      (192 ≤ s.repair.defects.length ∧ ∀ x ∈ s.repair.defects, x.target ≠ .cell r l, 7)]
    (cellChecks r l bad s) :=
  .cons ⟨(badCell_iff s r l).symm, rfl⟩ (.cons ⟨(checkHasCell_iff s r l).symm, rfl⟩
    (.cons ⟨(not_changeRoom_iff 1 s).symm, rfl⟩ (.cons ⟨Iff.rfl, rfl⟩ (.cons ⟨(not_recordRoom_iff s _).symm, rfl⟩ .nil))))

/-- Those of CONCEAL and FORCE_OFF. -/
theorem sameChecks_cell_false (s : State) (r l : Nat) : SameChecks
    [(depth s ≤ r ∨ 144 ≤ l, 4), (∃ c, s.corr.check = some c ∧ (c.die.row = r ∨ c.die.lane = l), 2),
      (16 < s.repair.changes.length + 1, 2),
      (192 ≤ s.repair.defects.length ∧ ∀ x ∈ s.repair.defects, x.target ≠ .cell r l, 7)]
    [(badCell s r l, .field), (checkHasCell s r l, .busy), (!changeRoom 1 s, .busy), (!recordRoom s (.cell r l), .full)] :=
  .cons ⟨(badCell_iff s r l).symm, rfl⟩ (.cons ⟨(checkHasCell_iff s r l).symm, rfl⟩
    (.cons ⟨(not_changeRoom_iff 1 s).symm, rfl⟩ (.cons ⟨(not_recordRoom_iff s _).symm, rfl⟩ .nil)))

theorem judged_cellChecks_false (q : Request) (r l : Nat) (s u : State) (accept : State → State) :
    judged q (cellChecks r l false s) accept u = judged q
      [(badCell s r l, .field), (checkHasCell s r l, .busy), (!changeRoom 1 s, .busy), (!recordRoom s (.cell r l), .full)]
      accept u := by
  rw [judged, judged, firstRefusal_cellChecks_false]

/-- One or two entries must fit: two when a change goes with the removal. -/
theorem not_changeRoom_ite_iff (moves : Bool) (s : State) : (!changeRoom (if moves then 2 else 1) s) = true ↔
    16 < s.repair.changes.length + 1 ∨ (moves = true ∧ 16 < s.repair.changes.length + 2) := by
  rw [not_changeRoom_iff]
  cases moves
  · simp
  · simp only [if_true, true_and]; omega

theorem refusedInOrder_releaseDie {q : Request} {s : State} (h : RepairDispatched 6 q s) :
    RefusedInOrder (exec (.releaseDie q) s) (fun x => .next ((atTake 0x0C q s).replying (replyOf 0x0C q x [])))
      [((depth s ≤ repA q ∨ 144 ≤ repB q) ∨ 2 ≤ repC q, 4),
        (∃ c, s.corr.check = some c ∧ (c.die.row = repA q ∨ c.die.lane = repB q), 2),
        (16 < s.repair.changes.length + 1
          ∨ (standingRecord s (.cell (repA q) (repB q)) = none ∧ 16 < s.repair.changes.length + 2), 2),
        (standingRecord s (.die (repA q) (repB q) (if repC q = 0 then .a else .b)) = none, 10)] := by
  refine ⟨fun hfield => ?_, fun hfield => ?_⟩
  · obtain ⟨x, hx⟩ := atTake_withLink kRepair q s
    have hnone : dieNamed (atTake kRepair q s) (repA q) (repB q) (repC q) = none := by
      rw [hx]; exact (dieNamed_eq_none_iff s _ _ _).mpr hfield
    rw [exec_releaseDie_dispatched h, dieRelease, hnone]
    dsimp only
    rw [refuse, answer_addressed h.addressed]
    rfl
  · have hnamed := dieNamed_eq_some (s := s) (r := repA q) (l := repB q) (k := repC q) (by omega) (by omega) (by omega)
    have hrun := (exec_releaseDie_dispatched h).trans (congrArg _ (dieRelease_atTake hnamed))
    refine refusedInOrder_of_judged hrun h.addressed (.cons ⟨(checkHasCell_iff s _ _).symm, rfl⟩ (.cons ⟨?_, rfl⟩
      (.cons ⟨Option.isNone_iff_eq_none.symm, rfl⟩ .nil)))
    rw [not_changeRoom_ite_iff, dieReleaseMoves, Option.isNone_iff_eq_none]

/-- Settles O45. -/
theorem repairsAreRefusedInOrder : Obligations.RepairsAreRefusedInOrder := by
  unfold Obligations.RepairsAreRefusedInOrder
  intro q s
  refine ⟨fun h => ?_, fun h => ?_, fun h => ?_, fun h => ?_, fun h => ?_, refusedInOrder_releaseDie, fun h => ?_,
    fun h => ?_, fun h => ?_, fun h => ?_, fun h hop i hi => ?_⟩
  · exact refusedInOrder_of_judged (exec_selectA_dispatched h) h.addressed (sameChecks_cell s _ _ _)
  · exact refusedInOrder_of_judged (exec_selectB_dispatched h) h.addressed (sameChecks_cell s _ _ _)
  · exact refusedInOrder_of_judged ((exec_conceal_dispatched h).trans (congrArg _ (judged_cellChecks_false ..))) h.addressed
      (sameChecks_cell_false s _ _)
  · exact refusedInOrder_of_judged ((exec_forceOff_dispatched h).trans (congrArg _ (judged_cellChecks_false ..))) h.addressed
      (sameChecks_cell_false s _ _)
  · exact refusedInOrder_of_judged (exec_releaseCell_dispatched h) h.addressed
      (.cons ⟨(badCell_iff s _ _).symm, rfl⟩ (.cons ⟨(checkHasCell_iff s _ _).symm, rfl⟩
        (.cons ⟨(not_changeRoom_iff 2 s).symm, rfl⟩ (.cons ⟨Option.isNone_iff_eq_none.symm, rfl⟩ .nil))))
  · exact refusedInOrder_of_judged (exec_releaseRow_dispatched h) h.addressed
      (.cons ⟨decide_eq_true_iff.symm, rfl⟩ (.cons ⟨(checkHasRow_iff s _).symm, rfl⟩
        (.cons ⟨(not_changeRoom_iff 2 s).symm, rfl⟩ (.cons ⟨Option.isNone_iff_eq_none.symm, rfl⟩ .nil))))
  · have hnumbers : 144 ≤ repB q ∨ 12 ≤ repC q
        ↔ (decide (Config.lanes ≤ repB q) || decide (Config.spareSlots ≤ repC q)) = true := by simp
    have hgroup : repC q / 2 ≠ repB q / 24 ↔ (!(slotsOf (repB q)).contains (repC q)) = true := by
      rw [Bool.not_eq_true', Bool.eq_false_iff, Ne, Ne, contains_slotsOf_iff]
    have hconflict : (plannedSlot s (repC q) ≠ .free ∨ (∃ j, plannedLane s (repB q) = .spared j)
        ∨ ∃ x ∈ s.repair.slots, x = .reserved (repB q) ∨ ∃ f, x = .bound (repB q) f)
        ↔ (!(plannedSlot s (repC q) == .free) || laneHeld s (repB q)) = true := by
      rw [Bool.or_eq_true, laneHeld_iff]; simp
    exact refusedInOrder_of_judged (exec_bind_dispatched h) h.addressed
      (.cons ⟨hnumbers, rfl⟩ (.cons ⟨hgroup, rfl⟩ (.cons ⟨Option.isSome_iff_ne_none.symm, rfl⟩
        (.cons ⟨Option.isSome_iff_ne_none.symm, rfl⟩ (.cons ⟨(bindDie_isNone_iff s _).symm, rfl⟩
          (.cons ⟨hconflict, rfl⟩ (.cons ⟨(not_recordRoom_iff s _).symm, rfl⟩ .nil)))))))
  · have hmoves : (16 < s.repair.changes.length + 1 ∨ (plannedLane s (repB q) ≠ .normal ∧ 16 < s.repair.changes.length + 2))
        ↔ (!changeRoom (if unbindMoves s (repB q) then 2 else 1) s) = true := by
      rw [not_changeRoom_ite_iff, unbindMoves]; simp
    exact refusedInOrder_of_judged (exec_unbindLane_dispatched h) h.addressed
      (.cons ⟨decide_eq_true_iff.symm, rfl⟩ (.cons ⟨(checkHasLane_iff s _).symm, rfl⟩ (.cons ⟨(bindOn_iff s _).symm, rfl⟩
        (.cons ⟨hmoves, rfl⟩ (.cons ⟨Option.isNone_iff_eq_none.symm, rfl⟩ .nil)))))
  · exact refusedInOrder_of_judged (exec_unbindSlot_dispatched h) h.addressed
      (.cons ⟨decide_eq_true_iff.symm, rfl⟩ (.cons ⟨(not_slotNow_eq_iff s _).symm, rfl⟩ .nil))
  · simp only [List.mem_cons, List.not_mem_nil, or_false] at hi
    obtain rfl | rfl | rfl | rfl | rfl | rfl | rfl | rfl | rfl | rfl := hi
    · exact repairRow_unknown (op := 1) h hop (by decide) (by decide) _
    · exact repairRow_unknown (op := 2) h hop (by decide) (by decide) _
    · exact repairRow_unknown (op := 3) h hop (by decide) (by decide) _
    · exact repairRow_unknown (op := 4) h hop (by decide) (by decide) _
    · exact repairRow_unknown (op := 5) h hop (by decide) (by decide) _
    · exact repairRow_unknown (op := 6) h hop (by decide) (by decide) _
    · exact repairRow_unknown (op := 7) h hop (by decide) (by decide) _
    · exact repairRow_unknown (op := 8) h hop (by decide) (by decide) _
    · exact repairRow_unknown (op := 9) h hop (by decide) (by decide) _
    · exact repairRow_unknown (op := 10) h hop (by decide) (by decide) _

end Sys2Proof.Machine

/-! Manual repair carried out: the cell actions, the releases, BIND and UNBIND (O44, O46, O47, O48). -/

namespace Sys2Proof.Machine

-- One theorem at a time: elaborated at once, they wait on each other and each holds a thread.
set_option Elab.async false

/-! ## Requests that no check refuses -/

theorem firstRefusal_eq_none {props : List (Prop × Byte)} {checks : List (Bool × ReplyStatus)} (h : SameChecks props checks)
    (hpassed : ∀ p ∈ props, ¬ p.1) : firstRefusal checks = none := by
  induction h with
  | nil => rfl
  | @cons p c props checks hpc _ ih =>
    have hc : c.1 = false := Bool.eq_false_iff.mpr fun hc => hpassed p List.mem_cons_self (hpc.1.mpr hc)
    have hrest := ih fun p hp => hpassed p (List.mem_cons_of_mem _ hp)
    simpa [firstRefusal, hc] using hrest

/-! ## Entries added (R111, R112) -/

theorem withChanges_self {s : State} {cs : List Change} (h : s.repair.changes = cs) :
    s.withRepair { s.repair with changes := cs } = s := by
  rw [← h]; rfl

/-- In STANDBY entries are applied as they are added, and the victims zeroed (R47, R112). -/
theorem addChanges_in_standby {s : State} (hmode : s.ctl.mode = .standby) (hnil : s.repair.changes = []) (cs : List Change) :
    addChanges cs s = zeroVictims (cs.foldl (applyChange s.store.frameCount) s) := by
  have hkept : (cs.foldl (applyChange s.store.frameCount) s).repair.changes = [] :=
    List.foldlRecOn (motive := fun t : State => t.repair.changes = []) _ _ hnil
      fun _ ht c _ => (applyChange_repair_changes _ _ c).trans ht
  have hadded : addChanges cs s = applyChanges (s.withRepair { s.repair with changes := cs }) := by
    simp [addChanges, hmode, hnil]
  have hat : applyChangesAt s.store.frameCount (s.withRepair { s.repair with changes := cs })
      = cs.foldl (applyChange s.store.frameCount) s := by
    rw [applyChangesAt]
    dsimp only [State.withRepair_repair]
    rw [foldl_applyChange_withChanges]
    exact withChanges_self hkept
  have hrun : ¬ (s.withRepair { s.repair with changes := cs }).ctl.mode = .run := by
    rw [State.withRepair_ctl, hmode]; decide
  rw [hadded, applyChanges, if_neg hrun]
  exact congrArg zeroVictims hat

theorem manualRecord_eq (t : Target) (a : DefectAction) (s : State) : manualRecord t a s
    = (s.withRepair { s.repair with
        defects := listWith s (record s t .manual a none false false .manual)
        seqCounter := (s.repair.seqCounter + 1) % 65536 }).withUnit (unitNoted s) := by
  rw [manualRecord, countDefect_eq]
  rfl

/-! ## Cell actions (R124) -/

section
variable {q : Request} (haddr : q.broadcast = false) {s : State} (st : CellState) (a : DefectAction)
include haddr

theorem cellManual_waits (hmode : s.ctl.mode ≠ .standby) : cellManual q st a s
    = ((s.withRepair { s.repair with
        defects := listWith s (record s (.cell (repA q) (repB q)) .manual a none false false .manual)
        seqCounter := (s.repair.seqCounter + 1) % 65536
        changes := s.repair.changes ++ [.cell (repA q) (repB q) st] }).withUnit (unitNoted s)).replying
          (replyOf 0x0C q 0 []) := by
  rw [cellManual, repairOk, answer_addressed haddr, manualRecord_eq, addChanges_waits]
  · rfl
  · exact hmode

theorem cellManual_in_standby (hmode : s.ctl.mode = .standby) (hnil : s.repair.changes = []) : cellManual q st a s
    = (zeroVictims ((s.withRepair { s.repair with
        defects := listWith s (record s (.cell (repA q) (repB q)) .manual a none false false .manual)
        seqCounter := (s.repair.seqCounter + 1) % 65536
        cells := cellSet s.repair.cells (repA q) (repB q) { cellEntry s (repA q) (repB q) with state := st } }).withUnit
          (unitNoted s))).replying (replyOf 0x0C q 0 []) := by
  rw [cellManual, repairOk, answer_addressed haddr, manualRecord_eq, addChanges_in_standby]
  · rfl
  · exact hmode
  · exact hnil

/-- An accepted cell action is carried out. -/
theorem cellActionDone_cellManual (hstandby : s.ctl.mode = .standby → s.repair.changes = []) :
    CellActionDone q st a s (cellManual q st a (atTake kRepair q s))
      ∧ SameButRepair (atTake 0x0C q s) (cellManual q st a (atTake kRepair q s)) := by
  obtain ⟨x, hx⟩ := atTake_withLink kRepair q s
  rw [hx]
  by_cases hmode : s.ctl.mode = .standby
  · rw [cellManual_in_standby haddr st a (s := s.withLink x) hmode (hstandby hmode)]
    exact ⟨⟨rfl, rfl, rfl, fun h => absurd hmode h, rfl, rfl, rfl, rfl,
        fun r l h => cellAt_cellSet_other _ _ _ _ _ _ _ h,
        fun _ hcell => ⟨hstandby hmode, cellAt_cellSet_same _ _ _ _ _ hcell.1 hcell.2⟩⟩,
      ⟨rfl, rfl, rfl, rfl, rfl, rfl, rfl, rfl⟩⟩
  · rw [cellManual_waits haddr st a (s := s.withLink x) hmode]
    exact ⟨⟨rfl, rfl, rfl, fun _ => ⟨rfl, rfl, rfl⟩, rfl, rfl, rfl, rfl, fun _ _ _ => rfl, fun h => absurd h hmode⟩,
      ⟨rfl, rfl, rfl, rfl, rfl, rfl, rfl, rfl⟩⟩

end

/-- An action that fits passes every check but that for a bad die. -/
theorem firstRefusal_of_fits {q : Request} {s : State} (h : CellActionFits q s) {bad : Bool} (hbad : bad = false) :
    firstRefusal (cellChecks (repA q) (repB q) bad s) = none := by
  obtain ⟨hr, hl, hcheck, hchanges, hdefects, -⟩ := h
  refine firstRefusal_eq_none (sameChecks_cell s (repA q) (repB q) bad) ?_
  simp only [List.forall_mem_cons, List.not_mem_nil, false_implies, implies_true, and_true]
  refine ⟨by unfold repA repB; omega, ?_, by omega, by simp [hbad], ?_⟩
  · rintro ⟨c, hc, h | h⟩
    · exact (hcheck c hc).1 h
    · exact (hcheck c hc).2 h
  · rintro ⟨hfull, hnone⟩
    obtain h | ⟨x, hx, hcell⟩ := hdefects
    · omega
    · exact hnone x hx hcell

/-- The four checks of the statement of a cell action that is refused: a full list stands at sixteen entries. -/
theorem sameChecks_cell_sixteen (s : State) (r l : Nat) (bad : Bool) : SameChecks
    [(depth s ≤ r ∨ 144 ≤ l, 4), (∃ c, s.corr.check = some c ∧ (c.die.row = r ∨ c.die.lane = l), 2),
      (16 ≤ s.repair.changes.length, 2), (bad = true, 3),
      (192 ≤ s.repair.defects.length ∧ ∀ x ∈ s.repair.defects, x.target ≠ .cell r l, 7)]
    (cellChecks r l bad s) := by
  have hfull : 16 ≤ s.repair.changes.length ↔ 16 < s.repair.changes.length + 1 := Nat.lt_succ_iff.symm
  simpa only [hfull] using sameChecks_cell s r l bad

/-- Settles O44. -/
theorem manualCellActionsAreJudgedAndDone : Obligations.ManualCellActionsAreJudgedAndDone := by
  unfold Obligations.ManualCellActionsAreJudgedAndDone
  refine ⟨fun q s hfits => ?_, fun q s => ?_⟩
  · have hstandby := hfits.2.2.2.2.2
    refine ⟨fun h hgood => ?_, fun h hgood => ?_, fun h => ?_, fun h => ?_⟩
    · rw [exec_selectA_dispatched h, judged_of_passed (firstRefusal_of_fits hfits (bad := namedBad q .a s) hgood)]
      exact ⟨_, rfl, cellActionDone_cellManual h.addressed _ _ hstandby⟩
    · rw [exec_selectB_dispatched h, judged_of_passed (firstRefusal_of_fits hfits (bad := namedBad q .b s) hgood)]
      exact ⟨_, rfl, cellActionDone_cellManual h.addressed _ _ hstandby⟩
    · rw [exec_conceal_dispatched h, judged_of_passed (firstRefusal_of_fits hfits rfl)]
      exact ⟨_, rfl, cellActionDone_cellManual h.addressed _ _ hstandby⟩
    · rw [exec_forceOff_dispatched h, judged_of_passed (firstRefusal_of_fits hfits rfl)]
      exact ⟨_, rfl, cellActionDone_cellManual h.addressed _ _ hstandby⟩
  · exact ⟨fun h => refusedInOrder_of_judged (exec_selectA_dispatched h) h.addressed (sameChecks_cell_sixteen s _ _ _),
      fun h => refusedInOrder_of_judged (exec_selectB_dispatched h) h.addressed (sameChecks_cell_sixteen s _ _ _),
      fun h => refusedInOrder_of_judged (exec_conceal_dispatched h) h.addressed (sameChecks_cell_sixteen s _ _ _),
      fun h => refusedInOrder_of_judged (exec_forceOff_dispatched h) h.addressed (sameChecks_cell_sixteen s _ _ _)⟩

end Sys2Proof.Machine

/-! The releases, BIND and UNBIND (O46, O47, O48). -/

namespace Sys2Proof.Machine

-- One theorem at a time: elaborated at once, they wait on each other and each holds a thread.
set_option Elab.async false

theorem firstRefusal_of_all_false {checks : List (Bool × ReplyStatus)} (h : ∀ c ∈ checks, c.1 = false) :
    firstRefusal checks = none := by
  rw [firstRefusal, List.find?_eq_none.mpr fun c hc => by simp [h c hc]]
  rfl

theorem checkHasCell_of_none {s : State} (h : s.corr.check = none) (r l : Nat) : checkHasCell s r l = false := by
  rw [checkHasCell, h]

theorem changeRoom_of_length {n : Nat} {s : State} (h : s.repair.changes.length + n ≤ 16) : changeRoom n s = true :=
  (changeRoom_eq_true_iff n s).mpr h

theorem removalEntries_of_some {s : State} {t : Target} {x : Defect} (h : standingRecord s t = some x) :
    removalEntries s t = [.removal x.target x.seq] := by
  rw [removalEntries, h]; rfl

theorem badCell_of_lt {s : State} {r l : Nat} (hr : r < depth s) (hl : l < 144) : badCell s r l = false := by
  simp [badCell, hr, hl]

/-! ## A release in STANDBY (R112, R125) -/

/-- What every release in STANDBY leaves: the record is gone, nothing waits, and the victims are 0. -/
structure ReleasedInStandby (q : Request) (x : Defect) (s t : State) : Prop where
  defects : t.repair.defects = s.repair.defects.filter (fun y => decide (y.target ≠ x.target ∨ y.seq ≠ x.seq))
  changes : t.repair.changes = []
  lanes   : t.repair.lanes = s.repair.lanes
  slots   : t.repair.slots = s.repair.slots
  bind    : t.repair.bind = s.repair.bind
  replies : t.unit.replies = s.unit.replies ++ [replyOf 0x0C q 0 []]
  pulses  : ∀ r' l', cellAt t.comp.pulses r' l' 0
    = if isVictim t r' l' = true ∨ isForcedOff t r' l' = true then 0 else cellAt s.comp.pulses r' l' 0
  comp    : t.comp = { s.comp with pulses := t.comp.pulses }
  others  : SameButRepair (atTake 0x0C q s) t

/-- Once the maps are as released, the removal and the zeroing follow. -/
theorem releasedInStandby_of_moved {q : Request} {x : Defect} {s w : State} (hframe : ListFrame (atTake kRepair q s) w)
    (hmaps : w.repair = { s.repair with cells := w.repair.cells, rows := w.repair.rows }) (hcomp : w.comp = s.comp)
    (hnil : s.repair.changes = []) :
    ReleasedInStandby q x s
      ((zeroVictims (applyChange (atTake kRepair q s).store.frameCount w (.removal x.target x.seq))).replying
        (replyOf 0x0C q 0 [])) := by
  rw [applyChange_removal]
  have hzero := pulse_zeroVictims (w.withRepair { w.repair with
    defects := w.repair.defects.filter fun y => decide (y.target ≠ x.target ∨ y.seq ≠ x.seq) })
  rw [State.withRepair_comp, hcomp] at hzero
  exact
    { defects := by rw [hmaps]; rfl
      changes := by rw [hmaps]; exact hnil
      lanes := by rw [hmaps]; rfl
      slots := by rw [hmaps]; rfl
      bind := by rw [hmaps]; rfl
      replies := by
        show w.unit.replies ++ _ = _
        rw [hframe.replies, atTake_unit]
      pulses := hzero
      comp := by
        show ({ w.comp with pulses := _ } : Composer) = _
        rw [hcomp]; rfl
      others := ⟨hframe.straps, hframe.link, hframe.ctl, hframe.store, hframe.scan, hframe.sense, hframe.track, hframe.corr⟩ }

theorem ReleasedInStandby.all {q : Request} {x : Defect} {s t : State} (h : ReleasedInStandby q x s t) :
    t.repair.defects = s.repair.defects.filter (fun y => decide (y.target ≠ x.target ∨ y.seq ≠ x.seq))
      ∧ t.repair.changes = [] ∧ t.repair.lanes = s.repair.lanes ∧ t.repair.slots = s.repair.slots
      ∧ t.repair.bind = s.repair.bind ∧ t.unit.replies = s.unit.replies ++ [replyOf 0x0C q 0 []]
      ∧ (∀ r' l', cellAt t.comp.pulses r' l' 0
          = if isVictim t r' l' = true ∨ isForcedOff t r' l' = true then 0 else cellAt s.comp.pulses r' l' 0)
      ∧ t.comp = { s.comp with pulses := t.comp.pulses } ∧ SameButRepair (atTake 0x0C q s) t :=
  ⟨h.defects, h.changes, h.lanes, h.slots, h.bind, h.replies, h.pulses, h.comp, h.others⟩

/-! ## RELEASE_CELL and RELEASE_ROW -/

section
variable {q : Request} {s : State} {x : Defect}

theorem repairOk_addChanges_waits (haddr : q.broadcast = false) (hmode : s.ctl.mode ≠ .standby) (cs : List Change) :
    repairOk q (addChanges cs s)
      = (s.withRepair { s.repair with changes := s.repair.changes ++ cs }).replying (replyOf 0x0C q 0 []) := by
  rw [repairOk, answer_addressed haddr, addChanges_waits cs s hmode]
  rfl

theorem repairOk_addChanges_in_standby (haddr : q.broadcast = false) (hmode : s.ctl.mode = .standby)
    (hnil : s.repair.changes = []) (cs : List Change) : repairOk q (addChanges cs s)
      = (zeroVictims (cs.foldl (applyChange s.store.frameCount) s)).replying (replyOf 0x0C q 0 []) := by
  rw [repairOk, answer_addressed haddr, addChanges_in_standby hmode hnil]
  rfl

theorem exec_releaseCell_accepted (h : RepairDispatched 5 q s) (hr : repA q < depth s) (hl : repB q < 144)
    (hcheck : s.corr.check = none) (hchanges : s.repair.changes.length + 2 ≤ 16)
    (hx : standingRecord s (.cell (repA q) (repB q)) = some x) :
    exec (.releaseCell q) s = .next (repairOk q (addChanges
      [.cell (repA q) (repB q) (automaticState (cellEntry s (repA q) (repB q))), .removal x.target x.seq]
      (atTake kRepair q s))) := by
  rw [exec_releaseCell_dispatched h, judged_of_passed (firstRefusal_of_all_false (by
    simp [badCell_of_lt hr hl, checkHasCell_of_none hcheck, changeRoom_of_length hchanges, hx]))]
  obtain ⟨y, hy⟩ := atTake_withLink kRepair q s
  rw [hy, cellReleased, removalEntries_of_some (s := s.withLink y) hx]
  rfl

theorem exec_releaseRow_accepted (h : RepairDispatched 10 q s) (hr : repA q < depth s) (hcheck : s.corr.check = none)
    (hchanges : s.repair.changes.length + 2 ≤ 16) (hx : standingRecord s (.row (repA q)) = some x) :
    exec (.releaseRow q) s = .next (repairOk q (addChanges [.row (repA q) .normal, .removal x.target x.seq]
      (atTake kRepair q s))) := by
  have hrow : checkHasRow s (repA q) = false := by rw [checkHasRow, hcheck]
  rw [exec_releaseRow_dispatched h, judged_of_passed (firstRefusal_of_all_false (by
    simp [hr, hrow, changeRoom_of_length hchanges, hx]))]
  obtain ⟨y, hy⟩ := atTake_withLink kRepair q s
  rw [hy, rowReleased, removalEntries_of_some (s := s.withLink y) hx]

/-- The entries of a RELEASE_DIE: the cell's automatic state, where no other record of the cell stands, and the removal. -/
def dieEntries (s : State) (r l : Nat) (e : CellEntry) (x : Defect) : List Change :=
  (if standingRecord s (.cell r l) = none then [.cell r l (automaticState e)] else []) ++ [.removal x.target x.seq]

theorem exec_releaseDie_accepted {d : Die} (h : RepairDispatched 6 q s) (hr : repA q < depth s) (hl : repB q < 144)
    (hd : repC q = (match d with | .a => 0 | .b => 1)) (hcheck : s.corr.check = none)
    (hchanges : s.repair.changes.length + 2 ≤ 16) (hx : standingRecord s (.die (repA q) (repB q) d) = some x)
    (hcell : HasCell s (repA q) (repB q)) :
    exec (.releaseDie q) s = .next (repairOk q (addChanges
      (dieEntries s (repA q) (repB q) ((cellEntry s (repA q) (repB q)).withHealth d .unknown) x)
      (setHealth ⟨repA q, repB q, d⟩ .unknown (atTake kRepair q s)))) := by
  have hnamed : dieNamed s (repA q) (repB q) (repC q) = some ⟨repA q, repB q, d⟩ := by
    rw [dieNamed_eq_some hr hl (by rw [hd]; cases d <;> decide), hd]
    cases d <;> rfl
  have hroom : changeRoom (if dieReleaseMoves s (repA q) (repB q) then 2 else 1) s = true := by
    refine changeRoom_of_length ?_
    split <;> omega
  rw [exec_releaseDie_dispatched h, dieRelease_atTake hnamed, judged_of_passed (firstRefusal_of_all_false (by
    simp [checkHasCell_of_none hcheck, hroom, hx]))]
  obtain ⟨y, hy⟩ := atTake_withLink kRepair q s
  have hentry : cellEntry (setHealth ⟨repA q, repB q, d⟩ .unknown (s.withLink y)) (repA q) (repB q)
      = (cellEntry s (repA q) (repB q)).withHealth d .unknown :=
    cellEntry_cellSet_same (s := s.withLink y) hcell _
  have hmoves : (if dieReleaseMoves (setHealth ⟨repA q, repB q, d⟩ .unknown (s.withLink y)) (repA q) (repB q) = true then
        [Change.cell (repA q) (repB q) (automaticState ((cellEntry s (repA q) (repB q)).withHealth d .unknown))] else [])
      = if standingRecord s (.cell (repA q) (repB q)) = none then
        [Change.cell (repA q) (repB q) (automaticState ((cellEntry s (repA q) (repB q)).withHealth d .unknown))] else [] := by
    have : dieReleaseMoves (setHealth ⟨repA q, repB q, d⟩ .unknown (s.withLink y)) (repA q) (repB q)
        = (standingRecord s (.cell (repA q) (repB q))).isNone := rfl
    rw [this]
    cases standingRecord s (.cell (repA q) (repB q)) <;> rfl
  rw [hy, dieReleased]
  dsimp only
  rw [hentry, hmoves, removalEntries_of_some (s := setHealth ⟨repA q, repB q, d⟩ .unknown (s.withLink y)) hx]
  rfl

end

theorem hasCell_cellSet {s : State} {r l : Nat} (h : HasCell s r l) (e : CellEntry) :
    HasCell (s.withRepair { s.repair with cells := cellSet s.repair.cells r l e }) r l := by
  obtain ⟨hr, hl⟩ := h
  refine ⟨by simpa using hr, ?_⟩
  simp only [State.withRepair_repair, cellSet, List.getD_eq_getElem?_getD, List.getElem?_set_self hr, Option.getD_some,
    List.length_set]
  simpa [List.getD_eq_getElem?_getD] using hl

/-- Settles O46. -/
theorem releasesUndoRecordedActions : Obligations.ReleasesUndoRecordedActions := by
  unfold Obligations.ReleasesUndoRecordedActions
  refine ⟨fun q s hmode hcheck hchanges => ⟨fun h hr hl => ⟨fun x hx => ?_, fun hnone => ?_⟩,
    fun d x h hr hl hd hx hcell => ?_, fun x h hr hx => ?_⟩, fun q x s hmode hcheck hnil =>
      ⟨fun h hr hl hcell hx => ?_, fun d h hr hl hd hcell hx => ?_, fun h hr hrow hx => ?_⟩⟩
  all_goals obtain ⟨y, hy⟩ := atTake_withLink kRepair q s
  · rw [exec_releaseCell_accepted h hr hl hcheck hchanges hx, hy,
      repairOk_addChanges_waits (s := s.withLink y) h.addressed hmode]
    rfl
  · have hrefused : firstRefusal [(badCell s (repA q) (repB q), .field), (checkHasCell s (repA q) (repB q), .busy),
        (!changeRoom 2 s, .busy), ((standingRecord s (.cell (repA q) (repB q))).isNone, .notFound)]
        = some .notFound := by
      simp only [firstRefusal, badCell_of_lt (s := s) (r := repA q) (l := repB q) hr hl, checkHasCell_of_none hcheck,
        changeRoom_of_length hchanges, show standingRecord s (.cell (repA q) (repB q)) = none from hnone]
      rfl
    rw [exec_releaseCell_dispatched h, judged, hrefused]
    dsimp only
    rw [refuse, answer_addressed h.addressed]
    rfl
  · rw [exec_releaseDie_accepted h hr hl hd hcheck hchanges hx hcell, hy,
      repairOk_addChanges_waits (s := setHealth _ _ (s.withLink y)) h.addressed hmode]
    exact ⟨_, rfl, cellEntry_cellSet_same (s := s.withLink y) hcell _, (List.append_assoc _ _ _).symm, rfl, rfl, rfl, rfl, rfl,
      fun r' l' hother => cellEntry_cellSet_other (s := s.withLink y) hother _, rfl, rfl, rfl,
      ⟨rfl, rfl, rfl, rfl, rfl, rfl, rfl, rfl⟩⟩
  · rw [exec_releaseRow_accepted h hr hcheck hchanges hx, hy, repairOk_addChanges_waits (s := s.withLink y) h.addressed hmode]
    rfl
  · rw [exec_releaseCell_accepted h hr hl hcheck (by rw [hnil]; decide) hx,
      repairOk_addChanges_in_standby h.addressed (by rw [atTake_ctl]; exact hmode) (by rw [atTake_repair]; exact hnil)]
    refine ⟨_, rfl, (releasedInStandby_of_moved (.applyChange _ _ _) ?_ ?_ hnil).all, ?_, ?_, ?_, ?_⟩
    · rw [hy]; rfl
    · rw [hy]; rfl
    · rw [hy]; exact cellEntry_cellSet_same (s := s.withLink y) hcell _
    · rw [hy]; exact fun r' l' hother => cellEntry_cellSet_other (s := s.withLink y) hother _
    · rw [hy]; rfl
    · rw [hy]; rfl
  · have hfew : s.repair.changes.length + 2 ≤ 16 := by rw [hnil]; decide
    rw [exec_releaseDie_accepted h hr hl hd hcheck hfew hx hcell,
      repairOk_addChanges_in_standby h.addressed (by rw [setHealth_eq, State.withRepair_ctl, atTake_ctl]; exact hmode)
        (by rw [setHealth_eq, State.withRepair_repair, atTake_repair]; exact hnil), dieEntries]
    by_cases hstanding : standingRecord s (.cell (repA q) (repB q)) = none
    · rw [if_pos hstanding]
      have hmoved : HasCell (setHealth ⟨repA q, repB q, d⟩ .unknown (s.withLink y)) (repA q) (repB q) :=
        hasCell_cellSet (s := s.withLink y) hcell _
      refine ⟨_, rfl, (releasedInStandby_of_moved
        ((ListFrame.withRepair (atTake kRepair q s) _).trans (.applyChange _ _ _)) ?_ ?_ hnil).all, ?_, ?_, ?_, ?_⟩
      · rw [hy]; rfl
      · rw [hy]; rfl
      · rw [hy]
        refine (cellEntry_cellSet_same hmoved _).trans ?_
        rw [show cellEntry (setHealth ⟨repA q, repB q, d⟩ .unknown (s.withLink y)) (repA q) (repB q)
          = (cellEntry s (repA q) (repB q)).withHealth d .unknown from cellEntry_cellSet_same (s := s.withLink y) hcell _]
        exact (if_pos hstanding).symm
      · rw [hy]
        exact fun r' l' hother => (cellEntry_cellSet_other (s := setHealth ⟨repA q, repB q, d⟩ .unknown (s.withLink y)) hother
          _).trans (cellEntry_cellSet_other (s := s.withLink y) hother _)
      · rw [hy]; rfl
      · rw [hy]; rfl
    · rw [if_neg hstanding]
      refine ⟨_, rfl, (releasedInStandby_of_moved (.withRepair (atTake kRepair q s) _) ?_ ?_ hnil).all, ?_, ?_, ?_, ?_⟩
      · rw [hy]; rfl
      · rw [hy]; rfl
      · rw [hy]; exact (cellEntry_cellSet_same (s := s.withLink y) hcell _).trans (if_neg hstanding).symm
      · rw [hy]; exact fun r' l' hother => cellEntry_cellSet_other (s := s.withLink y) hother _
      · rw [hy]; rfl
      · rw [hy]; rfl
  · have hfew : s.repair.changes.length + 2 ≤ 16 := by rw [hnil]; decide
    rw [exec_releaseRow_accepted h hr hcheck hfew hx,
      repairOk_addChanges_in_standby h.addressed (by rw [atTake_ctl]; exact hmode) (by rw [atTake_repair]; exact hnil)]
    have hmoved := applyChange_row (atTake kRepair q s).store.frameCount (atTake kRepair q s) (repA q) .normal
    refine ⟨_, rfl, (releasedInStandby_of_moved (.applyChange _ _ _) ?_ ?_ hnil).all, ?_, ?_, ?_⟩
    · rw [hmoved, hy]; rfl
    · rw [hmoved, hy]; split <;> simp
    · show (applyChange _ _ _).repair.rows = _
      rw [hmoved, hy]; rfl
    · show (applyChange _ _ _).repair.cells = _
      rw [hmoved, hy]; rfl
    · show (applyChange _ _ _).unit.notices = _
      rw [hmoved, hy, show rowNow (s.withLink y) (repA q) = rowNow s (repA q) from rfl]
      show _ = ({ s.unit.notices with
        rowLost := s.unit.notices.rowLost || (decide (rowNow s (repA q) = .lost) && s.unit.params.noticeMask.rowLost) } :
          NoticeFlags)
      cases hrow' : rowNow s (repA q) with
      | normal => simp
      | lost => rw [if_neg (by decide), raise_or]; rfl

/-! ## BIND (R126) -/

section
variable {s : State} (hnil : s.repair.changes = [])
include hnil

/-! With no change waiting, the planned state is the current one. -/

theorem plannedCell_of_nil (r l : Nat) : plannedCell s r l = (cellEntry s r l).state := by
  rw [plannedCell, hnil]; rfl

theorem plannedLane_of_nil (l : Nat) : plannedLane s l = laneNow s l := by rw [plannedLane, hnil]; rfl

theorem plannedRow_of_nil (r : Nat) : plannedRow s r = rowNow s r := by rw [plannedRow, hnil]; rfl

theorem plannedSlot_of_nil (k : Nat) : plannedSlot s k = slotNow s k := by
  rw [plannedSlot, slotsPlanned, hnil, List.foldl_nil]
  cases h : s.repair.slots.getD k .failed <;> simp only [slotNow, h]

end

/-- A search of the rows of the tile finds the first that has a value. -/
theorem findSome_range {α : Type} {f : Nat → Option α} {n r : Nat} {x : α} (hr : r < n) (hx : f r = some x)
    (hbefore : ∀ i, i < r → f i = none) : (List.range n).findSome? f = some x := by
  rw [List.findSome?_eq_some_iff]
  refine ⟨List.range r, r, (List.range n).drop (r + 1), ?_, hx, fun i hi => hbefore i (List.mem_range.mp hi)⟩
  have htake : (List.range n).take r = List.range r := by rw [List.take_range, Nat.min_eq_left hr.le]
  have hsplit := List.take_append_drop r (List.range n)
  rw [htake, List.drop_eq_getElem_cons (by simpa using hr), List.getElem_range] at hsplit
  exact hsplit.symm

theorem bindDieAt_of_qualifies {s : State} {x : DieRef} (hrow : plannedRow s x.row = .normal)
    (hselected : (plannedCell s x.row x.lane).selected = some x.die) (hgood : (healthOf s x).bad = false) :
    bindDieAt s x.lane x.row = some x := by
  rw [healthOf] at hgood
  simp [bindDieAt, hrow, hselected, hgood]

theorem exec_bind_accepted {q : Request} {s : State} {x : DieRef} (h : RepairDispatched 7 q s)
    (hpassed : firstRefusal (bindChecks q s) = none) (hdie : bindDie s (repB q) = some x) :
    exec (.bind q) s = .next (bindAccepted q x (atTake kRepair q s)) := by
  have hdie' : bindDie (atTake kRepair q s) (repB q) = some x := by
    obtain ⟨y, hy⟩ := atTake_withLink kRepair q s
    rw [hy]; exact hdie
  rw [exec_bind_dispatched h, judged_of_passed hpassed, bindTaken, hdie']

/-- Settles O47. -/
theorem bindReservesTheSlot : Obligations.BindReservesTheSlot := by
  unfold Obligations.BindReservesTheSlot
  intro q x s h hlane hgroup hcheck hbind hnil hfree hlaneNow htarget hdefects hx hrow hnormal hselected hgood hbefore
  have hdie : bindDie s (repB q) = some x := by
    refine findSome_range hrow ?_ fun i hi => ?_
    · have hqualifies := bindDieAt_of_qualifies (s := s) (x := x) (by rw [plannedRow_of_nil hnil]; exact hnormal)
        (by rw [plannedCell_of_nil hnil]; exact hselected) hgood
      rwa [hx] at hqualifies
    · have hskip := hbefore i hi
      rw [hx] at hskip
      rw [bindDieAt_eq_none_iff, plannedRow_of_nil hnil, plannedCell_of_nil hnil]
      exact hskip
  have hslot : repC q < 12 := by
    have : byteAt q.payload 3 / 2 = byteAt q.payload 2 / 24 := hgroup
    show byteAt q.payload 3 < 12
    omega
  have hheld : laneHeld s (repB q) = false := by
    rw [Bool.eq_false_iff, Ne, laneHeld_iff, plannedLane_of_nil hnil]
    rintro (⟨j, hj⟩ | ⟨z, hz, hto⟩)
    · obtain hnow | hnow := hlaneNow <;> exact nomatch hnow.symm.trans hj
    · exact htarget z hz ((target_eq_some_iff z _).mpr hto)
  have hplanned : plannedSlot s (repC q) = .free := (plannedSlot_of_nil hnil _).trans hfree
  have hcontains : (slotsOf (repB q)).contains (repC q) = true := (contains_slotsOf_iff _ _).mpr hgroup
  have hroom : recordRoom s (.lane (repB q)) = true := (recordRoom_eq_true_iff s _).mpr (.inl hdefects)
  have hlanes : repB q < 144 := hlane
  have hpassed : firstRefusal (bindChecks q s) = none := firstRefusal_of_all_false (by
    simp only [bindChecks, List.forall_mem_cons, hcontains, hcheck, hbind, hdie, hplanned, hheld, hroom]
    simp [hlanes, hslot])
  rw [exec_bind_accepted h hpassed hdie, bindAccepted]
  obtain ⟨y, hy⟩ := atTake_withLink kRepair q s
  rw [hy]
  rfl

/-! ## UNBIND (R128) -/

section
variable {q : Request} {s : State} {x : Defect}

/-- The entries of an UNBIND of a lane: to NORMAL where it is planned otherwise, and the removal. -/
def unbindEntries (s : State) (l : Nat) (x : Defect) : List Change :=
  (if plannedLane s l = .normal then [] else [.lane l .normal .free]) ++ [.removal x.target x.seq]

theorem exec_unbindLane_accepted (h : RepairDispatched 8 q s) (hl : repB q < 144) (hcheck : s.corr.check = none)
    (hbind : s.repair.bind = none) (hchanges : s.repair.changes.length + 2 ≤ 16)
    (hx : standingRecord s (.lane (repB q)) = some x) :
    exec (.unbindLane q) s = .next (repairOk q (addChanges (unbindEntries s (repB q) x) (atTake kRepair q s))) := by
  have hlane : checkHasLane s (repB q) = false := by rw [checkHasLane, hcheck]
  have hon : bindOn s (repB q) = false := by rw [bindOn, hbind]
  have hroom : changeRoom (if unbindMoves s (repB q) then 2 else 1) s = true := by
    refine changeRoom_of_length ?_
    split <;> omega
  have hmoves : (if unbindMoves s (repB q) = true then [Change.lane (repB q) .normal .free] else [])
      = if plannedLane s (repB q) = .normal then [] else [Change.lane (repB q) .normal .free] := by
    rw [unbindMoves]
    by_cases hnormal : plannedLane s (repB q) = .normal <;> simp [hnormal]
  rw [exec_unbindLane_dispatched h, judged_of_passed (firstRefusal_of_all_false (by
    simp [hl, hlane, hon, hroom, hx]))]
  obtain ⟨y, hy⟩ := atTake_withLink kRepair q s
  rw [hy, laneUnbound, removalEntries_of_some (s := s.withLink y) hx,
    show unbindMoves (s.withLink y) (repB q) = unbindMoves s (repB q) from rfl, hmoves]
  rfl

end

/-- What an UNBIND in STANDBY leaves, once the lane's own part `w` is done: the record is gone and the victims are 0. -/
theorem unbound_of_moved {q : Request} {x : Defect} {s w : State} (hframe : ListFrame (atTake kRepair q s) w)
    (hmaps : w.repair = { s.repair with lanes := w.repair.lanes, slots := w.repair.slots }) (hcomp : w.comp = s.comp)
    (hnil : s.repair.changes = []) :
    let t := (zeroVictims (applyChange (atTake kRepair q s).store.frameCount w (.removal x.target x.seq))).replying
      (replyOf 0x0C q 0 [])
    t.repair.defects = s.repair.defects.filter (fun y => decide (y.target ≠ x.target ∨ y.seq ≠ x.seq))
      ∧ t.repair.changes = [] ∧ t.repair.cells = s.repair.cells ∧ t.repair.rows = s.repair.rows
      ∧ t.unit.replies = s.unit.replies ++ [replyOf 0x0C q 0 []]
      ∧ (∀ r l, cellAt t.comp.pulses r l 0
          = if isVictim t r l = true ∨ isForcedOff t r l = true then 0 else cellAt s.comp.pulses r l 0)
      ∧ t.comp = { s.comp with pulses := t.comp.pulses } ∧ SameButRepair (atTake 0x0C q s) t := by
  intro t
  have ht : t = (zeroVictims (w.withRepair { w.repair with
      defects := w.repair.defects.filter fun y => decide (y.target ≠ x.target ∨ y.seq ≠ x.seq) })).replying
        (replyOf 0x0C q 0 []) := by
    rw [← applyChange_removal (atTake kRepair q s).store.frameCount]
  have hzero := pulse_zeroVictims (w.withRepair { w.repair with
    defects := w.repair.defects.filter fun y => decide (y.target ≠ x.target ∨ y.seq ≠ x.seq) })
  rw [State.withRepair_comp, hcomp] at hzero
  rw [ht]
  refine ⟨?_, ?_, ?_, ?_, ?_, hzero, ?_, ⟨hframe.straps, hframe.link, hframe.ctl, hframe.store, hframe.scan, hframe.sense,
    hframe.track, hframe.corr⟩⟩
  · rw [hmaps]; rfl
  · rw [hmaps]; exact hnil
  · rw [hmaps]; rfl
  · rw [hmaps]; rfl
  · show w.unit.replies ++ _ = _
    rw [hframe.replies, atTake_unit]
  · show ({ w.comp with pulses := _ } : Composer) = _
    rw [hcomp]; rfl

/-- Settles O48. -/
theorem unbindFreesLanesAndSlots : Obligations.UnbindFreesLanesAndSlots := by
  unfold Obligations.UnbindFreesLanesAndSlots
  refine fun q s => ⟨fun x h hmode hl hcheck hbind hchanges hx => ?_,
    fun x h hmode hl hcheck hbind hnil hx hlanes => ?_, fun h hk => ⟨fun hfailed => ?_, fun hother => ?_⟩⟩
  all_goals obtain ⟨y, hy⟩ := atTake_withLink kRepair q s
  · rw [exec_unbindLane_accepted h hl hcheck hbind hchanges hx, hy,
      repairOk_addChanges_waits (s := s.withLink y) h.addressed hmode, unbindEntries, List.append_assoc]
    rfl
  · rw [exec_unbindLane_accepted h hl hcheck hbind (by rw [hnil]; decide) hx,
      repairOk_addChanges_in_standby h.addressed (by rw [atTake_ctl]; exact hmode) (by rw [atTake_repair]; exact hnil),
      unbindEntries, plannedLane_of_nil hnil]
    by_cases hnormal : laneNow s (repB q) = .normal
    · rw [if_pos hnormal]
      refine ⟨_, rfl, ?_, ?_, fun k hk => ?_, fun _ => ?_, fun hmoves => ?_,
        unbound_of_moved (.refl (atTake kRepair q s)) ?_ ?_ hnil⟩
      · rw [hy]; exact hnormal
      · rw [hy]; exact fun _ _ => rfl
      · rw [hy, if_neg fun hboth => hboth.1 hnormal]; rfl
      · rw [hy]; rfl
      · obtain hdark | ⟨hother, -⟩ := hmoves
        · exact nomatch hnormal.symm.trans hdark
        · exact absurd hnormal hother
      · rw [hy]; rfl
      · rw [hy]; rfl
    · rw [if_neg hnormal]
      have hmoved := applyChange_lane (atTake kRepair q s).store.frameCount (atTake kRepair q s) (repB q) .normal .free
      refine ⟨_, rfl, ?_, fun l hl' => ?_, fun k hk => ?_, fun hsame => absurd hsame hnormal, fun hmoves => ?_,
        unbound_of_moved (.applyChange _ (atTake kRepair q s) _) ?_ ?_ hnil⟩
      · refine laneNow_set_same (s := s) (st := .normal) (?_ : (applyChange _ _ _).repair.lanes = _) (by rw [hlanes]; exact hl)
        rw [hmoved, hy]; rfl
      · refine laneNow_set_other (s := s) (st := .normal) (?_ : (applyChange _ _ _).repair.lanes = _) hl'
        rw [hmoved, hy]; rfl
      · refine (slotNow_slotsAfter (s := s) (l := repB q) (st := .normal) (disp := .free) (frame := s.store.frameCount)
          (?_ : (applyChange _ _ _).repair.slots = _) hk).trans ?_
        · rw [hmoved, hy]; rfl
        · rw [if_neg (fun h => nomatch h)]
          by_cases hbound : (slotNow s k).boundTo (repB q) = true
          · rw [if_pos hbound]; exact (if_pos ⟨hnormal, hbound⟩).symm
          · rw [if_neg hbound]; exact (if_neg fun hboth => hbound hboth.2).symm
      · have hshows : laneChangeShows (s.withLink y) (repB q) .normal .free (s.withLink y).store.frameCount = true := by
          rw [laneChangeShows_iff]
          obtain hdark | ⟨-, hbound⟩ := hmoves
          · exact .inr (.inr ⟨fun _ => LaneState.noConfusion, fun _ => hdark⟩)
          · exact .inr (.inl hbound)
        show (applyChange _ _ _).unit.notices = _
        rw [hmoved, hy, if_pos hshows, raise_or]
        rfl
      · rw [hmoved, hy]; split <;> simp [laneMoved]
      · rw [hmoved, hy]; split <;> simp
  · rw [exec_unbindSlot_dispatched h, judged_of_passed (firstRefusal_of_all_false (by
      simp [show repC q < 12 from hk, show slotNow s (repC q) = .failed from hfailed])), slotUnbound, repairOk,
      answer_addressed h.addressed, hy]
    rfl
  · have hrefused : firstRefusal [(decide (Config.spareSlots ≤ repC q), .field), (!(slotNow s (repC q) == .failed), .state)]
        = some .state := by
      have hslot : slotNow s (repC q) ≠ .failed := hother
      have hlow : ¬ Config.spareSlots ≤ repC q := Nat.not_le_of_lt hk
      simp [firstRefusal, hslot, hlow]
    rw [exec_unbindSlot_dispatched h, judged, hrefused]
    dsimp only
    rw [refuse, answer_addressed h.addressed]
    rfl

end Sys2Proof.Machine

/-! LOAD_DEFECTS: a record judged and applied, and the records in their order (O49). -/

namespace Sys2Proof.Machine

-- One theorem at a time: elaborated at once, they wait on each other and each holds a thread.
set_option Elab.async false

/-! ## Removals while no record is HELD (R83 to R86) -/

theorem renumber_of_none_held {xs : List Suspect} (h : ∀ x ∈ xs, x.held = none) : renumber xs = xs := by
  rw [renumber]
  conv_rhs => rw [← List.map_id xs]
  exact List.map_congr_left fun x hx => by simp [h x hx]

theorem fillOnce_of_none_held {s : State} (h : ∀ x ∈ s.track.suspects, x.held = none) : fillOnce s = s := by
  have hfind : s.track.suspects.find? Suspect.isFirstHeld = none :=
    List.find?_eq_none.mpr fun x hx => by simp [Suspect.isFirstHeld, h x hx]
  rw [fillOnce, hfind]
  split <;> rfl

theorem fillHeld_of_none_held {s : State} (h : ∀ x ∈ s.track.suspects, x.held = none) : fillHeld s = s := by
  have hfixed : ∀ xs : List Nat, xs.foldl (fun t _ => fillOnce t) s = s := fun xs =>
    List.foldlRecOn (motive := fun t : State => t = s) _ _ rfl fun _ ht _ _ => by rw [ht, fillOnce_of_none_held h]
  exact hfixed _

/-- With no HELD record a removal takes out the records and the descriptors of its dies, and no more. -/
theorem removeDies_of_none_held {s : State} (h : ∀ x ∈ s.track.suspects, x.held = none) (p : DieRef → Bool) :
    removeDies p s
      = s.withTrack ⟨s.track.suspects.filter fun x => !p x.die, s.track.queue.filter fun x => !p x.die⟩ := by
  have hkept : ∀ x ∈ s.track.suspects.filter fun x => !p x.die, x.held = none := fun x hx => h x (List.mem_filter.mp hx).1
  rw [removeDies, renumber_of_none_held hkept, fillHeld_of_none_held]
  exact hkept

theorem removeDies_track_of_none_held {s : State} (h : ∀ x ∈ s.track.suspects, x.held = none) (p : DieRef → Bool) :
    (removeDies p s).track
      = ⟨s.track.suspects.filter fun x => !p x.die, s.track.queue.filter fun x => !p x.die⟩ := by
  rw [removeDies_of_none_held h]; rfl

/-! ## A record applied (R139) -/

/-- The Repair Engine with a loaded record at the tail of its list. -/
def repairWith (s : State) (x : Defect) : Repair :=
  { s.repair with
    defects := s.repair.defects ++ [{ x with seq := s.repair.seqCounter, origin := .loaded }]
    seqCounter := (s.repair.seqCounter + 1) % 65536 }

theorem addRecord_of_new {s : State} {x : Defect} (hnew : ∀ y ∈ s.repair.defects, y.target ≠ x.target)
    (horigin : x.origin = .loaded) : addRecord x s = s.withRepair (repairWith s x) := by
  have hkept : s.repair.defects.filter (fun y => !(y.target == x.target)) = s.repair.defects :=
    List.filter_eq_self.mpr fun y hy => by simp [hnew y hy]
  rw [addRecord, hkept, repairWith, ← horigin]

theorem automaticState_eq (e : CellEntry) : automaticState e
    = if e.healthA.bad = false then .aActive else if e.healthB.bad = false then .bActive else .concealed := by
  rw [automaticState]
  cases e.healthA.bad <;> cases e.healthB.bad <;> rfl

theorem cellEntry_set {s t : State} {r l r' l' : Nat} {e : CellEntry} (ht : t.repair.cells = cellSet s.repair.cells r' l' e)
    (h : HasCell s r l) : cellEntry t r l = if r = r' ∧ l = l' then e else cellEntry s r l := by
  rw [cellEntry, ht]
  split
  · next hsame => obtain ⟨rfl, rfl⟩ := hsame; exact cellAt_cellSet_same _ _ _ _ _ h.1 h.2
  · next hother => exact cellAt_cellSet_other _ _ _ _ _ _ _ (by omega)

theorem rowNow_set {s t : State} {r r' : Nat} {st : RowState} (ht : t.repair.rows = s.repair.rows.set r' st)
    (h : r < s.repair.rows.length) : rowNow t r = if r = r' then st else rowNow s r := by
  rw [rowNow, ht]
  split
  · next hsame => subst hsame; simp [List.getD_eq_getElem?_getD, h]
  · next hother => simp [rowNow, List.getD_eq_getElem?_getD, Ne.symm hother]

theorem laneNow_set {s t : State} {l l' : Nat} {st : LaneState} (ht : t.repair.lanes = s.repair.lanes.set l' st)
    (h : l < s.repair.lanes.length) : laneNow t l = if l = l' then st else laneNow s l := by
  split
  · next hsame => subst hsame; exact laneNow_set_same ht h
  · next hother => exact laneNow_set_other ht hother

theorem slotNow_mem {s : State} {k : Nat} (h : k < s.repair.slots.length) : slotNow s k ∈ s.repair.slots := by
  rw [slotNow, List.getD_eq_getElem _ _ h]
  exact List.getElem_mem h

/-- Slots after a lane change that displaces none. -/
theorem slotNow_slotsAfter_of_unbound {s t : State} {l k : Nat} {st : LaneState} {disp : Disposition} {frame : Nat}
    (ht : t.repair.slots = slotsAfter s.repair.slots l st disp frame) (hk : k < s.repair.slots.length)
    (hfree : ∀ f, .bound l f ∉ s.repair.slots) :
    slotNow t k = if st = .spared k then .bound l frame else slotNow s k := by
  have hunbound : (slotNow s k).boundTo l = false := by
    cases hslot : slotNow s k with
    | bound l' f =>
      have hother : l' ≠ l := fun h => hfree f (h ▸ hslot ▸ slotNow_mem hk)
      simp [SlotState.boundTo, hother]
    | _ => rfl
  rw [slotNow_slotsAfter ht hk, hunbound]
  rfl

/-- Two ways to say which dies a removal takes, with no HELD record (R84 to R86). -/
theorem removeDies_track_eq {s : State} (hheld : ∀ y ∈ s.track.suspects, y.held = none) {p gone : DieRef → Bool}
    (h : ∀ d, p d = gone d) : (removeDies p s).track
      = ⟨s.track.suspects.filter fun y => !gone y.die, s.track.queue.filter fun y => !gone y.die⟩ := by
  rw [removeDies_track_of_none_held hheld, show p = gone from funext h]

/-- A removal of no die. -/
theorem track_eq_of_gone_none (s : State) {gone : DieRef → Bool} (h : ∀ d, gone d = false) : s.track
    = ⟨s.track.suspects.filter fun y => !gone y.die, s.track.queue.filter fun y => !gone y.die⟩ := by
  simp [h]

/-- A write to the table keeps the cells that it holds. -/
theorem hasCell_of_cellSet {s t : State} {r l r' l' : Nat} {e : CellEntry} (ht : t.repair.cells = cellSet s.repair.cells r' l' e)
    (h : HasCell s r l) : HasCell t r l := by
  obtain ⟨hr, hl⟩ := h
  rw [HasCell, ht]
  refine ⟨by simpa using hr, ?_⟩
  by_cases hrow : r = r'
  · subst hrow
    simpa [cellSet, List.getD_eq_getElem?_getD, hr] using hl
  · simpa [cellSet, List.getD_eq_getElem?_getD, Ne.symm hrow] using hl

/-- The table that a DIE record leaves: the health, and with an action the automatic state. -/
def dieCells (x : Defect) (r l : Nat) (d : Die) (s : State) : CellTable CellEntry :=
  let u := setHealth ⟨r, l, d⟩ (loadedHealth x.kind) s
  if x.action = .none then u.repair.cells
  else cellSet u.repair.cells r l { cellEntry u r l with state := automaticState (cellEntry u r l) }

theorem loadEffect_die {x : Defect} {r l : Nat} {d : Die} (htarget : x.target = .die r l d) (s : State) :
    loadEffect x s = removeDies (· == ⟨r, l, d⟩) (s.withRepair { s.repair with cells := dieCells x r l d s }) := by
  unfold loadEffect dieCells
  rw [htarget]
  cases haction : x.action <;> exact congrArg (removeDies _) rfl

/-- An entry of the table that a DIE record leaves. -/
theorem cellEntry_dieCells {s t : State} {x : Defect} {r l r' l' : Nat} {d : Die}
    (ht : t.repair.cells = dieCells x r l d s) (h : HasCell s r' l') :
    cellEntry t r' l' = if r' = r ∧ l' = l then
        let e := (cellEntry s r' l').withHealth d (loadedHealth x.kind)
        if x.action = .none then e
        else { e with
          state := if e.healthA.bad = false then .aActive else if e.healthB.bad = false then .bActive else .concealed }
      else cellEntry s r' l' := by
  let u := setHealth ⟨r, l, d⟩ (loadedHealth x.kind) s
  have hu (h' : HasCell s r' l') : cellEntry u r' l'
      = if r' = r ∧ l' = l then (cellEntry s r l).withHealth d (loadedHealth x.kind) else cellEntry s r' l' :=
    cellEntry_set rfl h'
  by_cases haction : x.action = .none
  · have hcells : t.repair.cells = u.repair.cells := ht.trans (if_pos haction)
    rw [cellEntry, hcells]
    refine (hu h).trans ?_
    split
    · next hhere => obtain ⟨rfl, rfl⟩ := hhere; rfl
    · rfl
  · have hcells : t.repair.cells = cellSet u.repair.cells r l
        { cellEntry u r l with state := automaticState (cellEntry u r l) } := ht.trans (if_neg haction)
    rw [cellEntry_set hcells (hasCell_of_cellSet (s := s) rfl h), hu h]
    split
    · next hhere =>
      obtain ⟨rfl, rfl⟩ := hhere
      rw [hu h, if_pos ⟨rfl, rfl⟩, automaticState_eq]
    · rfl

section
variable {s : State} {x : Defect} (hnew : ∀ y ∈ s.repair.defects, y.target ≠ x.target) (horigin : x.origin = .loaded)
include hnew horigin

/-- The state after an accepted record, by what its effect does to the maps and to the tracker. -/
theorem loadAccepted_of_effect {r : Repair} {p : DieRef → Bool}
    (h : loadEffect x (s.withRepair (repairWith s x)) = removeDies p (s.withRepair r)) :
    loadAccepted x s = zeroVictims ((s.withRepair r).withTrack (removeDies p (s.withRepair r)).track) := by
  rw [loadAccepted, addRecord_of_new hnew horigin, h, ← removeDies_eq]

theorem loadAccepted_of_still {r : Repair} (h : loadEffect x (s.withRepair (repairWith s x)) = s.withRepair r) :
    loadAccepted x s = zeroVictims (s.withRepair r) := by
  rw [loadAccepted, addRecord_of_new hnew horigin, h]

/-- A DIE record: the health, and with an action the automatic state. -/
theorem recordApplied_die {r l : Nat} {d : Die} (htarget : x.target = .die r l d)
    (hkind : x.kind = .openDie ∨ x.kind = .shortDie ∨ x.kind = .intermittent) :
    RecordApplied x s (loadAccepted x s) := by
  have hhealth : loadedHealth x.kind = (match x.kind with | .openDie => .openDie | .shortDie => .shortDie | _ => .flaky) := by
    obtain h | h | h := hkind <;> rw [h] <;> rfl
  rw [loadAccepted_of_effect hnew horigin (loadEffect_die htarget _)]
  generalize htrack : (removeDies (fun y => y == ⟨r, l, d⟩) _).track = track
  generalize hcells : dieCells x r l d _ = cells
  exact
    { defects := rfl
      counter := rfl
      cells := fun r' l' h => by
        rw [htarget]
        refine (cellEntry_dieCells (s := s.withRepair (repairWith s x)) hcells.symm h).trans ?_
        rw [hhealth]
        rfl
      lanes := fun _ _ => by rw [htarget]; rfl
      slots := fun _ _ _ => by rw [htarget]; rfl
      rows := fun _ _ => by rw [htarget]; rfl
      track := fun hheld => by
        intro gone
        have hgone := removeDies_track_eq (s := s.withRepair { repairWith s x with
          cells := dieCells x r l d (s.withRepair (repairWith s x)) }) (p := fun y => y == ⟨r, l, d⟩) (gone := gone) hheld
          fun y => by simp [gone, htarget, beq_eq_decide]
        exact htrack.symm.trans hgone
      pulses := pulse_zeroVictims _
      comp := rfl
      repair := rfl
      unit := rfl
      others := ⟨rfl, rfl, rfl, rfl, rfl, rfl, rfl, rfl⟩ }

/-- A ROW record: with ROW_CONCEAL the row is LOST. -/
theorem recordApplied_row {r : Nat} (htarget : x.target = .row r) (haction : x.action = .rowConceal ∨ x.action = .none) : RecordApplied x s (loadAccepted x s) := by
  obtain haction | haction := haction
  · have heffect : loadEffect x (s.withRepair (repairWith s x))
        = removeDies (·.row == r) (s.withRepair { repairWith s x with rows := s.repair.rows.set r .lost }) := by
      rw [loadEffect, htarget, haction]; rfl
    rw [loadAccepted_of_effect hnew horigin heffect]
    generalize htrack : (removeDies (fun y => y.row == r) _).track = track
    exact
      { defects := rfl
        counter := rfl
        cells := fun _ _ _ => by rw [htarget]; rfl
        lanes := fun _ _ => by rw [htarget]; rfl
        slots := fun _ _ _ => by rw [htarget]; rfl
        rows := fun r' h => by rw [htarget, haction]; exact rowNow_set (s := s) rfl h
        track := fun hheld => by
          intro gone
          have hgone := removeDies_track_eq (s := s.withRepair { repairWith s x with rows := s.repair.rows.set r .lost })
            (p := fun y => y.row == r) (gone := gone) hheld fun y => by simp [gone, htarget, haction, beq_eq_decide]
          exact htrack.symm.trans hgone
        pulses := pulse_zeroVictims _
        comp := rfl
        repair := rfl
        unit := rfl
        others := ⟨rfl, rfl, rfl, rfl, rfl, rfl, rfl, rfl⟩ }
  · have heffect : loadEffect x (s.withRepair (repairWith s x)) = s.withRepair (repairWith s x) := by
      rw [loadEffect, htarget, haction]
    rw [loadAccepted_of_still hnew horigin heffect]
    exact
      { defects := rfl
        counter := rfl
        cells := fun _ _ _ => by rw [htarget]; rfl
        lanes := fun _ _ => by rw [htarget]; rfl
        slots := fun _ _ _ => by rw [htarget]; rfl
        rows := fun _ _ => by rw [htarget, haction]; rfl
        track := fun _ => by
          intro gone
          exact track_eq_of_gone_none s (gone := gone) fun y => by simp [gone, htarget, haction]
        pulses := pulse_zeroVictims _
        comp := rfl
        repair := rfl
        unit := rfl
        others := ⟨rfl, rfl, rfl, rfl, rfl, rfl, rfl, rfl⟩ }

/-- A CELL record: the state that its action names. -/
theorem recordApplied_cell {r l : Nat} {st : CellState} (htarget : x.target = .cell r l)
    (haction : cellStateOf x.action = some st) : RecordApplied x s (loadAccepted x s) := by
  have hstate : (match x.action with
      | .selectA => .aActive | .selectB => .bActive | .conceal => .concealed | .forceOff => .forcedOff
      | _ => (cellEntry s r l).state) = st := by
    revert haction
    cases x.action <;> simp [cellStateOf]
  have heffect : loadEffect x (s.withRepair (repairWith s x)) = s.withRepair { repairWith s x with
      cells := cellSet s.repair.cells r l { cellEntry s r l with state := st } } := by
    unfold loadEffect
    rw [htarget]
    cases h : x.action <;> rw [h] at haction <;> simp [cellStateOf] at haction <;> subst haction <;> rfl
  rw [loadAccepted_of_still hnew horigin heffect]
  exact
    { defects := rfl
      counter := rfl
      cells := fun r' l' h => by
        rw [htarget]
        refine (cellEntry_set (s := s) rfl h).trans ?_
        split
        · next hhere =>
          obtain ⟨rfl, rfl⟩ := hhere
          rw [← hstate]
          exact (if_pos ⟨rfl, rfl⟩).symm
        · next hother => exact (if_neg hother).symm
      lanes := fun _ _ => by rw [htarget]; rfl
      slots := fun _ _ _ => by rw [htarget]; rfl
      rows := fun _ _ => by rw [htarget]; rfl
      track := fun _ => by
        intro gone
        exact track_eq_of_gone_none s (gone := gone) fun y => by simp [gone, htarget]
      pulses := pulse_zeroVictims _
      comp := rfl
      repair := rfl
      unit := rfl
      others := ⟨rfl, rfl, rfl, rfl, rfl, rfl, rfl, rfl⟩ }

/-- A LANE record: the lane SPARED by its slot, DARK, or as it was. -/
theorem recordApplied_lane {l : Nat} (htarget : x.target = .lane l)
    (haction : (x.action = .spareBound ∧ ∃ k, x.slot = some k) ∨ (x.action = .laneDark ∧ x.slot = none)
      ∨ (x.action = .none ∧ x.slot = none)) : RecordApplied x s (loadAccepted x s) := by
  obtain ⟨haction, k, hslot⟩ | ⟨haction, hslot⟩ | ⟨haction, hslot⟩ := haction
  · have heffect : loadEffect x (s.withRepair (repairWith s x)) = s.withRepair { repairWith s x with
        slots := slotsAfter s.repair.slots l (.spared k) .free s.store.frameCount
        lanes := s.repair.lanes.set l (.spared k) } := by
      rw [loadEffect, htarget, haction, hslot]; rfl
    rw [loadAccepted_of_still hnew horigin heffect]
    exact
      { defects := rfl
        counter := rfl
        cells := fun _ _ _ => by rw [htarget]; rfl
        lanes := fun l' h => by rw [htarget, haction, hslot]; exact laneNow_set (s := s) rfl h
        slots := fun hfree k' h => by
          rw [htarget, hslot]
          refine (slotNow_slotsAfter_of_unbound (s := s) rfl h fun f => hfree l f htarget).trans ?_
          simp only [LaneState.spared.injEq, eq_comm]
        rows := fun _ _ => by rw [htarget]; rfl
        track := fun _ => by
          intro gone
          exact track_eq_of_gone_none s (gone := gone) fun y => by simp [gone, htarget, haction]
        pulses := pulse_zeroVictims _
        comp := rfl
        repair := rfl
        unit := rfl
        others := ⟨rfl, rfl, rfl, rfl, rfl, rfl, rfl, rfl⟩ }
  · have heffect : loadEffect x (s.withRepair (repairWith s x)) = removeDies (·.lane == l) (s.withRepair { repairWith s x with
        slots := slotsAfter s.repair.slots l .dark .free s.store.frameCount, lanes := s.repair.lanes.set l .dark }) := by
      rw [loadEffect, htarget, haction]; rfl
    rw [loadAccepted_of_effect hnew horigin heffect]
    generalize htrack : (removeDies (fun y => y.lane == l) _).track = track
    exact
      { defects := rfl
        counter := rfl
        cells := fun _ _ _ => by rw [htarget]; rfl
        lanes := fun l' h => by rw [htarget, haction]; exact laneNow_set (s := s) rfl h
        slots := fun hfree k' h => by
          rw [htarget, hslot]
          exact (slotNow_slotsAfter_of_unbound (s := s) rfl h fun f => hfree l f htarget).trans (if_neg LaneState.noConfusion)
        rows := fun _ _ => by rw [htarget]; rfl
        track := fun hheld => by
          intro gone
          have hgone := removeDies_track_eq (s := s.withRepair { repairWith s x with
            slots := slotsAfter s.repair.slots l .dark .free s.store.frameCount, lanes := s.repair.lanes.set l .dark })
            (p := fun y => y.lane == l) (gone := gone) hheld fun y => by simp [gone, htarget, haction, beq_eq_decide]
          exact htrack.symm.trans hgone
        pulses := pulse_zeroVictims _
        comp := rfl
        repair := rfl
        unit := rfl
        others := ⟨rfl, rfl, rfl, rfl, rfl, rfl, rfl, rfl⟩ }
  · have heffect : loadEffect x (s.withRepair (repairWith s x)) = s.withRepair (repairWith s x) := by
      rw [loadEffect, htarget, haction]
    rw [loadAccepted_of_still hnew horigin heffect]
    exact
      { defects := rfl
        counter := rfl
        cells := fun _ _ _ => by rw [htarget]; rfl
        lanes := fun _ _ => by rw [htarget, haction]; rfl
        slots := fun _ _ _ => by rw [htarget, hslot]; rfl
        rows := fun _ _ => by rw [htarget]; rfl
        track := fun _ => by
          intro gone
          exact track_eq_of_gone_none s (gone := gone) fun y => by simp [gone, htarget, haction]
        pulses := pulse_zeroVictims _
        comp := rfl
        repair := rfl
        unit := rfl
        others := ⟨rfl, rfl, rfl, rfl, rfl, rfl, rfl, rfl⟩ }

/-- Every record that R130 and R138 allow is applied. -/
theorem recordApplied_loadAccepted (hfits : RecordFits (depth s) x) : RecordApplied x s (loadAccepted x s) := by
  obtain ⟨hcombination, hslot, -, -, -, -⟩ := hfits
  cases htarget : x.target with
  | die r l d =>
    rw [htarget] at hcombination
    have hkind : x.kind = .openDie ∨ x.kind = .shortDie ∨ x.kind = .intermittent := by
      cases hk : x.kind <;> rw [hk] at hcombination <;> simp_all
    exact recordApplied_die hnew horigin htarget hkind
  | lane l =>
    rw [htarget] at hcombination
    refine recordApplied_lane hnew horigin htarget ?_
    have haction : x.action = .spareBound ∨ x.action = .laneDark ∨ x.action = .none := by
      cases hk : x.kind <;> rw [hk] at hcombination <;> simp_all
    obtain ha | ha | ha := haction
    · rw [if_pos ha] at hslot
      obtain ⟨k, hk, -⟩ := hslot
      exact .inl ⟨ha, k, hk⟩
    · exact .inr (.inl ⟨ha, by simpa [ha] using hslot⟩)
    · exact .inr (.inr ⟨ha, by simpa [ha] using hslot⟩)
  | row r =>
    rw [htarget] at hcombination
    have haction : x.action = .rowConceal ∨ x.action = .none := by
      cases hk : x.kind <;> rw [hk] at hcombination <;> simp_all
    exact recordApplied_row hnew horigin htarget haction
  | cell r l =>
    rw [htarget] at hcombination
    have haction : x.action = .selectA ∨ x.action = .selectB ∨ x.action = .conceal ∨ x.action = .forceOff := by
      cases hk : x.kind <;> rw [hk] at hcombination <;> simp_all
    obtain ⟨st, hst⟩ : ∃ st, cellStateOf x.action = some st := by
      obtain ha | ha | ha | ha := haction <;> rw [ha] <;> exact ⟨_, rfl⟩
    exact recordApplied_cell hnew horigin htarget hst

end

/-! ## A record judged (R138) -/

theorem recordOf_isSome_iff (s : State) (t : Target) :
    (recordOf s t).isSome = true ↔ ∃ y ∈ s.repair.defects, y.target = t := by simp [recordOf]

/-- The two CONFLICT checks of R138. -/
theorem conflict_iff (s : State) (x : Defect) : slotConflict s x = true ∨ laneConflict s x = true
    ↔ ∃ l, x.target = .lane l
      ∧ ((∃ k, x.slot = some k ∧ (k / 2 ≠ l / 24 ∨ slotNow s k ≠ .free)) ∨ .reserved l ∈ s.repair.slots) := by
  cases htarget : x.target with
  | lane l =>
    have hslot : slotConflict s x = true ↔ ∃ k, x.slot = some k ∧ (k / 2 ≠ l / 24 ∨ slotNow s k ≠ .free) := by
      cases hslot : x.slot <;> simp [slotConflict, htarget, hslot, ← contains_slotsOf_iff]
    have hlane : laneConflict s x = true ↔ .reserved l ∈ s.repair.slots := by
      simp [laneConflict, htarget, laneReserved]
    simp [hslot, hlane]
  | _ => simp [slotConflict, laneConflict, htarget]

section
variable {s : State} {x : Defect}

theorem loadRefusal_of_held (h : ∃ y ∈ s.repair.defects, y.target = x.target) : loadRefusal s x = some .duplicate :=
  if_pos ((recordOf_isSome_iff s x.target).mpr h)

variable (hheld : ¬ ∃ y ∈ s.repair.defects, y.target = x.target)
include hheld

theorem loadRefusal_of_conflict (h : slotConflict s x = true ∨ laneConflict s x = true) :
    loadRefusal s x = some .conflict := by
  rw [loadRefusal, if_neg (mt (recordOf_isSome_iff s x.target).mp hheld)]
  cases hslot : slotConflict s x
  · obtain h | h := h
    · rw [hslot] at h; exact absurd h (by decide)
    · rw [if_neg (by decide), if_pos h]
  · rw [if_pos rfl]

theorem loadRefusal_of_no_conflict (h : ¬ (slotConflict s x = true ∨ laneConflict s x = true)) :
    loadRefusal s x = if 192 ≤ s.repair.defects.length then some .full else none := by
  rw [loadRefusal, if_neg (mt (recordOf_isSome_iff s x.target).mp hheld), if_neg (mt .inl h), if_neg (mt .inr h)]

end

/-- One record is judged by the checks of R138 in their order. -/
theorem recordJudged_loadOne (b : List Byte) (s : State) :
    RecordJudged b ((loadOne b s).1.map statusByte) s (loadOne b s).2 := by
  refine ⟨fun hread => ?_, fun x hread => ?_⟩
  · rw [loadOne, hread]
    exact ⟨rfl, rfl⟩
  intro held conflict
  have hone {st : ReplyStatus} (h : loadRefusal s x = some st) : loadOne b s = (some st, s) := by rw [loadOne, hread]; simp [h]
  refine ⟨fun hheld => ?_, fun hheld hconflict => ?_, fun hheld hconflict hfull => ?_, fun hheld hconflict hroom => ?_⟩
  · rw [hone (loadRefusal_of_held hheld)]
    exact ⟨rfl, rfl⟩
  · rw [hone (loadRefusal_of_conflict hheld ((conflict_iff s x).mpr hconflict))]
    exact ⟨rfl, rfl⟩
  · rw [hone ((loadRefusal_of_no_conflict hheld (mt (conflict_iff s x).mp hconflict)).trans (if_pos hfull))]
    exact ⟨rfl, rfl⟩
  · have hnone := (loadRefusal_of_no_conflict hheld (mt (conflict_iff s x).mp hconflict)).trans (if_neg (Nat.not_le.mpr hroom))
    have htaken : loadOne b s = (none, loadAccepted x s) := by rw [loadOne, hread]; simp [hnone]
    have horigin : x.origin = .loaded := by
      unfold loadRecord at hread
      repeat' split at hread
      all_goals simp at hread
      subst hread
      rfl
    rw [htaken]
    exact ⟨rfl, recordApplied_loadAccepted (fun y hy h => hheld ⟨y, hy, h⟩) horigin (recordFits_of_loadRecord hread)⟩

/-! ## The records in their order (R137, R140) -/

theorem loadAll_cons (b : List Byte) (bs : List (List Byte)) (i : Nat) (s : State) : loadAll (b :: bs) i s
    = let r := loadAll bs (i + 1) (loadOne b s).2
      match (loadOne b s).1 with
      | some x => { r with refused := some (i, x) }
      | none => { r with accepted := r.accepted + 1 } := by
  obtain ⟨x, hone⟩ | ⟨x, hone, -⟩ := loadOne_cases b s <;> rw [loadAll, hone]

/-- The records judged, the state they leave and what the reply says of them (R137, R140). -/
structure AllJudged (p : List Byte) (i : Nat) (vs : List (Option Byte)) (s : State) (r : LoadResult) : Prop where
  length   : 14 * vs.length = p.length
  judged   : RecordsJudged p vs s r.state
  accepted : r.accepted = vs.countP Option.isNone
  noneLeft : (∀ v ∈ vs, v = none) → r.refused = none
  refused  : ∀ j x, vs[j]? = some (some x) → (∀ k, k < j → vs[k]? = some none) →
    ∃ st, r.refused = some (i + j, st) ∧ statusByte st = x

theorem loadAll_judged {n m i : Nat} {p : List Byte} {s : State} (hlength : p.length = 14 * m) (hm : m ≤ n) :
    ∃ vs, AllJudged p i vs s (loadAll (chunks14 n p) i s) := by
  induction n generalizing m i p s with
  | zero =>
    obtain rfl : m = 0 := by omega
    exact ⟨[], by simpa using hlength.symm, rfl, rfl, fun _ => rfl, fun _ _ h => nomatch h⟩
  | succ n ih =>
    cases m with
    | zero =>
      rw [chunks14, if_pos (by omega)]
      exact ⟨[], by simpa using hlength.symm, rfl, rfl, fun _ => rfl, fun _ _ h => nomatch h⟩
    | succ m =>
      rw [chunks14, if_neg (by omega), loadAll_cons]
      have hdrop : (p.drop 14).length = 14 * m := by rw [List.length_drop]; omega
      have hone := recordJudged_loadOne (p.take 14) s
      generalize loadOne (p.take 14) s = one at hone
      obtain ⟨v, u⟩ := one
      obtain ⟨vs, hrest⟩ := ih (i := i + 1) (s := u) hdrop (by omega)
      refine ⟨v.map statusByte :: vs, by simp [Nat.mul_add, hrest.length, hdrop, hlength], ?_, ?_, ?_, ?_⟩
      · refine ⟨u, hone, ?_⟩
        cases v <;> exact hrest.judged
      · cases v with
        | none => simp [hrest.accepted]
        | some x => simp [hrest.accepted]
      · intro hnone
        obtain ⟨hv, hvs⟩ := List.forall_mem_cons.mp hnone
        cases v with
        | none => exact hrest.noneLeft hvs
        | some x => exact absurd hv (by simp)
      · intro j x hj hbefore
        cases v with
        | none =>
          cases j with
          | zero => simp at hj
          | succ j =>
            obtain ⟨st, hst, hx⟩ := hrest.refused j x (by simpa using hj) fun k hk => by
              simpa using hbefore (k + 1) (by omega)
            exact ⟨st, by rw [← Nat.add_assoc, Nat.add_right_comm]; exact hst, hx⟩
        | some y =>
          cases j with
          | zero => exact ⟨y, rfl, by simpa using hj⟩
          | succ j => simpa using hbefore 0 (by omega)

/-- Settles O49, by induction over the records, each judged by the checks of R138 in their order. -/
theorem loadedRecordsJoinTheList : Obligations.LoadedRecordsJoinTheList := by
  intro q s hdisp
  have haddr : q.broadcast = false := hdisp.addressed rfl
  have hexec : exec (.loadDefects q) s = .next (defectsLoaded q (atTake 0x0E q s)) :=
    request_dispatched (fun _ => defectsLoaded q) hdisp
  have hmode : (atTake 0x0E q s).ctl.mode = s.ctl.mode := by rw [atTake_ctl]
  rw [hexec]
  refine ⟨fun hout => ?_, fun hin => ?_⟩
  · rw [defectsLoaded, if_neg (hmode ▸ hout), refuse, answer_addressed haddr]
    rfl
  obtain ⟨m, hm, hlength⟩ : ∃ m, m ≤ 36 ∧ q.payload.length = 14 * m := by
    have hfits : 14 ≤ q.payload.length ∧ q.payload.length ≤ 504 ∧ q.payload.length % 14 = 0 :=
      of_decide_eq_true hdisp.2.1
    exact ⟨q.payload.length / 14, by omega, by omega⟩
  obtain ⟨vs, hall⟩ := loadAll_judged (i := 0) (s := atTake 0x0E q s) hlength hm
  rw [defectsLoaded, if_pos (hmode.trans hin), answer_addressed haddr]
  generalize loadAll (chunks14 36 q.payload) 0 (atTake 0x0E q s) = r at hall
  refine ⟨vs, r.state, hall.length, hall.judged, statusByte r.status, optByte (r.refused.map Prod.fst), ?_, ?_, ?_⟩
  · rw [← hall.accepted]
    rfl
  · intro hnone
    rw [LoadResult.status, hall.noneLeft hnone]
    exact ⟨rfl, rfl⟩
  · intro j x hj hbefore
    obtain ⟨st, hst, hx⟩ := hall.refused j x hj hbefore
    rw [LoadResult.status, hst, ← hx, Nat.zero_add]
    exact ⟨rfl, rfl⟩

end Sys2Proof.Machine

/-! The grant decision by its sources and the walk's turn, after a walk test that passed (O32, O33). -/

namespace Sys2Proof.Machine

-- One theorem at a time: elaborated at once, they wait on each other and each holds a thread.
set_option Elab.async false

/-! ## The sources (R59 to R61) -/

theorem grantVerify_of_check {s : State} (htried : s.sense.tried.verify = false) {c : Check} {v : Verify}
    (hcheck : s.corr.check = some c) (hverify : c.verify = some v) :
    grantVerify s = some ⟨.verify v.slot, v.die, none⟩ := by
  simp [grantVerify, htried, hcheck, hverify]

theorem bind_verify_eq_none {s : State} (h : ∀ c, s.corr.check = some c → c.verify = none) :
    s.corr.check.bind Check.verify = none := by
  cases hcheck : s.corr.check with
  | none => rfl
  | some c => exact h c hcheck

theorem grantVerify_of_bind {s : State} (htried : s.sense.tried.verify = false)
    (hnone : ∀ c, s.corr.check = some c → c.verify = none) {b : Bind} (hbind : s.repair.bind = some b)
    (hstage : b.stage = .verifying) : grantVerify s = some ⟨.verify b.slot, b.die, none⟩ := by
  simp [grantVerify, htried, bind_verify_eq_none hnone, hbind, hstage]

theorem grantVerify_of_none {s : State} (h : NoVerifyDue s) : grantVerify s = none := by
  obtain htried | ⟨hnone, hbind⟩ := h
  · simp [grantVerify, htried]
  rw [grantVerify, bind_verify_eq_none hnone]
  split
  · rfl
  · cases hb : s.repair.bind with
    | none => rfl
    | some b => simp [hbind b hb]

/-- The test that the second level finds in place n. -/
def probeGrant (s : State) (c : Check) (n : Nat) : Option Grant :=
  match c.probes[n]? with
  | some p =>
    if p.result = .pending ∧ s.sense.tried.probe n = false then p.target.map fun x => ⟨.probe n, x, none⟩ else none
  | none => none

theorem grantProbe_of_check {s : State} {c : Check} (hcheck : s.corr.check = some c) (hverify : c.verify = none) :
    grantProbe s = (List.range 4).findSome? (probeGrant s c) := by
  rw [grantProbe, hcheck]
  dsimp only
  rw [hverify, if_neg (by decide)]
  rfl

/-- A place whose probe is not PENDING, or tried, has no test. -/
theorem probeGrant_of_done {s : State} {c : Check} {n : Nat}
    (h : ∀ p, c.probes[n]? = some p → p.result = .pending → s.sense.tried.probe n = true) : probeGrant s c n = none := by
  rw [probeGrant]
  cases hp : c.probes[n]? with
  | none => rfl
  | some p => exact if_neg fun ⟨hpending, hfalse⟩ => absurd (h p hp hpending) (by simp [hfalse])

theorem grantProbe_of_first {s : State} {c : Check} {n : Nat} {p : Probe} {x : DieRef} (hcheck : s.corr.check = some c)
    (hverify : c.verify = none) (hn : n < 4) (hp : c.probes[n]? = some p) (hpending : p.result = .pending)
    (htarget : p.target = some x) (htried : s.sense.tried.probe n = false)
    (hbefore : ∀ m p', m < n → c.probes[m]? = some p' → p'.result = .pending → s.sense.tried.probe m = true) :
    grantProbe s = some ⟨.probe n, x, none⟩ := by
  rw [grantProbe_of_check hcheck hverify]
  refine findSome_range hn ?_ fun m hm => probeGrant_of_done fun p' => hbefore m p' hm
  simp [probeGrant, hp, hpending, htried, htarget]

theorem grantProbe_of_none {s : State} (h : NoProbeDue s) : grantProbe s = none := by
  cases hcheck : s.corr.check with
  | none => simp [grantProbe, hcheck]
  | some c =>
    cases hverify : c.verify with
    | some v => simp [grantProbe, hcheck, hverify]
    | none =>
      rw [grantProbe_of_check hcheck hverify, List.findSome?_eq_none_iff]
      exact fun n _ => probeGrant_of_done fun p => h c n p hcheck hverify

theorem grantSpot_of_first {s : State} {before after : List SpotEntry} {e : SpotEntry}
    (hspots : s.sense.spots = before ++ e :: after) (hwaiting : e.status = .waiting)
    (hbefore : ∀ y ∈ before, y.status ≠ .waiting) : grantSpot s = some ⟨.spot, e.die, none⟩ := by
  have hfind : s.sense.spots.find? (fun y => y.status == .waiting) = some e :=
    List.find?_eq_some_iff_append.mpr ⟨by simp [hwaiting], before, after, hspots, fun y hy => by simp [hbefore y hy]⟩
  rw [grantSpot, hfind]
  rfl

theorem grantSpot_of_none {s : State} (h : NoSpotWaits s) : grantSpot s = none := by
  rw [grantSpot, List.find?_eq_none.mpr fun y hy => by simpa using h y hy]
  rfl

theorem retestable_iff (s : State) (x : Suspect) : retestable s x = true ↔ MayBeRetested s x := by
  simp [retestable, MayBeRetested, and_assoc]

theorem grantRetest_of_first {s : State} {before after : List Suspect} {x : Suspect}
    (hsuspects : s.track.suspects = before ++ x :: after) (hx : MayBeRetested s x)
    (hbefore : ∀ y ∈ before, ¬ MayBeRetested s y) : grantRetest s = some ⟨.retest, x.die, none⟩ := by
  have hfind : s.track.suspects.find? (fun y => retestable s y) = some x :=
    List.find?_eq_some_iff_append.mpr
      ⟨(retestable_iff s x).mpr hx, before, after, hsuspects, fun y hy => by
        simpa using (mt (retestable_iff s y).mp (hbefore y hy))⟩
  rw [grantRetest, hfind]
  rfl

theorem grantRetest_of_none {s : State} (h : ∀ x ∈ s.track.suspects, ¬ MayBeRetested s x) : grantRetest s = none := by
  rw [grantRetest, List.find?_eq_none.mpr fun y hy => mt (retestable_iff s y).mp (h y hy)]
  rfl

theorem grantWalk_of_off {s : State}
    (h : s.unit.params.walkEnable = false ∨ s.sense.hot = true ∨ 32 ≤ s.track.suspects.length) : grantWalk s = none := by
  rw [grantWalk, if_neg]
  obtain h | h | h := h
  · simp [h]
  · simp [h]
  · simp [Config.suspectPlaces, Nat.not_lt.mpr h]

/-! ## What a grant leaves (R51 to R53) -/

/-- The manual bind whose verify is pending, if there is one. -/
def verifyingBind (s : State) : Option Bind := s.repair.bind.filter fun b => b.stage = .verifying

theorem grantVerify_eq (s : State) : grantVerify s =
    if s.sense.tried.verify then none
    else
      match s.corr.check.bind Check.verify with
      | some v => some ⟨.verify v.slot, v.die, none⟩
      | none => (verifyingBind s).map fun b => ⟨.verify b.slot, b.die, none⟩ := by
  rw [grantVerify, verifyingBind]
  cases s.corr.check.bind Check.verify with
  | some v => rfl
  | none =>
    cases s.repair.bind with
    | none => rfl
    | some b => by_cases h : b.stage = .verifying <;> simp [Option.filter, h]

/-- Two states in which the arbiter decides the same: they differ in the test in flight and in what no source looks at. -/
structure SameGrants (s t : State) : Prop where
  sense    : t.sense = { s.sense with test := none }
  suspects : t.track.suspects = s.track.suspects
  params   : t.unit.params = s.unit.params
  corr     : t.corr = s.corr
  bind     : verifyingBind t = verifyingBind s
  lanes    : t.repair.lanes = s.repair.lanes
  rows     : t.repair.rows = s.repair.rows
  straps   : t.straps = s.straps
  skips    : ∀ x, walkSkips t x = walkSkips s x

theorem walkSearch_congr {s t : State} (h : SameGrants s t) (n : Nat) (p : WalkPos) (laps : Nat) :
    walkSearch t n p laps = walkSearch s n p laps := by
  have hdepth : depth t = depth s := by rw [depth, depth, h.straps]
  induction n generalizing p laps with
  | zero => rfl
  | succ n ih =>
    rw [walkSearch, walkSearch, h.skips, h.params, hdepth]
    simp only [ih]

section
variable {s t : State} (h : SameGrants s t)
include h

theorem SameGrants.depth : Machine.depth t = Machine.depth s := by rw [Machine.depth, Machine.depth, h.straps]

theorem SameGrants.laneNow (l : Nat) : Machine.laneNow t l = Machine.laneNow s l := by
  rw [Machine.laneNow, Machine.laneNow, h.lanes]

theorem SameGrants.retestable (x : Suspect) : Machine.retestable t x = Machine.retestable s x := by
  rw [Machine.retestable, Machine.retestable, h.laneNow, Machine.rowNow, Machine.rowNow, h.rows, h.sense]

theorem SameGrants.pickGrant : Machine.pickGrant t = Machine.pickGrant s := by
  have hverify : grantVerify t = grantVerify s := by
    rw [grantVerify_eq, grantVerify_eq, h.sense, h.corr, h.bind]
  have hprobe : grantProbe t = grantProbe s := by rw [grantProbe, grantProbe, h.sense, h.corr]
  have hspot : grantSpot t = grantSpot s := by rw [grantSpot, grantSpot, h.sense]
  have hretest : grantRetest t = grantRetest s := by
    rw [grantRetest, grantRetest, h.suspects, funext h.retestable]
  have hwalk : grantWalk t = grantWalk s := by
    rw [grantWalk, grantWalk, walkFind, walkFind, h.sense, h.params, h.suspects, h.depth]
    simp only [walkSearch_congr h]
  rw [Machine.pickGrant, Machine.pickGrant, hverify, hprobe, hspot, hretest, hwalk]

theorem SameGrants.formTest (g : Grant) : Machine.formTest t g = Machine.formTest s g := by
  rw [Machine.formTest, Machine.formTest, h.sense, h.params]

theorem SameGrants.takeGrant_sense (g : Grant) : (takeGrant g t).sense = (takeGrant g s).sense := by
  simp only [takeGrant, State.withSense, h.formTest, h.sense]

theorem SameGrants.closeWindow_sense :
    (closeWindow t).sense = { s.sense with test := none, windowOpen := false, hot := false } := by
  simp only [closeWindow, State.withSense, h.sense]

end

/-- The Sense Unit after grant g. -/
def grantLeaves (s : State) (atOnce : Bool) (g : Grant) : SenseUnit :=
  { (takeGrant g s).sense with test := some (grantTaken s atOnce (formTest s g)) }

theorem grantLeaves_eq (s : State) (atOnce : Bool) (g : Grant) : grantLeaves s atOnce g
    = { grantedSense s (grantTaken s atOnce (grantedTest s g.source g.die)) with
        tried := markTried s.sense.tried g.source
        cursor := match g.walk with
          | some w => w.cursor
          | none => s.sense.cursor
        sweeps := match g.walk with
          | some w => satAdd s.sense.sweeps w.laps
          | none => s.sense.sweeps } := by
  have hform : formTest s g = grantedTest s g.source g.die := rfl
  have hopen : (!decide (s.sense.budget ≤ s.sense.used + 1)) = decide (s.sense.used + 1 < s.sense.budget) := by
    rw [← decide_not, decide_eq_decide, Nat.not_le]
  have hhot : (if decide (s.sense.budget ≤ s.sense.used + 1) = true then false else s.sense.hot)
      = (s.sense.hot && decide (s.sense.used + 1 < s.sense.budget)) := by
    rw [← hopen]
    cases decide (s.sense.budget ≤ s.sense.used + 1) <;> simp
  simp only [grantLeaves, takeGrant, State.withSense, grantedSense, hform, hopen, hhot] <;> rfl

/-- The driver that a claim taken connects, where it connects one. -/
def claimDriver (x : TestSource) (l : LaneState) : TestDriver :=
  match x, l with
  | .verify k, _ => .slot k
  | _, .spared k => .slot k
  | _, _ => .own

theorem grantTaken_eq (s : State) (atOnce : Bool) (t : TestRecord) : grantTaken s atOnce t
    = if atOnce then { t with driver := some (claimDriver t.source (laneNow s t.die.lane)) } else t := rfl

theorem driverFor_of_drives {x : TestSource} {l : LaneState} (h : (driverFor x l).isSome = true) :
    driverFor x l = some (claimDriver x l) := by
  cases x <;> cases l <;> first | rfl | exact absurd h (by simp [driverFor])

section
variable {s t : State} {atOnce : Bool} (h : SameGrants s t) (hopen : s.sense.windowOpen = true)
  (hleft : s.sense.used < s.sense.budget) (hstopped : t.scan.state = .stopped ↔ atOnce = true)
include h hopen hleft

theorem decideGrant_eq : decideGrant t = match Machine.pickGrant s with
    | none => closeWindow t
    | some g =>
      if t.scan.state = .stopped then
        match takeClaim (Machine.formTest s g) .lent (takeGrant g t) with
        | (u, true) => grantDecision 4 u
        | (u, false) => u
      else takeGrant g t := by
  have hgoes : (t.sense.windowOpen && decide (t.sense.used < t.sense.budget) && t.sense.test.isNone) = true := by
    simp [h.sense, hopen, hleft]
  rw [decideGrant, grantDecision, if_pos hgoes, h.pickGrant]
  cases Machine.pickGrant s with
  | none => rfl
  | some g => dsimp only; rw [h.formTest]; rfl

theorem decideGrant_sense_of_none (hpick : pickGrant s = none) :
    (decideGrant t).sense = { s.sense with test := none, windowOpen := false, hot := false } := by
  rw [decideGrant_eq h hopen hleft, hpick]
  exact h.closeWindow_sense

include hstopped in
theorem decideGrant_sense_of_pick {g : Grant} (hpick : pickGrant s = some g)
    (hdrives : atOnce = true → (driverFor g.source (laneNow s g.die.lane)).isSome = true) :
    (decideGrant t).sense = grantLeaves s atOnce g := by
  rw [decideGrant_eq h hopen hleft, hpick]
  dsimp only
  cases hat : atOnce with
  | false =>
    rw [if_neg (by simp [hstopped, hat]), h.takeGrant_sense]
    rfl
  | true =>
    have hdriver := driverFor_of_drives (hdrives hat)
    rw [if_pos (hstopped.mpr hat), takeClaim]
    dsimp only
    rw [show laneNow ((takeGrant g t).withScan _) (formTest s g).die.lane = laneNow s g.die.lane from h.laneNow _,
      show driverFor (formTest s g).source _ = _ from hdriver]
    rw [grantLeaves, ← h.takeGrant_sense, grantTaken_eq]
    rfl

end

/-! ## The walk (R62 to R64) -/

theorem walkSkips_iff (s : State) (x : DieRef) : walkSkips s x = true ↔ WalkPasses s x := by
  have hbad : (healthOf s x).bad = true ↔ healthOf s x = .openDie ∨ healthOf s x = .shortDie ∨ healthOf s x = .flaky := by
    cases healthOf s x <;> simp [Health.bad]
  have hundecided : laneUndecided s x.lane = true
      ↔ (∃ hot f, s.repair.waiting = some (.lane x.lane hot f))
        ∨ (∃ c h, s.corr.check = some c ∧ s.repair.heldLane = some h ∧ c.die.lane = x.lane) := by
    rw [laneUndecided, Bool.or_eq_true]
    refine or_congr ?_ ?_
    · rcases s.repair.waiting with _ | ⟨_ | _ | _⟩ <;> simp
    · cases s.repair.heldLane <;> cases s.corr.check <;> simp
  simp [walkSkips, WalkPasses, hbad, hundecided, laneReserved, or_assoc]

/-- N positions in walk order, the last followed by the first with an end of lap (R62). -/
def WalkOrder (s : State) (size : Nat) : Prop :=
  ∀ j, j < size → walkNext s.unit.params.walkBoth (depth s) (walkPosition s j)
    = (walkPosition s ((j + 1) % size), decide (j + 1 = size))

/-- A search that passes the first k positions from i on and stops at the next. -/
theorem walkSearch_found {s : State} {size : Nat} (horder : WalkOrder s size) {fuel i k laps : Nat} (hi : i < size)
    (hk : k < fuel) (hfound : walkSkips s (walkPosition s ((i + k) % size)).target = false)
    (hpassed : ∀ j, j < k → walkSkips s (walkPosition s ((i + j) % size)).target = true) :
    walkSearch s fuel (walkPosition s i) laps
      = some ⟨walkPosition s ((i + k) % size), walkPosition s ((i + k + 1) % size), laps + (i + k + 1) / size⟩ := by
  induction fuel generalizing i k laps with
  | zero => omega
  | succ fuel ih =>
    rw [walkSearch, horder i hi]
    dsimp only
    have hlap : (if decide (i + 1 = size) = true then laps + 1 else laps) = laps + (i + 1) / size := by
      by_cases hend : i + 1 = size
      · simp [hend, Nat.div_self (by omega : 0 < size)]
      · simp [hend, Nat.div_eq_of_lt (by omega : i + 1 < size)]
    cases k with
    | zero =>
      rw [Nat.add_zero, Nat.mod_eq_of_lt hi] at hfound
      rw [if_neg (by simp [hfound]), hlap, show (i + 0) % size = i from Nat.mod_eq_of_lt hi]
    | succ k =>
      have hhere := hpassed 0 (by omega)
      rw [Nat.add_zero, Nat.mod_eq_of_lt hi] at hhere
      have hshift (j : Nat) : ((i + 1) % size + j) % size = (i + (j + 1)) % size := by
        rw [Nat.mod_add_mod]; congr 1; omega
      rw [if_pos hhere, ih (Nat.mod_lt _ (by omega)) (by omega : k < fuel) (by rw [hshift]; exact hfound)
        fun j hj => by rw [hshift]; exact hpassed (j + 1) (by omega)]
      have hcursor : ((i + 1) % size + k + 1) % size = (i + (k + 1) + 1) % size := hshift (k + 1)
      have hlaps : laps + (i + 1) / size + ((i + 1) % size + k + 1) / size = laps + (i + (k + 1) + 1) / size := by
        have hsplit : i + (k + 1) + 1 = (i + 1) % size + k + 1 + size * ((i + 1) / size) := by
          have := Nat.mod_add_div (i + 1) size
          omega
        rw [hsplit, Nat.add_mul_div_left _ _ (by omega : 0 < size)]
        omega
      rw [hshift, hcursor, hlap, hlaps]

theorem walkSearch_passed {s : State} {size : Nat} (horder : WalkOrder s size) {fuel i laps : Nat} (hi : i < size)
    (hpassed : ∀ j, j < size → walkSkips s (walkPosition s j).target = true) :
    walkSearch s fuel (walkPosition s i) laps = none := by
  induction fuel generalizing i laps with
  | zero => rfl
  | succ fuel ih =>
    rw [walkSearch, horder i hi, if_pos (hpassed i hi)]
    exact ih (Nat.mod_lt _ (by omega))

/-- A position by its row number, counted on through both passes, and its lane. -/
theorem walkPosition_of {s : State} {q l : Nat} (hd : 0 < depth s) (hl : l < 144) :
    walkPosition s (144 * q + l) = ⟨if q < depth s then .a else .b, q % depth s, l⟩ := by
  have hrow : (144 * q + l) / 144 = q := by omega
  have hlane : (144 * q + l) % 144 = l := by omega
  rw [walkPosition, ← Nat.div_div_eq_div_mul, hrow, hlane]
  simp only [Nat.div_eq_zero_iff, hd.ne', false_or]

theorem walkPosition_zero (s : State) : walkPosition s 0 = ⟨.a, 0, 0⟩ := by simp [walkPosition]

/-- Within a row, and from one row of a pass to the next, no end of lap is passed. -/
theorem walkNext_within {s : State} (both : Bool) {q l : Nat} (hd : 0 < depth s) (hl : l < 144)
    (hnext : l + 1 < 144 ∨ q % depth s + 1 < depth s) :
    walkNext both (depth s) (walkPosition s (144 * q + l)) = (walkPosition s (144 * q + l + 1), false) := by
  rw [walkPosition_of hd hl, walkNext]
  by_cases hlane : l + 1 < 144
  · rw [if_pos hlane, Nat.add_assoc, walkPosition_of hd hlane]
  · have hrow : q % depth s + 1 < depth s := hnext.resolve_left hlane
    have hmod : (q + 1) % depth s = q % depth s + 1 := by
      rw [Nat.add_mod, Nat.mod_eq_of_lt (by omega : 1 < depth s), Nat.mod_eq_of_lt hrow]
    have hpass : q < depth s ↔ q + 1 < depth s := by
      refine ⟨fun h => ?_, fun h => by omega⟩
      rw [Nat.mod_eq_of_lt h] at hrow
      exact hrow
    have hat : 144 * q + l + 1 = 144 * (q + 1) + 0 := by omega
    rw [if_neg hlane, if_pos hrow, hat, walkPosition_of hd (by omega), hmod]
    simp only [hpass]

/-- The order of both passes, and of pass A alone (R62). -/
theorem walkOrder_both {s : State} (h : s.unit.params.walkBoth = true) : WalkOrder s (2 * (144 * depth s)) := by
  intro j hj
  have hd : 0 < depth s := by omega
  obtain ⟨q, l, hl, rfl⟩ : ∃ q l, l < 144 ∧ j = 144 * q + l := ⟨j / 144, j % 144, by omega, by omega⟩
  rw [h]
  by_cases hnext : l + 1 < 144 ∨ q % depth s + 1 < depth s
  · have hlt : 144 * q + l + 1 < 2 * (144 * depth s) := by
      obtain hlane | hrow := hnext
      · omega
      · rcases Nat.lt_or_ge q (depth s) with hq | hq
        · omega
        · rw [Nat.mod_eq_sub_mod hq, Nat.mod_eq_of_lt (by omega)] at hrow
          omega
    rw [walkNext_within true hd hl hnext, Nat.mod_eq_of_lt hlt, decide_eq_false hlt.ne]
  · obtain ⟨hlane, hrow⟩ := not_or.mp hnext
    rw [walkPosition_of hd hl, walkNext, if_neg hlane, if_neg hrow]
    rcases Nat.lt_or_ge q (depth s) with hq | hq
    · rw [Nat.mod_eq_of_lt hq] at hrow
      have hat : 144 * q + l + 1 = 144 * depth s + 0 := by omega
      rw [hat, Nat.mod_eq_of_lt (by omega : 144 * depth s + 0 < 2 * (144 * depth s)), walkPosition_of hd (by omega),
        if_pos hq, if_neg (Nat.lt_irrefl _), Nat.mod_self, decide_eq_false (by omega)]
      rfl
    · rw [Nat.mod_eq_sub_mod hq, Nat.mod_eq_of_lt (by omega)] at hrow
      have hat : 144 * q + l + 1 = 2 * (144 * depth s) := by omega
      rw [hat, Nat.mod_self, walkPosition_zero, if_neg (Nat.not_lt.mpr hq), decide_eq_true rfl]

theorem walkOrder_passA {s : State} (h : s.unit.params.walkBoth = false) : WalkOrder s (144 * depth s) := by
  intro j hj
  have hd : 0 < depth s := by omega
  obtain ⟨q, l, hl, rfl⟩ : ∃ q l, l < 144 ∧ j = 144 * q + l := ⟨j / 144, j % 144, by omega, by omega⟩
  have hq : q < depth s := by omega
  rw [h]
  by_cases hnext : l + 1 < 144 ∨ q % depth s + 1 < depth s
  · have hlt : 144 * q + l + 1 < 144 * depth s := by
      rw [Nat.mod_eq_of_lt hq] at hnext
      omega
    rw [walkNext_within false hd hl hnext, Nat.mod_eq_of_lt hlt, decide_eq_false hlt.ne]
  · obtain ⟨hlane, hrow⟩ := not_or.mp hnext
    have hat : 144 * q + l + 1 = 144 * depth s := by
      rw [Nat.mod_eq_of_lt hq] at hrow
      omega
    rw [walkPosition_of hd hl, walkNext, if_neg hlane, if_neg hrow, hat, Nat.mod_self, walkPosition_zero, if_pos hq,
      decide_eq_true rfl]
    rfl

/-! ## The decision (O32, O33) -/

section
variable {s t : State} {atOnce : Bool} (h : SameGrants s t) (hopen : s.sense.windowOpen = true)
  (hleft : s.sense.used < s.sense.budget) (hstopped : t.scan.state = .stopped ↔ atOnce = true)
include h hopen hleft hstopped

/-- A grant of one of the first four levels. -/
theorem decideGrant_sense_of_source {x : TestSource} {d : DieRef} (hpick : pickGrant s = some ⟨x, d, none⟩)
    (hdrives : atOnce = true → (driverFor x (laneNow s d.lane)).isSome = true) : (decideGrant t).sense
      = { grantedSense s (grantTaken s atOnce (grantedTest s x d)) with tried := markTried s.sense.tried x } := by
  rw [decideGrant_sense_of_pick h hopen hleft hstopped hpick hdrives, grantLeaves_eq]
  rfl

theorem grantDecides_decideGrant : GrantDecides s atOnce (decideGrant t).sense := by
  have hdriver {x : TestSource} {l : LaneState} (hx : ∀ k, x ≠ .verify k) (hspot : x ≠ .spot) (hl : l ≠ .dark) :
      (driverFor x l).isSome = true := by
    cases x <;> cases l <;> simp_all [driverFor]
  refine ⟨fun htried c v hcheck hverify => ?_, fun htried b hnone hbind hstage => ?_,
    fun hv c n p x hcheck hverify hn hp hpending htarget htried hbefore hdark => ?_,
    fun hv hprobe before e after hspots hwaiting hbefore => ?_,
    fun hv hprobe hspot before x after hsuspects hx hbefore => ?_, fun hv hprobe hspot hretest hoff => ?_⟩
  · refine decideGrant_sense_of_source h hopen hleft hstopped ?_ fun _ => rfl
    rw [pickGrant, grantVerify_of_check htried hcheck hverify]
    rfl
  · refine decideGrant_sense_of_source h hopen hleft hstopped ?_ fun _ => rfl
    rw [pickGrant, grantVerify_of_bind htried hnone hbind hstage]
    rfl
  · have hpick : pickGrant s = some ⟨.probe n, x, none⟩ := by
      rw [pickGrant, grantVerify_of_none hv, grantProbe_of_first hcheck hverify hn hp hpending htarget htried hbefore]
      rfl
    rw [decideGrant_sense_of_source h hopen hleft hstopped hpick fun hat => hdriver nofun nofun (hdark hat)]
    obtain rfl | rfl | rfl | rfl : n = 0 ∨ n = 1 ∨ n = 2 ∨ n = 3 := by omega
    all_goals simp [markTried, Tried.setProbe]
  · refine decideGrant_sense_of_source h hopen hleft hstopped ?_ fun _ => ?_
    · rw [pickGrant, grantVerify_of_none hv, grantProbe_of_none hprobe, grantSpot_of_first hspots hwaiting hbefore]
      rfl
    · cases laneNow s e.die.lane <;> rfl
  · refine decideGrant_sense_of_source h hopen hleft hstopped ?_ fun _ => hdriver nofun nofun hx.2.2.2
    rw [pickGrant, grantVerify_of_none hv, grantProbe_of_none hprobe, grantSpot_of_none hspot,
      grantRetest_of_first hsuspects hx hbefore]
    rfl
  · refine decideGrant_sense_of_none h hopen hleft ?_
    rw [pickGrant, grantVerify_of_none hv, grantProbe_of_none hprobe, grantSpot_of_none hspot, grantRetest_of_none hretest,
      grantWalk_of_off hoff]
    rfl

/-- The walk's turn with a die found. -/
theorem decideGrant_sense_of_walk {w : WalkFound} (hfound : walkFind s = some w)
    (hstays : walkSkips s w.at_.target = false) (hpick : pickGrant s = grantWalk s)
    (hon : s.unit.params.walkEnable = true) (hhot : s.sense.hot = false) (hfew : s.track.suspects.length < 32) :
    (decideGrant t).sense = { grantedSense s (grantTaken s atOnce (grantedTest s .walk w.at_.target)) with
      cursor := w.cursor, sweeps := min (s.sense.sweeps + w.laps) 65535 } := by
  have hgrant : pickGrant s = some ⟨.walk, w.at_.target, some w⟩ := by
    rw [hpick, grantWalk, if_pos (by simp [hon, hhot, hfew, Config.suspectPlaces]), hfound]
    rfl
  have hlit : laneNow s w.at_.target.lane ≠ .dark := fun hdark =>
    Bool.eq_false_iff.mp hstays ((walkSkips_iff s _).mpr (.inr (.inl hdark)))
  refine (decideGrant_sense_of_pick h hopen hleft hstopped hgrant fun _ => ?_).trans (grantLeaves_eq _ _ _)
  revert hlit
  dsimp only
  cases laneNow s w.at_.target.lane <;> simp [driverFor]

theorem walkDecides_decideGrant : WalkDecides s atOnce (decideGrant t).sense := by
  intro hv hprobe hspot hretest hon hhot hfew i n hcursor hn die tested
  subst hn
  have hpick : pickGrant s = grantWalk s := by
    rw [pickGrant, grantVerify_of_none hv, grantProbe_of_none hprobe, grantSpot_of_none hspot, grantRetest_of_none hretest]
    rfl
  have hskips (j : Nat) : walkSkips s (walkPosition s j).target = true ↔ WalkPasses s (die j) := walkSkips_iff s _
  have hstays {j : Nat} (hj : ¬ WalkPasses s (die j)) : walkSkips s (walkPosition s j).target = false :=
    Bool.eq_false_iff.mpr (mt (hskips j).mp hj)
  have hwalk {j next laps : Nat} (hfind : walkFind s = some ⟨walkPosition s j, walkPosition s next, laps⟩)
      (hfound : ¬ WalkPasses s (die j)) : tested j next laps :=
    decideGrant_sense_of_walk h hopen hleft hstopped hfind (hstays hfound) hpick hon hhot hfew
  refine ⟨fun hboth hi k hk hfound hpassed => ?_, fun hboth hi k hk hfound hpassed => ?_,
    fun hboth hlow hi k hk hfound hpassed => ?_, fun hi hpassed => ?_⟩
  · refine hwalk ?_ hfound
    · rw [walkFind, if_pos hboth, hcursor, show 288 * depth s = 2 * (144 * depth s) by omega,
        walkSearch_found (walkOrder_both hboth) hi hk (hstays hfound) fun j hj => (hskips _).mpr (hpassed j hj), Nat.zero_add]
  · refine hwalk ?_ hfound
    · have hpass : (walkPosition s i).pass = .a := if_pos (Nat.div_eq_of_lt hi)
      rw [walkFind, if_neg (by simp [hboth]), hcursor, hpass]
      dsimp only
      rw [walkSearch_found (walkOrder_passA hboth) hi hk (hstays hfound) fun j hj => (hskips _).mpr (hpassed j hj),
        Nat.zero_add]
  · have hk' : (0 + k) % (144 * depth s) = k := by rw [Nat.zero_add, Nat.mod_eq_of_lt hk]
    have hsearch := walkSearch_found (s := s) (i := 0) (laps := 1) (walkOrder_passA hboth) (by omega) hk
      (by rw [hk']; exact hstays hfound) fun j hj => by
        rw [Nat.zero_add, Nat.mod_eq_of_lt (hj.trans hk)]
        exact (hskips j).mpr (hpassed j hj)
    rw [walkPosition_zero, hk', Nat.zero_add] at hsearch
    refine hwalk ?_ hfound
    · have hpass : (walkPosition s i).pass = .b :=
        if_neg (Nat.div_pos hlow (by omega)).ne'
      rw [walkFind, if_neg (by simp [hboth]), hcursor, hpass]
      exact hsearch
  · refine decideGrant_sense_of_none h hopen hleft (hpick.trans ?_)
    suffices hnone : walkFind s = none by
      rw [grantWalk, hnone]
      exact ite_self _
    rw [walkFind, hcursor]
    cases hboth : s.unit.params.walkBoth with
    | true =>
      rw [if_pos rfl]
      exact walkSearch_passed (walkOrder_both hboth) hi fun j hj => (hskips j).mpr (hpassed j (by rw [hboth]; exact hj))
    | false =>
      have hpassedA (j : Nat) (hj : j < 144 * depth s) : walkSkips s (walkPosition s j).target = true :=
        (hskips j).mpr (hpassed j (by rw [hboth]; exact hj))
      rw [if_neg (by decide)]
      cases hpass : (walkPosition s i).pass with
      | a =>
        refine walkSearch_passed (walkOrder_passA hboth) (Nat.lt_of_not_le fun hge => ?_) hpassedA
        rw [walkPosition, if_neg (Nat.div_pos hge (by omega)).ne'] at hpass
        cases hpass
      | b =>
        rw [← walkPosition_zero s]
        exact walkSearch_passed (walkOrder_passA hboth) (by omega) hpassedA

end

/-! ## After a walk test that passed (R52, R56) -/

/-- An entry of a table after a write: as it was, or the entry written. -/
theorem cellEntry_after_cellSet {s t : State} {r' l' : Nat} {e : CellEntry}
    (ht : t.repair.cells = cellSet s.repair.cells r' l' e) (r l : Nat) :
    cellEntry t r l = cellEntry s r l ∨ (r = r' ∧ l = l' ∧ cellEntry t r l = e) := by
  by_cases hother : r ≠ r' ∨ l ≠ l'
  · rw [cellEntry, ht, cellAt_cellSet_other _ _ _ _ _ _ _ hother]
    exact .inl rfl
  obtain ⟨rfl, rfl⟩ : r = r' ∧ l = l' := by omega
  by_cases hcell : HasCell s r l
  · rw [cellEntry_set ht hcell, if_pos ⟨rfl, rfl⟩]
    exact .inr ⟨rfl, rfl, rfl⟩
  · refine .inl ?_
    have hout : r < s.repair.cells.length → (s.repair.cells.getD r []).length ≤ l := fun hr =>
      Nat.le_of_not_lt fun hl => hcell ⟨hr, hl⟩
    rw [cellEntry, cellEntry, ht]
    by_cases hr : r < s.repair.cells.length
    · rw [cellSet, List.set_eq_of_length_le (hout hr)]
      simp [cellAt, List.getD_eq_getElem?_getD, hr]
    · rw [cellSet, List.set_eq_of_length_le (Nat.le_of_not_lt hr)]

/-- A pass noted changes no state and makes no die bad or good that was not. -/
theorem cellEntry_notePass (d : DieRef) (s : State) (r l : Nat) :
    (cellEntry (notePass d s) r l).state = (cellEntry s r l).state
      ∧ ∀ x, ((cellEntry (notePass d s) r l).health x).bad = ((cellEntry s r l).health x).bad := by
  by_cases hunknown : healthOf s d = .unknown
  · rw [notePass, if_pos hunknown]
    obtain h | ⟨rfl, rfl, h⟩ := cellEntry_after_cellSet (s := s) (t := setHealth d .good s) rfl r l
    · rw [h]
      exact ⟨rfl, fun _ => rfl⟩
    · rw [h]
      obtain ⟨dr, dl, dd⟩ := d
      rw [healthOf] at hunknown
      refine ⟨?_, fun x => ?_⟩
      · cases dd <;> rfl
      · cases dd <;> cases x <;> simp_all [CellEntry.health, CellEntry.withHealth, Health.bad]
  · rw [notePass, if_neg hunknown]
    exact ⟨rfl, fun _ => rfl⟩

theorem walkSkips_notePass (d : DieRef) (s : State) (x : DieRef) : walkSkips (notePass d s) x = walkSkips s x := by
  obtain ⟨hstate, hbad⟩ := cellEntry_notePass d s x.row x.lane
  have hrest : (notePass d s).repair = { s.repair with cells := (notePass d s).repair.cells } := by
    rw [notePass]; split <;> rfl
  have htrack : (notePass d s).track = s.track := by rw [notePass]; split <;> rfl
  have hcorr : (notePass d s).corr = s.corr := by rw [notePass]; split <;> rfl
  rw [walkSkips, walkSkips, hstate, healthOf, hbad, rowNow, laneNow, laneReserved, laneUndecided, hrest, htrack, hcorr]
  rfl

/-! ## Events that do not come about (R66, R89, R117) -/

theorem enterBind_of_not_ended {s : State} (h : ∀ b r, s.repair.bind = some b → b.stage ≠ .ended r) : enterBind s = s := by
  unfold enterBind
  cases hb : s.repair.bind with
  | none => rfl
  | some b =>
    cases hstage : b.stage with
    | ended r => exact absurd hstage (h b r hb)
    | _ => simp [hstage]

theorem enterSpots_of_waiting {s : State} (h : ∀ e ∈ s.sense.spots, e.status = .waiting) : enterSpots s = s :=
  foldl_fixed (fun _ => enterSpot_waits fun e he => h e (List.mem_of_mem_head? he)) _

theorem offerReplies_of_noReplyDue {s : State} (h : NoReplyDue s) : offerReplies s = s := by
  obtain hfull | ⟨hspots, hbind⟩ := h
  · rw [offerReplies, enterSpots_of_full (Nat.not_lt.mpr hfull), enterBind_of_full (Nat.not_lt.mpr hfull)]
  · rw [offerReplies, enterSpots_of_waiting hspots, enterBind_of_not_ended hbind]

theorem takeLoop_of_not_canTake {s : State} (h : canTake s = false) (n : Nat) : takeLoop n s = s := by
  cases n with
  | zero => rfl
  | succ n => rw [takeLoop, if_neg (by simp [h])]

theorem takeAll_of_not_canTake {s : State} (h : canTake s = false) : takeAll s = s := takeLoop_of_not_canTake h _

theorem canTake_of_empty {s : State} (h : s.track.queue = []) : canTake s = false :=
  Bool.eq_false_iff.mpr fun hcan => ((canTake_iff s).mp hcan).2.2.2 h

theorem canTake_of_noTake {s : State} (h : NoTake s) : canTake s = false := by
  refine Bool.eq_false_iff.mpr fun hcan => ?_
  obtain ⟨hcheck, hmode, hwaiting, -⟩ := (canTake_iff s).mp hcan
  exact h.elim (absurd hcheck) (Or.rec (absurd hwaiting) (absurd · hmode))

/-- No hold ends while no lane decision is held, or its isolation waits. -/
theorem releaseHold_of_not_due {s : State} (h : ∀ x, s.repair.heldLane = some x → x.isolationWaits = true) :
    releaseHold s = s := by
  unfold releaseHold
  cases hcheck : s.corr.check with
  | none => rfl
  | some c =>
    cases hheld : s.repair.heldLane with
    | none => rfl
    | some x => simp [h x hheld]

/-! ## After a walk test that passed (R52, R56) -/

theorem suspectOf_eq_none {s : State} {d : DieRef} (h : ∀ x ∈ s.track.suspects, x.die ≠ d) : suspectOf s d = none :=
  List.find?_eq_none.mpr fun x hx => by simp [h x hx]

theorem handSuspect_good_of_no_record {t : TestRecord} {s : State} (h : ∀ x ∈ s.track.suspects, x.die ≠ t.die) :
    handSuspect t .good s = (notePass t.die s, .none) := by
  simp [handSuspect, applyResult, suspectOf_eq_none h, TestResult.failing]

/-- The state in which a walk test that passed leaves the grant decision to be made. -/
def walkPassed (t : TestRecord) (s : State) : State :=
  notePass t.die (releaseLines (s.withSense { s.sense with test := none }))

/-- A pass noted leaves the whole part but the health of its die. -/
theorem notePass_eq (d : DieRef) (s : State) :
    notePass d s = s.withRepair { s.repair with cells := (notePass d s).repair.cells } := by
  rw [notePass]; split <;> rfl

theorem walkPassed_eq (t : TestRecord) (s : State) : walkPassed t s
    = ((s.withSense { s.sense with test := none }).withScan (walkPassed t s).scan).withRepair
        { s.repair with cells := (walkPassed t s).repair.cells } := by
  rw [walkPassed, notePass_eq]
  generalize (notePass t.die _).repair.cells = cells
  rw [releaseLines]
  cases hstate : (s.withSense { s.sense with test := none }).scan.state <;> rfl

theorem exec_testCompletion_of_drives {t : TestRecord} {s : State} (htest : s.sense.test = some t)
    (hdriver : t.driver.isSome = true) (knee : Option (Fin 255)) :
    exec (.testCompletion knee) s = .next (testEnd t knee s) := by
  show execTestCompletion knee s = _
  rw [execTestCompletion, htest]
  dsimp only
  rw [if_pos hdriver]

section
variable {t : TestRecord} {knee : Option (Fin 255)} {s : State} (h : GrantComesNext t knee s)
include h

theorem exec_testCompletion_of_grantComesNext :
    exec (.testCompletion knee) s = .next (decideGrant (walkPassed t s)) := by
  have hframe := walkPassed_eq t s
  have hsettle : settle (walkPassed t s) = walkPassed t s := by
    rw [settle, releaseHold_of_not_due, takeAll_of_not_canTake (canTake_of_empty _)]
    · rw [hframe]; exact h.queue
    · rw [hframe]; exact h.heldLane
  have hoffer : offerReplies (walkPassed t s) = walkPassed t s := by
    refine offerReplies_of_noReplyDue ?_
    rw [hframe]
    exact h.replies
  have hnone : ∀ x ∈ (releaseLines (s.withSense { s.sense with test := none })).track.suspects, x.die ≠ t.die := by
    rw [(GrantFrame.releaseLines _).track]
    exact h.record
  rw [exec_testCompletion_of_drives h.test h.driver, testEnd, handResult, h.source, h.good]
  dsimp only
  rw [handSuspect_good_of_no_record hnone]
  show Host.Outcome.next (decideGrant (offerReplies (settle (walkPassed t s)))) = _
  rw [hsettle, hoffer]

omit h in
theorem sameGrants_walkPassed : SameGrants s (walkPassed t s) := by
  have hframe := walkPassed_eq t s
  refine ⟨?_, ?_, ?_, ?_, ?_, ?_, ?_, ?_, fun x => ?_⟩
  iterate 8 rw [hframe]; rfl
  rw [walkPassed, walkSkips_notePass]
  unfold releaseLines
  split <;> rfl

end

theorem walkPassed_scan (t : TestRecord) (s : State) :
    (walkPassed t s).scan = (releaseLines (s.withSense { s.sense with test := none })).scan := by
  rw [walkPassed, notePass_eq]; rfl

theorem releaseLines_of_lent {s : State} (h : s.scan.state = .lent) :
    releaseLines s = s.withScan { s.scan with state := .stopped, phase := none } := by rw [releaseLines, h]

theorem releaseLines_of_yielded {s : State} (h : s.scan.state = .yielded) : releaseLines s = startPhase s := by
  rw [releaseLines, h]

theorem walkPassed_scan_of_lent {t : TestRecord} {s : State} (h : s.scan.state = .lent) :
    (walkPassed t s).scan = { s.scan with state := .stopped, phase := none } := by
  rw [walkPassed_scan, releaseLines_of_lent (by exact h)]
  rfl

theorem walkPassed_scan_of_yielded {t : TestRecord} {s : State} (h : s.scan.state = .yielded) :
    (walkPassed t s).scan.state = .scanning := by
  rw [walkPassed_scan, releaseLines_of_yielded (by exact h)]
  rfl

/-- Settles O33. -/
theorem theWalkTakesTheNextDie : Obligations.TheWalkTakesTheNextDie := by
  intro t knee atOnce s h hscan
  refine ⟨_, exec_testCompletion_of_grantComesNext h,
    walkDecides_decideGrant sameGrants_walkPassed h.window h.slotLeft ?_⟩
  cases atOnce with
  | false => rw [walkPassed_scan_of_yielded hscan]; simp
  | true => rw [walkPassed_scan_of_lent hscan]; simp

/-- What the claim of a test granted with the Scan Driver STOPPED leaves of it (R16, R53). -/
theorem takeClaim_scan_of_stopped (t : TestRecord) {s : State} (hstate : s.scan.state = .stopped)
    (hphase : s.scan.phase = none) :
    (∃ d, takeClaim t .lent s
        = (connect t d (s.withScan { s.scan with state := .lent, phase := none }), false))
      ∨ takeClaim t .lent s = (s.withSense { s.sense with test := none }, true) := by
  unfold takeClaim
  dsimp only
  split
  · next d _ => exact .inl ⟨d, rfl⟩
  · refine .inr ?_
    have hscan : { s.scan with state := .stopped, phase := none } = s.scan := by rw [← hstate, ← hphase]
    rw [releaseLines_of_lent rfl]
    exact congrArg (fun sc => ((s.withScan sc).withSense { s.sense with test := none }, true)) hscan

/-- From a STOPPED Scan Driver: LENT to the test in flight, or STOPPED still. -/
def LentToTest (sc : ScanDriver) (u : State) : Prop :=
  (∀ x, u.sense.test = some x → u.scan
      = { sc with state := .lent, phase := none, traces := sc.traces.set x.die.lane x.die.die })
    ∧ (u.sense.test = none → u.scan = sc)

theorem lentToTest_of_no_test {s : State} (h : s.sense.test = none) : LentToTest s.scan s :=
  ⟨fun x hx => by simp [h] at hx, fun _ => rfl⟩

/-- Outside the scan a grant decision lends the lines to the test granted, or leaves the Scan Driver STOPPED. -/
theorem lentToTest_grantDecision (n : Nat) : ∀ s : State, s.scan.state = .stopped → s.scan.phase = none →
    s.sense.test = none → LentToTest s.scan (grantDecision n s) := by
  induction n with
  | zero => exact fun s _ _ htest => lentToTest_of_no_test htest
  | succ n ih =>
    intro s hstate hphase htest
    rw [grantDecision]
    split
    · cases pickGrant s with
      | none => exact lentToTest_of_no_test (s := closeWindow s) htest
      | some g =>
        dsimp only
        rw [if_pos (show (takeGrant g s).scan.state = .stopped from hstate)]
        obtain ⟨d, hclaim⟩ | hclaim := takeClaim_scan_of_stopped (formTest s g) (s := takeGrant g s) hstate hphase
        · rw [hclaim]
          refine ⟨fun x hx => ?_, nofun⟩
          obtain rfl : _ = x := Option.some.inj hx
          rfl
        · rw [hclaim]
          exact ih _ hstate hphase rfl
    · exact lentToTest_of_no_test htest

theorem grantDecision_of_closed {s : State} (h : s.sense.windowOpen = false) (n : Nat) : grantDecision n s = s := by
  cases n with
  | zero => rfl
  | succ n => simp [grantDecision, h]

/-- Settles O32. -/
theorem grantsGoToTheFirstEligibleSource : Obligations.GrantsGoToTheFirstEligibleSource := by
  intro t knee s h
  have hexec := exec_testCompletion_of_grantComesNext h
  have hsame : SameGrants s (walkPassed t s) := sameGrants_walkPassed
  refine ⟨fun hscan => ⟨_, hexec, grantDecides_decideGrant hsame h.window h.slotLeft ?_⟩, fun hscan => ?_,
    fun hscan hv c p x hcheck hverify hp hpending htarget htried hdark hlast => ⟨_, hexec, ?_⟩⟩
  · rw [walkPassed_scan_of_yielded hscan]; simp
  · have hlines := walkPassed_scan_of_lent (t := t) hscan
    have hlent := lentToTest_grantDecision maxGrants (walkPassed t s) (by rw [hlines]) (by rw [hlines]) (by rw [hsame.sense])
    rw [hlines] at hlent
    exact ⟨_, hexec, grantDecides_decideGrant hsame h.window h.slotLeft (by rw [hlines]; simp), hlent⟩
  · have hlines := walkPassed_scan_of_lent (t := t) hscan
    have hpick : pickGrant s = some ⟨.probe 0, x, none⟩ := by
      rw [pickGrant, grantVerify_of_none hv, grantProbe_of_first hcheck hverify (by omega) hp hpending htarget htried nofun]
      rfl
    let g : Grant := ⟨.probe 0, x, none⟩
    have hclaim := takeClaim_of_withdrawn (s := takeGrant g (walkPassed t s)) (t := formTest s g)
      ⟨(hsame.laneNow x.lane).trans hdark, .inr (.inr ⟨0, rfl⟩)⟩ .lent
    have hsense : { (takeGrant g (walkPassed t s)).sense with test := none }
        = { grantedSense s (grantedTest s (.probe 0) x) with
            test := none, tried := { s.sense.tried with probe0 := true } } := by
      rw [hsame.takeGrant_sense]
      exact congrArg (fun u : SenseUnit => { u with test := none }) (grantLeaves_eq s false g)
    rw [decideGrant_eq hsame h.window h.slotLeft, hpick]
    dsimp only
    rw [if_pos (by rw [hlines]), hclaim, hsense]
    dsimp only
    rw [releaseLines_of_lent rfl, grantDecision_of_closed (by simp [grantedSense, hlast])]
    exact ⟨rfl, rfl⟩

end Sys2Proof.Machine

/-! Walk, retest and spot results, and the suspect records (O34, O35, O36). -/

namespace Sys2Proof.Machine

-- One theorem at a time: elaborated at once, they wait on each other and each holds a thread.
set_option Elab.async false

/-! ## What the fault path leaves of the manual bind (R127) -/

theorem applyChange_bind (frame : Nat) (s : State) (c : Change) :
    (applyChange frame s c).repair.bind = s.repair.bind := by
  cases c with
  | cell r l st => rfl
  | row r st => rw [applyChange_row]; split <;> simp
  | lane l st disp => rw [applyChange_lane]; split <;> rfl
  | removal x seq => rfl

@[simp] theorem applyChanges_bind (s : State) : (applyChanges s).repair.bind = s.repair.bind := by
  have hat : (applyChangesAt s.store.frameCount s).repair.bind = s.repair.bind :=
    List.foldlRecOn (motive := fun u : State => u.repair.bind = s.repair.bind) _ _ rfl
      fun _ hu c _ => (applyChange_bind _ _ c).trans hu
  simp only [applyChanges]
  split
  · exact hat
  · exact hat

@[simp] theorem addChanges_bind (cs : List Change) (s : State) : (addChanges cs s).repair.bind = s.repair.bind := by
  unfold addChanges
  dsimp only
  split
  · exact applyChanges_bind _
  · rfl

@[simp] theorem decisionRecord_bind (t : Target) (k : DefectKind) (a : DefectAction) (slot : Option Nat) (v hot : Bool)
    (s : State) : (decisionRecord t k a slot v hot s).repair.bind = s.repair.bind := by rw [decisionRecord_eq]; rfl

@[simp] theorem leaveUnrecorded_bind (s : State) : (leaveUnrecorded s).repair.bind = s.repair.bind := by
  rw [leaveUnrecorded_eq]; rfl

@[simp] theorem decideCell_bind (auto : Bool) (x : DieRef) (k : FaultKind) (hot : Bool) (s : State) :
    (decideCell auto x k hot s).repair.bind = s.repair.bind := by
  unfold decideCell
  repeat' split
  · simp
  · rfl
  · unfold cellEffects
    dsimp only
    split <;> simp [dieRemoval]

@[simp] theorem decideRow_bind (auto : Bool) (r : Nat) (hot : Bool) (s : State) :
    (decideRow auto r hot s).repair.bind = s.repair.bind := by
  unfold decideRow
  repeat' split
  · simp
  · simp [rowRemoval]
  · rfl
  · simp [rowRemoval]

@[simp] theorem decideWide_bind (x : DieRef) (hot : Bool) (s : State) :
    (decideWide x hot s).repair.bind = s.repair.bind := by
  unfold decideWide
  split
  · simp
  · simp [dieRemoval, suspendPolicy]

@[simp] theorem adviseLane_bind (l : Nat) (hot : Bool) (s : State) : (adviseLane l hot s).repair.bind = s.repair.bind := by
  unfold adviseLane
  split <;> simp

@[simp] theorem freeReserved_bind (l : Nat) (ks : List Nat) (s : State) :
    (freeReserved l ks s).repair.bind = s.repair.bind := rfl

@[simp] theorem finishRecord_bind (l : Nat) (hot : Bool) (f : LaneFinish) (s : State) :
    (finishRecord l hot f s).repair.bind = s.repair.bind := by
  cases f <;> simp [finishRecord, blame_eq]

@[simp] theorem finishLane_bind (l : Nat) (hot : Bool) (f : LaneFinish) (iso : Bool) (s : State) :
    (finishLane l hot f iso s).repair.bind = s.repair.bind := by
  unfold finishLane
  repeat' split
  · rfl
  · simp
  · simp
  · simp
  · rfl

@[simp] theorem endCheck_bind (s : State) : (endCheck s).repair.bind = s.repair.bind := by simp [endCheck]

@[simp] theorem searchSlot_bind (c : Check) (iso : Bool) (s : State) :
    (searchSlot c iso s).repair.bind = s.repair.bind := by
  unfold searchSlot
  split
  · have hsame : (verifyDie c.die s).2.repair = s.repair := by
      unfold verifyDie
      split <;> rfl
    show (verifyDie c.die s).2.repair.bind = _
    rw [hsame]
  · simp

@[simp] theorem isolate_bind (l : Nat) (hot : Bool) (s : State) : (isolate l hot s).repair.bind = s.repair.bind := by
  unfold isolate
  repeat' split
  · simp
  · simp
  · rfl

@[simp] theorem releaseHold_bind (s : State) : (releaseHold s).repair.bind = s.repair.bind := by
  unfold releaseHold
  repeat' split
  · rfl
  · simp
  · rfl

@[simp] theorem handOutcome_bind (c : Check) (s : State) : (handOutcome c s).repair.bind = s.repair.bind := by
  unfold handOutcome autoLane
  repeat' split
  · simp
  · simp
  · simp
  · dsimp only
    repeat' split
    · simp [laneRemoval]
    · simp [laneRemoval]
    · simp [laneRemoval]
    · simp [laneRemoval]

@[simp] theorem takeOne_bind (s : State) : (takeOne s).repair.bind = s.repair.bind := by
  unfold takeOne
  split
  · rfl
  · dsimp only
    repeat' split
    · simp
    · unfold startCheck
      dsimp only
      split <;> simp
    · simp
    · simp

@[simp] theorem takeAll_bind (s : State) : (takeAll s).repair.bind = s.repair.bind := by
  have hloop (n : Nat) : ∀ t : State, (takeLoop n t).repair.bind = t.repair.bind := by
    induction n with
    | zero => exact fun _ => rfl
    | succ n ih =>
      intro t
      rw [takeLoop]
      split
      · rw [ih, takeOne_bind]
      · rfl
  exact hloop _ _

/-- The takes bring no reply. -/
theorem noReplyDue_takeAll {s : State} (h : NoReplyDue s) : NoReplyDue (takeAll s) := by
  have hframe := FaultFrame.takeAll s
  rwa [NoReplyDue, hframe.replies, hframe.sense, takeAll_bind]

/-! ## The end of a test (R54, R56) -/

/-- The part with the drive lines back and no test in flight (R10, R54). -/
def linesBack (s : State) : State := releaseLines (s.withSense { s.sense with test := none })

theorem linesBack_eq (s : State) :
    linesBack s = (s.withSense { s.sense with test := none }).withScan (linesBack s).scan := by
  rw [linesBack, releaseLines]
  cases (s.withSense { s.sense with test := none }).scan.state <;> rfl

@[simp] theorem linesBack_straps (s : State) : (linesBack s).straps = s.straps := by rw [linesBack_eq]; rfl
@[simp] theorem linesBack_link (s : State) : (linesBack s).link = s.link := by rw [linesBack_eq]; rfl
@[simp] theorem linesBack_unit (s : State) : (linesBack s).unit = s.unit := by rw [linesBack_eq]; rfl
@[simp] theorem linesBack_ctl (s : State) : (linesBack s).ctl = s.ctl := by rw [linesBack_eq]; rfl
@[simp] theorem linesBack_store (s : State) : (linesBack s).store = s.store := by rw [linesBack_eq]; rfl
@[simp] theorem linesBack_comp (s : State) : (linesBack s).comp = s.comp := by rw [linesBack_eq]; rfl
@[simp] theorem linesBack_track (s : State) : (linesBack s).track = s.track := by rw [linesBack_eq]; rfl
@[simp] theorem linesBack_corr (s : State) : (linesBack s).corr = s.corr := by rw [linesBack_eq]; rfl
@[simp] theorem linesBack_repair (s : State) : (linesBack s).repair = s.repair := by rw [linesBack_eq]; rfl
@[simp] theorem linesBack_sense (s : State) : (linesBack s).sense = { s.sense with test := none } := by rw [linesBack_eq]; rfl

theorem linesBack_scan_of_lent {s : State} (h : s.scan.state = .lent) : (linesBack s).scan.state = .stopped := by
  rw [linesBack, releaseLines_of_lent (by exact h)]; rfl

theorem linesBack_scan_of_yielded {s : State} (h : s.scan.state = .yielded) : (linesBack s).scan.state = .scanning := by
  rw [linesBack, releaseLines_of_yielded (by exact h)]; rfl

/-- A result applied changes the Suspect Tracker and the pending notices alone. -/
theorem applyResult_frame (d : DieRef) (r : TestResult) (w : Nat) (s : State) : (applyResult d r w s).1
    = (s.withTrack (applyResult d r w s).1.track).withUnit
        { s.unit with notices := (applyResult d r w s).1.unit.notices } := by
  have hconfirm (x : Suspect) (k : FaultKind) : confirm x k s
      = (s.withTrack (confirm x k s).track).withUnit { s.unit with notices := (confirm x k s).unit.notices } := by
    unfold confirm
    split
    · rfl
    · rw [raise_or]; rfl
  unfold applyResult
  split
  · split
    · rfl
    · split
      · rw [raise_or]; rfl
      · split <;> rfl
  · split
    · rfl
    · split
      · rfl
      · dsimp only
        split <;> rfl
      all_goals
        dsimp only
        split
        · exact hconfirm _ _
        · rfl

theorem handSuspect_of_not_good {r : TestResult} (h : r ≠ .good) (t : TestRecord) (s : State) :
    handSuspect t r s = applyResult t.die r t.grantWindow s := by simp [handSuspect, h]

theorem handSuspect_good (t : TestRecord) (s : State) : handSuspect t .good s
    = (notePass t.die (applyResult t.die .good t.grantWindow s).1, (applyResult t.die .good t.grantWindow s).2) := rfl

/-- A result handed on changes the Suspect Tracker, the pending notices and the health of its die alone. -/
theorem handSuspect_frame (t : TestRecord) (r : TestResult) (s : State) : (handSuspect t r s).1
    = ((s.withTrack (handSuspect t r s).1.track).withUnit
        { s.unit with notices := (handSuspect t r s).1.unit.notices }).withRepair
          { s.repair with cells := (handSuspect t r s).1.repair.cells } := by
  by_cases hgood : r = .good
  · subst hgood
    rw [handSuspect_good]
    dsimp only
    rw [notePass_eq, applyResult_frame]
    rfl
  · rw [handSuspect_of_not_good hgood, applyResult_frame]
    rfl

theorem handResult_windowOpen (t : TestRecord) (r : TestResult) (tick : Nat) (s : State) :
    (handResult t r tick s).sense.windowOpen = s.sense.windowOpen := by
  have hfault {u : State} (h : FaultFrame s u) : u.sense.windowOpen = s.sense.windowOpen := by rw [h.sense]
  unfold handResult
  split
  · rw [handSuspect_frame]; rfl
  · rw [handSuspect_frame]; rfl
  · dsimp only
    rw [handSuspect_frame]; rfl
  · exact hfault (.probeDone _ _ _)
  · split
    · exact hfault (.verifyDone _ _ _ _)
    · split
      · split
        · exact hfault (.bindDone _ _ _ _)
        · rfl
      · rfl

section
variable {t : TestRecord} {s : State} (h : EndsAlone t s) (knee : Option (Fin 255))
include h

/-- In a window that has closed no grant follows the end of a test. -/
theorem exec_testCompletion_of_endsAlone : exec (.testCompletion knee) s = .next
    (offerReplies (settle (handResult t (classify t knee) (reportedT t knee) (linesBack s)))) := by
  rw [exec_testCompletion_of_drives h.test h.driver, testEnd, decideGrant_of_closed]
  · rfl
  · rw [(OfferFrame.offerReplies _).sense]
    show (settle _).sense.windowOpen = false
    rw [(FaultFrame.settle _).sense]
    show (handResult _ _ _ _).sense.windowOpen = false
    rw [handResult_windowOpen, (releaseLines_sense _)]
    exact h.window

/-- A result handed to the Suspect Tracker, with no lane decision held. -/
theorem exec_testCompletion_of_suspect (hsource : t.source = .walk ∨ t.source = .retest) :
    exec (.testCompletion knee) s
      = .next (offerReplies (takeAll (handSuspect t (classify t knee) (linesBack s)).1)) := by
  have hhand : handResult t (classify t knee) (reportedT t knee) (linesBack s)
      = (handSuspect t (classify t knee) (linesBack s)).1 := by
    obtain hsource | hsource := hsource <;> rw [handResult, hsource]
  rw [exec_testCompletion_of_endsAlone h, hhand, settle, releaseHold_of_not_due]
  rw [handSuspect_frame, linesBack_eq]
  exact fun x hx => absurd (hx.symm.trans h.heldLane) (by simp)

end

/-! ## A die without a record (R74) -/

theorem trackable_iff (s : State) (d : DieRef) : trackable s d = true ↔ MayBeWatched s d := by
  have hundecided : laneUndecided s d.lane = false
      ↔ (∀ hot f, s.repair.waiting ≠ some (.lane d.lane hot f))
        ∧ (∀ c h, s.corr.check = some c → s.repair.heldLane = some h → c.die.lane ≠ d.lane) := by
    rw [laneUndecided, Bool.or_eq_false_iff]
    refine and_congr ?_ ?_
    · rcases s.repair.waiting with _ | ⟨_ | _ | _⟩ <;> simp
    · cases s.repair.heldLane <;> cases s.corr.check <;> simp
  rw [trackable, MayBeWatched]
  simp only [Bool.and_eq_true, Bool.not_eq_true', hundecided, laneReserved]
  have hslots : s.repair.slots.any (· == .reserved d.lane) = false ↔ .reserved d.lane ∉ s.repair.slots :=
    ⟨fun h hmem => List.any_eq_false.mp h _ hmem (beq_self_eq_true _),
      fun h => List.any_eq_false.mpr fun x hx hsame => h (beq_iff_eq.mp hsame ▸ hx)⟩
  rw [hslots]
  cases s.corr.check <;> simp [and_assoc]

theorem applyResult_of_no_record {d : DieRef} {r : TestResult} {s : State} (h : ∀ x ∈ s.track.suspects, x.die ≠ d)
    (hr : r.failing = none) (w : Nat) : applyResult d r w s = (s, .none) := by
  simp [applyResult, suspectOf_eq_none h, hr]

theorem applyResult_of_no_record_failing {d : DieRef} {r : TestResult} {k : FailKind} {s : State}
    (h : ∀ x ∈ s.track.suspects, x.die ≠ d) (hr : r.failing = some k) (w : Nat) : applyResult d r w s
      = if 32 ≤ s.track.suspects.length then (raise .listFull s, .notTracked)
        else if trackable s d = true then
          (s.withTrack { s.track with
            suspects := s.track.suspects ++ [⟨d, k, 1, 0, 0, s.store.frameCount, some w, none⟩] }, .new)
        else (s, .notTracked) := by
  rw [applyResult, suspectOf_eq_none h, hr]

/-- The health that a pass leaves (R106). -/
theorem cellEntry_notePass_same {d : DieRef} {s : State} (h : HasCell s d.row d.lane) :
    cellEntry (notePass d s) d.row d.lane = (cellEntry s d.row d.lane).withHealth d.die
      (if healthOf s d = .unknown then .good else healthOf s d) := by
  by_cases hunknown : healthOf s d = .unknown
  · rw [notePass, if_pos hunknown, if_pos hunknown]
    exact (cellEntry_set (s := s) rfl h).trans (if_pos ⟨rfl, rfl⟩)
  · rw [notePass, if_neg hunknown, if_neg hunknown, healthOf]
    cases d.die <;> rfl

theorem cellEntry_notePass_other {d : DieRef} {s : State} {r l : Nat} (h : r ≠ d.row ∨ l ≠ d.lane) :
    cellEntry (notePass d s) r l = cellEntry s r l := by
  by_cases hunknown : healthOf s d = .unknown
  · rw [notePass, if_pos hunknown]
    exact cellAt_cellSet_other _ _ _ _ _ _ _ h
  · rw [notePass, if_neg hunknown]

theorem mayBeWatched_linesBack (s : State) (d : DieRef) : MayBeWatched (linesBack s) d ↔ MayBeWatched s d := by
  rw [linesBack_eq]; exact Iff.rfl

theorem failing_iff (r : TestResult) (k : FailKind) : r.failing = some k
    ↔ (r = .openDie ∧ k = .openDie) ∨ (r = .shortDie ∧ k = .shortDie) := by
  cases r <;> cases k <;> simp [TestResult.failing]

theorem failing_of_or {r : TestResult} (h : r = .openDie ∨ r = .shortDie) : ∃ k, r.failing = some k := by
  obtain rfl | rfl := h <;> exact ⟨_, rfl⟩

theorem failing_eq_none_iff (r : TestResult) : r.failing = none ↔ r = .good ∨ r = .inconclusive := by
  cases r <;> simp [TestResult.failing]

/-- What a result makes of the tracker, of the pending notices and of the suspect effect, where its die has no record. -/
theorem handSuspect_of_no_record {t : TestRecord} {r : TestResult} {s : State}
    (h : ∀ x ∈ s.track.suspects, x.die ≠ t.die) :
    (r.failing = none → (handSuspect t r s).1.track = s.track
      ∧ (handSuspect t r s).1.unit.notices = s.unit.notices ∧ (handSuspect t r s).2 = .none)
    ∧ (∀ k, r.failing = some k →
      (MayBeWatched s t.die → s.track.suspects.length < 32 →
        (handSuspect t r s).1.track = { s.track with
          suspects := s.track.suspects ++ [⟨t.die, k, 1, 0, 0, s.store.frameCount, some t.grantWindow, none⟩] }
        ∧ (handSuspect t r s).1.unit.notices = s.unit.notices ∧ (handSuspect t r s).2 = .new)
      ∧ (¬ MayBeWatched s t.die → s.track.suspects.length < 32 → (handSuspect t r s).1.track = s.track
        ∧ (handSuspect t r s).1.unit.notices = s.unit.notices ∧ (handSuspect t r s).2 = .notTracked)
      ∧ (32 ≤ s.track.suspects.length → (handSuspect t r s).1.track = s.track
        ∧ (handSuspect t r s).1.unit.notices = { s.unit.notices with
            listFull := s.unit.notices.listFull || s.unit.params.noticeMask.listFull }
        ∧ (handSuspect t r s).2 = .notTracked)) := by
  refine ⟨fun hr => ?_, fun k hr => ?_⟩
  · by_cases hgood : r = .good
    · subst hgood
      rw [handSuspect_good_of_no_record h, notePass_eq]
      exact ⟨rfl, rfl, rfl⟩
    · rw [handSuspect_of_not_good hgood, applyResult_of_no_record h hr]
      exact ⟨rfl, rfl, rfl⟩
  · have hgood : r ≠ .good := by rintro rfl; cases hr
    rw [handSuspect_of_not_good hgood, applyResult_of_no_record_failing h hr]
    refine ⟨fun hwatch hroom => ?_, fun hwatch hroom => ?_, fun hfull => ?_⟩
    · rw [if_neg (Nat.not_le.mpr hroom), if_pos ((trackable_iff _ _).mpr hwatch)]
      exact ⟨rfl, rfl, rfl⟩
    · rw [if_neg (Nat.not_le.mpr hroom), if_neg (mt (trackable_iff _ _).mp hwatch)]
      exact ⟨rfl, rfl, rfl⟩
    · rw [if_pos hfull]
      dsimp only
      rw [raise_or]
      exact ⟨rfl, rfl, rfl⟩

theorem handSuspect_cells_of_not_good {t : TestRecord} {r : TestResult} (h : r ≠ .good) (s : State) :
    (handSuspect t r s).1.repair = s.repair := by
  rw [handSuspect_of_not_good h, applyResult_frame]; rfl

theorem queue_handSuspect_of_no_record {t : TestRecord} {r : TestResult} {s : State}
    (h : ∀ x ∈ s.track.suspects, x.die ≠ t.die) : (handSuspect t r s).1.track.queue = s.track.queue := by
  obtain ⟨hpass, hfail⟩ := handSuspect_of_no_record (r := r) h
  cases hr : r.failing with
  | none => rw [(hpass hr).1]
  | some k =>
    obtain ⟨hnew, hdropped, hfull⟩ := hfail k hr
    by_cases hroom : s.track.suspects.length < 32
    · by_cases hwatch : MayBeWatched s t.die
      · rw [(hnew hwatch hroom).1]
      · rw [(hdropped hwatch hroom).1]
    · rw [(hfull (Nat.le_of_not_lt hroom)).1]

/-- Settles O34. -/
theorem walkResultsAreApplied : Obligations.WalkResultsAreApplied := by
  intro t d knee s htest hdriver hsource hwindow hquiet hnone hcell
  have halone : EndsAlone t s := ⟨htest, by rw [hdriver]; rfl, hwindow, hquiet.heldLane⟩
  have hnone' : ∀ x ∈ (linesBack s).track.suspects, x.die ≠ t.die := by rw [linesBack_track]; exact hnone
  have hqueue := queue_handSuspect_of_no_record (r := classify t knee) hnone'
  rw [linesBack_track] at hqueue
  have hframe := handSuspect_frame t (classify t knee) (linesBack s)
  obtain ⟨hpass, hfail⟩ := handSuspect_of_no_record (r := classify t knee) hnone'
  have hcells (hgood : classify t knee ≠ .good) := handSuspect_cells_of_not_good (t := t) hgood (linesBack s)
  rw [exec_testCompletion_of_suspect halone knee (.inl hsource),
    takeAll_of_not_canTake (canTake_of_empty (hqueue.trans hquiet.queue))]
  have hoffer := OfferFrame.offerReplies (handSuspect t (classify t knee) (linesBack s)).1
  have hscan : (handSuspect t (classify t knee) (linesBack s)).1.scan = (linesBack s).scan := by rw [hframe]; rfl
  have hentry (r l : Nat) : cellEntry (offerReplies (handSuspect t (classify t knee) (linesBack s)).1) r l
      = cellEntry (handSuspect t (classify t knee) (linesBack s)).1 r l := by
    rw [cellEntry, hoffer.repair]; rfl
  refine ⟨_, rfl, ?_, ?_, ?_, ?_, ?_, ?_, ?_, fun hlent => ?_, fun hyielded => ?_, ?_, ?_, ?_, ?_, fun hgood => ?_,
    fun hinconclusive => ?_, fun k hk => ?_⟩
  · rw [hoffer.sense, hframe]; simp
  · rw [hoffer.track, hqueue]
  · rw [hoffer.repair, hframe]; simp
  · rw [hoffer.sense, hframe]; simp
  · rw [hoffer.unit, hframe]; simp
  · rw [hoffer.corr, hframe]; simp
  · rw [hoffer.straps, hframe]; simp
  · rw [hoffer.scan, hscan, linesBack_scan_of_lent hlent]
  · rw [hoffer.scan, hscan, linesBack_scan_of_yielded hyielded]
  · rw [hoffer.ctl, hframe]; simp
  · rw [hoffer.store, hframe]; simp
  · rw [hoffer.comp, hframe]; simp
  · rw [hoffer.link, hframe]; simp
  · obtain ⟨htrack, hnotices, -⟩ := hpass (by rw [hgood]; rfl)
    have hhand : (handSuspect t (classify t knee) (linesBack s)).1 = notePass t.die (linesBack s) := by
      rw [hgood, handSuspect_good_of_no_record hnone']
    refine ⟨?_, ?_, ?_, fun r l hother => ?_⟩
    · rw [hoffer.track, htrack, linesBack_track]
    · rw [hoffer.unit]
      exact hnotices.trans (by rw [linesBack_unit])
    · rw [hentry, hhand, cellEntry_notePass_same (by rw [HasCell, linesBack_repair]; exact hcell), healthOf, cellEntry,
        linesBack_repair]
      rfl
    · rw [hentry, hhand, cellEntry_notePass_other hother, cellEntry, linesBack_repair]
      rfl
  · obtain ⟨htrack, hnotices, -⟩ := hpass (by rw [hinconclusive]; rfl)
    refine ⟨?_, ?_, ?_⟩
    · rw [hoffer.track, htrack, linesBack_track]
    · rw [hoffer.unit]
      exact hnotices.trans (by rw [linesBack_unit])
    · rw [hoffer.repair, hcells (by rw [hinconclusive]; nofun), linesBack_repair]
  · have hr := (failing_iff _ k).mpr hk
    obtain ⟨hnew, hdropped, hfull⟩ := hfail k hr
    simp only [mayBeWatched_linesBack, linesBack_track, linesBack_unit, linesBack_store] at hnew hdropped hfull
    refine ⟨?_, fun hwatch hroom => ?_, fun hwatch hroom => ?_, fun hlong => ?_⟩
    · rw [hoffer.repair, hcells (by rintro hgood; rw [hgood] at hr; cases hr), linesBack_repair]
    · obtain ⟨htrack, hnotices, -⟩ := hnew hwatch hroom
      rw [hoffer.track, hoffer.unit, htrack]
      exact ⟨rfl, hnotices⟩
    · obtain ⟨htrack, hnotices, -⟩ := hdropped hwatch hroom
      rw [hoffer.track, hoffer.unit]
      exact ⟨htrack, hnotices⟩
    · obtain ⟨htrack, hnotices, -⟩ := hfull hlong
      rw [hoffer.track, hoffer.unit]
      exact ⟨htrack, hnotices⟩

/-! ## A die with a record (R73, R75 to R82) -/

section
variable {s : State} {d : DieRef} {before after : List Suspect} {x : Suspect}
  (hlist : s.track.suspects = before ++ x :: after) (hx : x.die = d) (hothers : ∀ y ∈ before ++ after, y.die ≠ d)
include hlist hx hothers

theorem suspectOf_of_record : suspectOf s d = some x :=
  List.find?_eq_some_iff_append.mpr ⟨by simp [hx], before, after, hlist, fun y hy => by
    simp [hothers y (List.mem_append_left _ hy)]⟩

theorem setSuspect_of_record {y : Suspect} (hy : y.die = d) :
    setSuspect y s = s.withTrack ⟨before ++ y :: after, s.track.queue⟩ := by
  have hkept (xs : List Suspect) (h : ∀ z ∈ xs, z.die ≠ d) : xs.map (fun z => if z.die == y.die then y else z) = xs := by
    conv_rhs => rw [← List.map_id xs]
    exact List.map_congr_left fun z hz => by simp [hy, h z hz]
  rw [setSuspect, hlist, List.map_append, List.map_cons,
    hkept before fun z hz => hothers z (List.mem_append_left _ hz),
    hkept after fun z hz => hothers z (List.mem_append_right _ hz), if_pos (by simp [hx, hy])]

theorem filter_of_record : s.track.suspects.filter (fun z => !(z.die == d)) = before ++ after := by
  have hkept : (before ++ after).filter (fun z => !(z.die == d)) = before ++ after :=
    List.filter_eq_self.mpr fun z hz => by simp [hothers z hz]
  rw [List.filter_append] at hkept
  rw [hlist, List.filter_append, List.filter_cons_of_neg (by simp [hx])]
  exact hkept

/-- A record confirmed, with the place that its descriptor needs or without (R78, R82). -/
theorem confirm_of_record {y : Suspect} (hy : y.die = d) (hwatch : x.held = none) (k : FaultKind) :
    (placesTaken s < 8 → confirm y k s
      = s.withTrack ⟨before ++ after, s.track.queue ++ [⟨d, k, y.hits, y.flips, s.store.frameCount⟩]⟩)
    ∧ (8 ≤ placesTaken s → confirm y k s
      = (s.withTrack ⟨before ++ { y with held := some ⟨k, s.store.frameCount,
            (before ++ after).countP (fun z => z.held.isSome) + 1⟩ } :: after, s.track.queue⟩).withUnit
          { s.unit with notices := { s.unit.notices with
              listFull := s.unit.notices.listFull || s.unit.params.noticeMask.listFull } }) := by
  refine ⟨fun hplace => ?_, fun hfull => ?_⟩
  · rw [confirm, if_pos hplace, hy, filter_of_record hlist hx hothers]
  · have hcount : heldCount s.track.suspects = (before ++ after).countP fun z => z.held.isSome := by
      rw [heldCount, hlist, List.countP_append, List.countP_append, List.countP_cons_of_neg (by simp [hwatch])]
    rw [confirm, if_neg (Nat.not_lt.mpr hfull), hcount, setSuspect_of_record hlist hx hothers (by exact hy), raise_or]
    rfl

/-- A HELD record, and an INCONCLUSIVE result, leave all but the window (R73). -/
theorem applyResult_of_kept {r : TestResult} (w : Nat) (h : x.held ≠ none ∨ r = .inconclusive) :
    applyResult d r w s = (s.withTrack ⟨before ++ { x with lastWindow := some w } :: after, s.track.queue⟩, .none) := by
  rw [applyResult, suspectOf_of_record hlist hx hothers]
  dsimp only
  have hset := setSuspect_of_record hlist hx hothers (y := { x with lastWindow := some w }) hx
  by_cases hheld : x.held = none
  · rw [if_neg (by simp [hheld]), h.resolve_left (not_not_intro hheld)]
    exact Prod.ext hset rfl
  · rw [if_pos (Option.isSome_iff_ne_none.mpr hheld)]
    exact Prod.ext hset rfl

variable (hwatch : x.held = none)
include hwatch

/-- A pass counts, and clears the record at the last (R76, R79). -/
theorem applyResult_of_pass (w : Nat) : applyResult d .good w s
    = if s.unit.params.confirmHits ≤ x.passes + 1 then (s.withTrack ⟨before ++ after, s.track.queue⟩, .cleared)
      else (s.withTrack ⟨before ++ { x with passes := x.passes + 1, hits := 0, lastWindow := some w } :: after,
        s.track.queue⟩, .updated) := by
  rw [applyResult, suspectOf_of_record hlist hx hothers]
  dsimp only
  rw [if_neg (by simp [hwatch])]
  show (if s.unit.params.confirmHits ≤ x.passes + 1 then _ else _) = _
  rw [filter_of_record hlist hx hothers, setSuspect_of_record hlist hx hothers (by exact hx)]
  rfl

/-- A failing result counts, and confirms the record at the last (R75, R78). -/
theorem applyResult_of_failing {r : TestResult} {k : FailKind} (hr : r.failing = some k) (w : Nat) :
    (confirmsAs s.unit.params (x.failed k w) = none → applyResult d r w s
      = (s.withTrack ⟨before ++ x.failed k w :: after, s.track.queue⟩, .updated))
    ∧ (∀ g, confirmsAs s.unit.params (x.failed k w) = some g → applyResult d r w s
      = (confirm (x.failed k w) g s, .updated)) := by
  rw [applyResult, suspectOf_of_record hlist hx hothers]
  dsimp only
  rw [if_neg (by simp [hwatch]), ← setSuspect_of_record hlist hx hothers (y := x.failed k w) hx]
  obtain ⟨rfl, rfl⟩ | ⟨rfl, rfl⟩ := (failing_iff r k).mp hr
  · exact ⟨fun hconfirms => by dsimp only; rw [hconfirms], fun g hconfirms => by dsimp only; rw [hconfirms]⟩
  · exact ⟨fun hconfirms => by dsimp only; rw [hconfirms], fun g hconfirms => by dsimp only; rw [hconfirms]⟩

end

theorem confirmsAs_of_below {p : Params} {y : Suspect} (hflips : y.flips < p.flipLimit) (hhits : y.hits < p.confirmHits) :
    confirmsAs p y = none := by
  rw [confirmsAs, if_neg (Nat.not_le.mpr hflips), if_neg (Nat.not_le.mpr hhits)]

theorem placesTaken_eq (s : State) : placesTaken s = s.track.queue.length + (if s.corr.check = none then 0 else 1) := by
  rw [placesTaken]
  cases s.corr.check <;> simp

theorem healthOf_notePass {d : DieRef} {s : State} (h : HasCell s d.row d.lane) :
    healthOf (notePass d s) d = if healthOf s d = .unknown then .good else healthOf s d := by
  rw [healthOf, cellEntry_notePass_same h]
  cases d.die <;> rfl

theorem handSuspect_track_unit (t : TestRecord) (r : TestResult) (s : State) :
    (handSuspect t r s).1.track = (applyResult t.die r t.grantWindow s).1.track
      ∧ (handSuspect t r s).1.unit = (applyResult t.die r t.grantWindow s).1.unit := by
  by_cases hgood : r = .good
  · subst hgood
    rw [handSuspect_good]
    dsimp only
    rw [notePass_eq]
    exact ⟨rfl, rfl⟩
  · rw [handSuspect_of_not_good hgood]
    exact ⟨rfl, rfl⟩

/-- Settles O35. -/
theorem resultsMoveTheSuspectRecords : Obligations.ResultsMoveTheSuspectRecords := by
  intro t knee before after x s halone hreplies hsource hlist hx hothers hcell
  have hframe := handSuspect_frame t (classify t knee) (linesBack s)
  have hlist' : (linesBack s).track.suspects = before ++ x :: after := by rw [linesBack_track, hlist]
  have hplaces : placesTaken (linesBack s) = s.track.queue.length + (if s.corr.check = none then 0 else 1) := by
    rw [placesTaken_eq, linesBack_track, linesBack_corr]
  have hrepair (hgood : classify t knee ≠ .good) := handSuspect_cells_of_not_good (t := t) hgood (linesBack s)
  have hdue : NoReplyDue (handSuspect t (classify t knee) (linesBack s)).1 := by
    rw [hframe]
    simpa [NoReplyDue] using hreplies
  have hexec := exec_testCompletion_of_suspect halone knee hsource
  rw [offerReplies_of_noReplyDue (noReplyDue_takeAll hdue)] at hexec
  refine ⟨(handSuspect t (classify t knee) (linesBack s)).1, hexec, fun hnotake => ?_, ?_, ?_, ?_, ?_, ?_, ?_, ?_, ?_,
    fun hgood => ?_, fun hgood => ?_, ?_⟩
  · have hstill : NoTake (handSuspect t (classify t knee) (linesBack s)).1 := by
      rw [hframe]
      simpa [NoTake] using hnotake
    exact congrArg _ (takeAll_of_not_canTake (canTake_of_noTake hstill))
  iterate 7
    · rw [hframe]; simp
  · rw [hframe]; simp
  · rw [hrepair hgood, linesBack_repair]
  · rw [hgood, handSuspect_good]
    dsimp only
    have hsame : healthOf (applyResult t.die .good t.grantWindow (linesBack s)).1 t.die = healthOf s t.die := by
      rw [applyResult_frame]
      simp [healthOf, cellEntry]
    rw [healthOf_notePass, hsame]
    · rw [applyResult_frame]
      simpa [HasCell] using hcell
  obtain ⟨htrack, hunit⟩ := handSuspect_track_unit t (classify t knee) (linesBack s)
  generalize (handSuspect t (classify t knee) (linesBack s)).1 = u at htrack hunit
  intro stays
  have hstays {y : Suspect} {e : SuspectEffect} (h : applyResult t.die (classify t knee) t.grantWindow (linesBack s)
      = ((linesBack s).withTrack
          ⟨before ++ { y with lastWindow := some t.grantWindow } :: after, (linesBack s).track.queue⟩, e)) : stays y := by
    rw [h] at htrack hunit
    exact ⟨hunit.trans (linesBack_unit s), htrack.trans (by rw [linesBack_track]; rfl)⟩
  refine ⟨fun hkept => hstays (applyResult_of_kept hlist' hx hothers _ hkept), fun hwatch hgood => ?_,
    fun k f y hwatch hclass hy => ?_⟩
  · have hpass := applyResult_of_pass hlist' hx hothers hwatch t.grantWindow
    rw [linesBack_unit, ← hgood] at hpass
    refine ⟨fun hfew => hstays (hpass.trans (if_neg (Nat.not_le.mpr hfew))), fun hclear => ?_⟩
    rw [hpass.trans (if_pos hclear)] at htrack hunit
    exact ⟨hunit.trans (linesBack_unit s), htrack.trans (by rw [linesBack_track]; rfl)⟩
  · have hr : (classify t knee).failing = some k :=
      (failing_iff _ _).mpr (hclass.imp (fun h => ⟨h.1, h.2.1⟩) fun h => ⟨h.1, h.2.1⟩)
    have hfault : k.fault = f := by
      obtain ⟨-, rfl, rfl⟩ | ⟨-, rfl, rfl⟩ := hclass <;> rfl
    obtain rfl : y = x.failed k t.grantWindow := hy
    obtain ⟨hnone, hconfirms⟩ := applyResult_of_failing hlist' hx hothers hwatch hr t.grantWindow
    rw [linesBack_unit] at hnone hconfirms
    refine ⟨fun hflips hhits => hstays (hnone (confirmsAs_of_below hflips hhits)), fun g hg => ?_⟩
    have hconfirm := hconfirms g (by
      obtain ⟨hflips, rfl⟩ | ⟨hflips, hhits, rfl⟩ := hg
      · exact if_pos hflips
      · rw [confirmsAs, if_neg (Nat.not_le.mpr hflips), if_pos hhits]
        exact congrArg some hfault)
    obtain ⟨hplace, hfull⟩ := confirm_of_record hlist' hx hothers (y := x.failed k t.grantWindow) hx hwatch g
    rw [hplaces] at hplace hfull
    rw [hconfirm] at htrack hunit
    refine ⟨fun hfew => ?_, fun hmany => ?_⟩
    · rw [hplace hfew] at htrack hunit
      exact ⟨hunit.trans (linesBack_unit s), htrack.trans (by rw [linesBack_track, linesBack_store, ← hx]; rfl)⟩
    · rw [hfull hmany] at htrack hunit
      exact ⟨htrack.trans (by rw [linesBack_track, linesBack_store]; rfl), hunit.trans (by rw [linesBack_unit]; rfl)⟩

/-! ## Spot tests (R65, R66) -/

/-- TEST by its refusals in order, and the entry that joins the queue (R65). -/
theorem testTaken_cases {q : Request} {s : State} (haddr : q.broadcast = false) :
    let onTile : Prop := byteAt q.payload 0 < depth s ∧ byteAt q.payload 1 < 144 ∧ byteAt q.payload 2 < 2
    (s.ctl.mode = .standby → testTaken q s = s.replying (replyOf 0x0B q 3 []))
    ∧ (s.ctl.mode ≠ .standby → ¬ onTile → testTaken q s = s.replying (replyOf 0x0B q 4 []))
    ∧ (s.ctl.mode ≠ .standby → onTile → 8 ≤ s.sense.spots.length → testTaken q s = s.replying (replyOf 0x0B q 2 []))
    ∧ (s.ctl.mode ≠ .standby → onTile → s.sense.spots.length < 8 → testTaken q s = s.withSense { s.sense with
        spots := s.sense.spots ++ [⟨q.src, q.tag,
          ⟨byteAt q.payload 0, byteAt q.payload 1, if byteAt q.payload 2 = 0 then .a else .b⟩, .waiting⟩] }) := by
  intro onTile
  have hrefuse (x : ReplyStatus) : refuse kTest q x s = s.replying (replyOf 0x0B q (statusByte x) []) := by
    rw [refuse, answer_addressed haddr]
  have hnamed (hon : onTile) : dieNamed s (byteAt q.payload 0) (byteAt q.payload 1) (byteAt q.payload 2)
      = some ⟨byteAt q.payload 0, byteAt q.payload 1, if byteAt q.payload 2 = 0 then .a else .b⟩ := by
    obtain ⟨hrow, hlane, hdie⟩ := hon
    exact dieNamed_eq_some hrow hlane hdie
  refine ⟨fun hmode => ?_, fun hmode hoff => ?_, fun hmode hon hfull => ?_, fun hmode hon hroom => ?_⟩
  · rw [testTaken, if_pos hmode]; exact hrefuse .state
  · have hnone : dieNamed s (byteAt q.payload 0) (byteAt q.payload 1) (byteAt q.payload 2) = none := by
      rw [dieNamed_eq_none_iff]
      simp only [onTile] at hoff
      omega
    rw [testTaken, if_neg hmode, hnone]
    exact hrefuse .field
  · rw [testTaken, if_neg hmode, hnamed hon]
    exact (if_pos hfull).trans (hrefuse .busy)
  · rw [testTaken, if_neg hmode, hnamed hon]
    exact if_neg (Nat.not_le.mpr hroom)

theorem spotDone_of_first {r : TestResult} {n : Nat} {hot : Bool} {x : SuspectEffect} {before after : List SpotEntry}
    {e : SpotEntry} (hbefore : ∀ y ∈ before, y.status ≠ .waiting) (he : e.status = .waiting) :
    spotDone r n hot x (before ++ e :: after) = before ++ { e with status := .done r n hot x } :: after := by
  induction before with
  | nil => simp [spotDone, he]
  | cons y ys ih =>
    rw [List.cons_append, spotDone, if_neg (hbefore y List.mem_cons_self), ih fun z hz => hbefore z (List.mem_cons_of_mem _ hz)]
    rfl

/-- A result that does not fail adds no descriptor. -/
theorem queue_applyResult_of_not_failing {r : TestResult} (hr : r.failing = none) (d : DieRef) (w : Nat) (s : State) :
    (applyResult d r w s).1.track.queue = s.track.queue := by
  unfold applyResult
  obtain rfl | rfl := (failing_eq_none_iff r).mp hr
  · split
    · rfl
    · split
      · rfl
      · dsimp only
        split <;> rfl
  · split
    · rfl
    · split <;> rfl

/-- The suspect effect of a result, as the Suspect Tracker returns it (R73 to R77). -/
theorem effect_handSuspect {t : TestRecord} {r : TestResult} {x : SuspectEffect} {s : State}
    (h : EffectOf s t.die r x) : (if r = .inconclusive then .none else (handSuspect t r s).2) = x := by
  obtain ⟨rfl, rfl⟩ | ⟨hnone, ⟨rfl, rfl⟩ | ⟨hfailing, heffect⟩⟩ | ⟨before, y, after, hlist, hy, hbefore, heffect⟩ := h
  · rfl
  · obtain ⟨hpass, -⟩ := handSuspect_of_no_record (r := .good) hnone
    exact (hpass rfl).2.2
  · obtain ⟨k, hk⟩ : ∃ k, r.failing = some k := by obtain rfl | rfl := hfailing <;> exact ⟨_, rfl⟩
    obtain ⟨-, hfail⟩ := handSuspect_of_no_record (r := r) hnone
    obtain ⟨hnew, hdropped, hfull⟩ := hfail k hk
    rw [if_neg (by rintro rfl; cases hk)]
    obtain ⟨hroom, hwatch, rfl⟩ | ⟨hout, rfl⟩ := heffect
    · exact (hnew hwatch hroom).2.2
    · by_cases hroom : s.track.suspects.length < 32
      · exact (hdropped (hout.resolve_left (Nat.not_le.mpr hroom)) hroom).2.2
      · exact (hfull (Nat.le_of_not_lt hroom)).2.2
  · have hfound : suspectOf s t.die = some y :=
      List.find?_eq_some_iff_append.mpr ⟨by simp [hy], before, after, hlist, fun z hz => by simp [hbefore z hz]⟩
    have heq : (handSuspect t r s).2 = (applyResult t.die r t.grantWindow s).2 := by
      rw [handSuspect]
    rw [heq, applyResult, hfound]
    dsimp only
    obtain ⟨hheld, rfl⟩ | ⟨hwatch, hfailing, rfl⟩ | ⟨hwatch, rfl, hfew, rfl⟩ | ⟨hwatch, rfl, hclear, rfl⟩ := heffect
    · simp [Option.isSome_iff_ne_none.mpr hheld]
    · have hnot : r ≠ .inconclusive := by obtain rfl | rfl := hfailing <;> nofun
      rw [if_neg hnot, if_neg (by simp [hwatch])]
      obtain rfl | rfl := hfailing
      · dsimp only
        split <;> rfl
      · dsimp only
        split <;> rfl
    · rw [if_neg nofun, if_neg (by simp [hwatch])]
      exact congrArg Prod.snd (if_neg (Nat.not_le.mpr hfew))
    · rw [if_neg nofun, if_neg (by simp [hwatch])]
      exact congrArg Prod.snd (if_pos hclear)

theorem effectOf_linesBack (s : State) (d : DieRef) (r : TestResult) (x : SuspectEffect) :
    EffectOf (linesBack s) d r x ↔ EffectOf s d r x := by
  rw [linesBack_eq]; exact Iff.rfl

theorem dueReply_of_done (e : SpotEntry) (r : TestResult) (n : Nat) (hot : Bool) (x : SuspectEffect) :
    dueReply { e with status := .done r n hot x } = ⟨e.src, 0x8B, e.tag,
      [0, BitVec.ofNat 8 e.die.row, BitVec.ofNat 8 e.die.lane, match e.die.die with | .a => 0 | .b => 1,
        match r with | .good => 0 | .openDie => 1 | .shortDie => 2 | .inconclusive => 3,
        BitVec.ofNat 8 n, if hot then 1 else 0,
        match x with | .none => 0 | .new => 1 | .updated => 2 | .cleared => 3 | .notTracked => 4], false⟩ := rfl

/-- The state in which a spot result, handed on, leaves the deferred replies to be offered (R66). -/
def spotHanded (t : TestRecord) (knee : Option (Fin 255)) (s : State) : State :=
  let h := handSuspect t (classify t knee) (linesBack s)
  h.1.withSense { h.1.sense with
    spots := spotDone (classify t knee) (reportedT t knee) t.hot (if classify t knee = .inconclusive then .none else h.2)
      h.1.sense.spots }

theorem spotHanded_eq (t : TestRecord) (knee : Option (Fin 255)) (s : State) : spotHanded t knee s
    = (handSuspect t (classify t knee) (linesBack s)).1.withSense { s.sense with
        test := none
        spots := spotDone (classify t knee) (reportedT t knee) t.hot
          (if classify t knee = .inconclusive then .none else (handSuspect t (classify t knee) (linesBack s)).2)
          s.sense.spots } := by
  have hsense : (handSuspect t (classify t knee) (linesBack s)).1.sense = { s.sense with test := none } := by
    rw [handSuspect_frame]; simp
  rw [spotHanded]
  dsimp only
  rw [hsense]

/-- No take follows the result of a spot test where none was allowed, or it confirms nothing. -/
theorem canTake_handSuspect {t : TestRecord} {r : TestResult} {s : State}
    (h : NoTake s ∨ (s.track.queue = [] ∧ ∀ y ∈ s.track.suspects, y.die = t.die → r = .good ∨ r = .inconclusive)) :
    canTake (handSuspect t r (linesBack s)).1 = false := by
  obtain hnotake | ⟨hqueue, hrecords⟩ := h
  · refine canTake_of_noTake ?_
    rw [handSuspect_frame]
    simpa [NoTake] using hnotake
  · refine canTake_of_empty ?_
    by_cases hr : r.failing = none
    · rw [(handSuspect_track_unit t r _).1, queue_applyResult_of_not_failing hr, linesBack_track, hqueue]
    · rw [queue_handSuspect_of_no_record, linesBack_track, hqueue]
      rw [linesBack_track]
      exact fun y hy hdie => hr ((failing_eq_none_iff r).mpr (hrecords y hy hdie))

section
variable {t : TestRecord} {knee : Option (Fin 255)} {s : State} (halone : EndsAlone t s)
  (htake : canTake (handSuspect t (classify t knee) (linesBack s)).1 = false)
include halone htake

theorem exec_testCompletion_of_spot (hsource : t.source = .spot) :
    exec (.testCompletion knee) s = .next (offerReplies (spotHanded t knee s)) := by
  have hhand : handResult t (classify t knee) (reportedT t knee) (linesBack s) = spotHanded t knee s := by
    rw [handResult, hsource]; rfl
  have hstill : canTake (spotHanded t knee s) = false := htake
  rw [exec_testCompletion_of_endsAlone halone, hhand, settle, releaseHold_of_not_due, takeAll_of_not_canTake hstill]
  rw [spotHanded_eq, handSuspect_frame]
  simp [halone.heldLane]

/-- The same result as that of a retest. -/
theorem exec_testCompletion_of_retest :
    exec (.testCompletion knee) (s.withSense { s.sense with test := some { t with source := .retest } })
      = .next (offerReplies (handSuspect t (classify t knee) (linesBack s)).1) := by
  have halone' : EndsAlone { t with source := .retest } (s.withSense { s.sense with test := some { t with source := .retest } }) :=
    ⟨rfl, halone.driver, halone.window, halone.heldLane⟩
  rw [exec_testCompletion_of_suspect halone' knee (.inr rfl)]
  exact congrArg (fun u => Host.Outcome.next (offerReplies u)) (takeAll_of_not_canTake htake)

end

/-- The effect not tracked is that of a failing result that finds no place, or a die that may not be watched (R74). -/
theorem notTracked_of_effect {s : State} {d : DieRef} {r : TestResult} (h : EffectOf s d r .notTracked) :
    (∀ x ∈ s.track.suspects, x.die ≠ d) ∧ ∃ k, r.failing = some k
      ∧ (32 ≤ s.track.suspects.length ∨ ¬ MayBeWatched s d) := by
  obtain ⟨-, hx⟩ | ⟨hnone, ⟨-, hx⟩ | ⟨hfailing, ⟨-, -, hx⟩ | ⟨hout, -⟩⟩⟩ | ⟨_, _, _, _, _, _, hheld⟩ := h
  · cases hx
  · cases hx
  · cases hx
  · obtain ⟨k, hk⟩ := failing_of_or hfailing
    exact ⟨hnone, k, hk, hout⟩
  · simp at hheld

/-- The effect new is that of a failing result on a die that may be watched, with a place in the list (R74). -/
theorem new_of_effect {s : State} {d : DieRef} {r : TestResult} (h : EffectOf s d r .new) :
    (∀ x ∈ s.track.suspects, x.die ≠ d) ∧ ∃ k, r.failing = some k
      ∧ s.track.suspects.length < 32 ∧ MayBeWatched s d := by
  obtain ⟨-, hx⟩ | ⟨hnone, ⟨-, hx⟩ | ⟨hfailing, ⟨hroom, hwatch, -⟩ | ⟨-, hx⟩⟩⟩ | ⟨_, _, _, _, _, _, hheld⟩ := h
  · cases hx
  · cases hx
  · obtain ⟨k, hk⟩ := failing_of_or hfailing
    exact ⟨hnone, k, hk, hroom, hwatch⟩
  · cases hx
  · simp at hheld

/-- Settles O36. -/
theorem spotTestsAreQueuedAndReported : Obligations.SpotTestsAreQueuedAndReported := by
  refine ⟨fun q s hdisp => ?_, fun t knee r x before after e s halone hsource hspots hbefore he hr heffect hquiet => ?_⟩
  · have hexec : exec (.test q) s = .next (testTaken q (atTake 0x0B q s)) := request_dispatched (fun _ => testTaken q) hdisp
    have hcases := testTaken_cases (q := q) (s := atTake 0x0B q s) (hdisp.addressed rfl)
    simp only [atTake_ctl, atTake_sense, depth_atTake] at hcases
    rw [hexec]
    obtain ⟨hstandby, hoff, hfull, hjoins⟩ := hcases
    exact ⟨fun hmode => congrArg _ (hstandby hmode), fun hmode hon => congrArg _ (hoff hmode hon),
      fun hmode hon hlong => congrArg _ (hfull hmode hon hlong), fun hmode hon hroom => congrArg _ (hjoins hmode hon hroom)⟩
  subst hr
  have htake := canTake_handSuspect (t := t) (r := classify t knee) hquiet
  have heffect' := effect_handSuspect ((effectOf_linesBack s _ _ _).mpr heffect)
  have hhanded := spotHanded_eq t knee s
  rw [heffect', hspots, spotDone_of_first hbefore he] at hhanded
  have hframe := handSuspect_frame t (classify t knee) (linesBack s)
  have hoffer := OfferFrame.offerReplies (spotHanded t knee s)
  refine ⟨_, exec_testCompletion_of_spot halone htake hsource, fun hfull => ?_, fun hroom hhead hwaiting hbind => ?_,
    fun w hw => ?_, fun hx => ?_, fun hx => ?_, ?_, ?_, ?_, ?_, ?_⟩
  · have hreplies : 8 ≤ (spotHanded t knee s).unit.replies.length := by rw [hhanded, hframe]; simpa using hfull
    rw [offerReplies_of_noReplyDue (.inl hreplies), hhanded, hframe]
    exact ⟨rfl, by simp⟩
  · have hreplies : (spotHanded t knee s).unit.replies = s.unit.replies := by rw [hhanded, hframe]; simp
    have hdue : (spotHanded t knee s).sense.spots
        = [{ e with status := .done (classify t knee) (reportedT t knee) t.hot x }] ++ after := by rw [hhanded, hhead]; rfl
    have henter := enterSpots_of_due hdue (by simp) fun y hy => hwaiting y (List.mem_of_mem_head? hy)
    obtain ⟨k, hk⟩ : ∃ k, 8 - (spotHanded t knee s).unit.replies.length = k + 1 := ⟨7 - s.unit.replies.length, by rw [hreplies]; omega⟩
    rw [hk] at henter
    have hbind' : ∀ b z, (enterSpots (spotHanded t knee s)).repair.bind = some b → b.stage ≠ .ended z := by
      intro b z hb
      rw [henter] at hb
      refine hbind b z (hb.symm.trans ?_).symm
      show (spotHanded t knee s).repair.bind = _
      rw [hhanded, hframe]
      simp
    rw [offerReplies, enterBind_of_not_ended hbind', henter]
    refine ⟨?_, ?_⟩
    · simp [spotsLeft, hhanded]
    · show (spotHanded t knee s).unit.replies ++ ([_].take (k + 1)).map dueReply = _
      rw [hreplies, List.take_of_length_le (by simp), List.map_singleton]
      exact congrArg (fun y => s.unit.replies ++ [y]) (dueReply_of_done _ _ _ _ _)
  · obtain rfl := Host.Outcome.next.inj ((exec_testCompletion_of_retest halone htake).symm.trans hw)
    have hretest := OfferFrame.offerReplies (handSuspect t (classify t knee) (linesBack s)).1
    rw [hoffer.track, hoffer.repair, hoffer.unit, hretest.track, hretest.repair, hretest.unit, hhanded]
    exact ⟨rfl, rfl, rfl⟩
  · obtain ⟨hnone, k, hk, hout⟩ := notTracked_of_effect (hx ▸ heffect)
    obtain ⟨-, hfail⟩ := handSuspect_of_no_record (r := classify t knee) (s := linesBack s) (by rw [linesBack_track]; exact hnone)
    obtain ⟨-, hdropped, hfull⟩ := hfail k hk
    simp only [mayBeWatched_linesBack, linesBack_track, linesBack_unit] at hdropped hfull
    rw [hoffer.track, hoffer.unit, hhanded]
    by_cases hroom : s.track.suspects.length < 32
    · obtain ⟨htrack, hnotices, -⟩ := hdropped (hout.resolve_left (Nat.not_le.mpr hroom)) hroom
      refine ⟨htrack, hnotices.trans ?_⟩
      rw [decide_eq_false (Nat.not_le.mpr hroom), Bool.false_and, Bool.or_false]
    · obtain ⟨htrack, hnotices, -⟩ := hfull (Nat.le_of_not_lt hroom)
      refine ⟨htrack, hnotices.trans ?_⟩
      rw [decide_eq_true (Nat.le_of_not_lt hroom), Bool.true_and]
  · obtain ⟨hnone, k, hk, hroom, hwatch⟩ := new_of_effect (hx ▸ heffect)
    obtain ⟨-, hfail⟩ := handSuspect_of_no_record (r := classify t knee) (s := linesBack s) (by rw [linesBack_track]; exact hnone)
    obtain ⟨hnew, -, -⟩ := hfail k hk
    simp only [mayBeWatched_linesBack, linesBack_track, linesBack_store] at hnew
    rw [hoffer.track, hhanded]
    exact ⟨k, (failing_iff _ k).mp hk, (hnew hwatch hroom).1⟩
  · rw [hoffer.corr, hhanded, hframe]; simp
  · rw [hoffer.ctl, hhanded, hframe]; simp
  · rw [hoffer.store, hhanded, hframe]; simp
  · rw [hoffer.comp, hhanded, hframe]; simp
  · rw [hoffer.link, hhanded, hframe]; simp

end Sys2Proof.Machine

/-! The decisions of the Repair Engine by what they make of the state, and held lane decisions (O42). -/

namespace Sys2Proof.Machine

-- One theorem at a time: elaborated at once, they wait on each other and each holds a thread.
set_option Elab.async false

/-! ## Records, entries and removals together (R115, R116, R84 to R86) -/

/-- A record at the tail of the list, counted and noticed, with the entries that its decision adds (R115, R135). -/
def recordedIn (s : State) (x : Defect) (cs : List Change) : State :=
  (s.withRepair { s.repair with
    defects := listWith s x
    seqCounter := (s.repair.seqCounter + 1) % 65536
    changes := s.repair.changes ++ cs }).withUnit (unitNoted s)

theorem decisionRecord_eq_recordedIn (t : Target) (k : DefectKind) (a : DefectAction) (slot : Option Nat) (v hot : Bool)
    (s : State) : decisionRecord t k a slot v hot s = recordedIn s (record s t k a slot v hot .sensed) [] := by
  rw [decisionRecord_eq, recordedIn, List.append_nil]

theorem addChanges_recordedIn {s : State} (hmode : s.ctl.mode ≠ .standby) (x : Defect) (cs : List Change) :
    addChanges cs (recordedIn s x []) = recordedIn s x cs := by
  rw [addChanges_waits _ _ (by exact hmode), recordedIn, List.append_nil]
  rfl

/-- The Suspect Tracker without the dies of a removal. -/
def trackWithout (s : State) (p : DieRef → Bool) : Tracker :=
  ⟨s.track.suspects.filter fun x => !p x.die, s.track.queue.filter fun x => !p x.die⟩

theorem removeDies_eq_trackWithout {s : State} (h : ∀ x ∈ s.track.suspects, x.held = none) (p : DieRef → Bool) :
    removeDies p s = s.withTrack (trackWithout s p) := removeDies_of_none_held h p

theorem trackWithout_of_empty {s : State} (hqueue : s.track.queue = []) (hnone : s.track.suspects = [])
    (p : DieRef → Bool) : trackWithout s p = s.track := by
  rw [trackWithout, hqueue, hnone]
  exact congrArg₂ Tracker.mk hnone.symm hqueue.symm

/-- A decision left unrecorded (R115). -/
def leftOut (s : State) : State :=
  (s.withRepair { s.repair with unrecorded := min (s.repair.unrecorded + 1) 65535 }).withUnit (unitFull s)

theorem leaveUnrecorded_eq_leftOut (s : State) : leaveUnrecorded s = leftOut s := leaveUnrecorded_eq s

/-! ## CELL, ROW and WIDE decisions (R116, R120, R121) -/

section
variable {s : State} (hmode : s.ctl.mode ≠ .standby) (hheld : ∀ x ∈ s.track.suspects, x.held = none)
include hheld

include hmode in
/-- A CELL decision: left unrecorded, waiting for room, or carried out. -/
theorem decideCell_eq (auto : Bool) (x : DieRef) (k : FaultKind) (hot : Bool) : decideCell auto x k hot s
    = if recordRoom s (.die x.row x.lane x.die) = false then leftOut s
      else if (cellChoice auto x s).2.isSome = true ∧ changeRoom 1 s = false then
        s.withRepair { s.repair with waiting := some (.cell x k hot) }
      else (recordedIn (setHealth x k.health s)
        (record s (.die x.row x.lane x.die) k.defect (cellChoice auto x s).1 none false hot .sensed)
        ((cellChoice auto x s).2.toList.map (Change.cell x.row x.lane))).withTrack (trackWithout s (· == x)) := by
  have heffects : cellEffects x k hot (cellChoice auto x s) s = (recordedIn (setHealth x k.health s)
      (record s (.die x.row x.lane x.die) k.defect (cellChoice auto x s).1 none false hot .sensed)
      ((cellChoice auto x s).2.toList.map (Change.cell x.row x.lane))).withTrack (trackWithout s (· == x)) := by
    rw [cellEffects, decisionRecord_eq_recordedIn, dieRemoval, removeDies_eq_trackWithout (by exact hheld)]
    cases (cellChoice auto x s).2 with
    | none => rfl
    | some st =>
      have hadd := addChanges_recordedIn (s := setHealth x k.health s) hmode
        (record s (.die x.row x.lane x.die) k.defect (cellChoice auto x s).1 none false hot .sensed) [.cell x.row x.lane st]
      rw [addChanges_waits _ _ (by exact hmode)] at hadd
      dsimp only
      rw [addChanges_waits _ _ (by exact hmode)]
      exact congrArg (fun u : State => u.withTrack (trackWithout s (· == x))) hadd
  rw [decideCell, heffects]
  cases recordRoom s (.die x.row x.lane x.die)
  · exact leaveUnrecorded_eq_leftOut s
  · cases (cellChoice auto x s).2.isSome <;> cases changeRoom 1 s <;> rfl

include hmode in
/-- A ROW decision (R120). -/
theorem decideRow_eq (auto : Bool) (r : Nat) (hot : Bool) : decideRow auto r hot s
    = if recordRoom s (.row r) = false then leftOut s
      else if auto = true ∧ changeRoom 1 s = false then s.withRepair { s.repair with waiting := some (.row r hot) }
      else (recordedIn s (record s (.row r) .rowDead (if auto then .rowConceal else .none) none false hot .sensed)
        (if auto then [.row r .lost] else [])).withTrack (trackWithout s (·.row == r)) := by
  have hrecord (a : DefectAction) : rowRemoval r (decisionRecord (.row r) .rowDead a none false hot s)
      = (recordedIn s (record s (.row r) .rowDead a none false hot .sensed) []).withTrack (trackWithout s (·.row == r)) := by
    rw [decisionRecord_eq_recordedIn, rowRemoval, removeDies_eq_trackWithout (by exact hheld)]
    rfl
  have hadd := addChanges_recordedIn hmode (record s (.row r) .rowDead .rowConceal none false hot .sensed) [.row r .lost]
  rw [addChanges_waits _ _ (by exact hmode)] at hadd
  rw [decideRow, hrecord, hrecord, addChanges_waits _ _ (by exact hmode)]
  cases recordRoom s (.row r)
  · exact leaveUnrecorded_eq_leftOut s
  · cases auto
    · rfl
    · cases changeRoom 1 s
      · rfl
      · exact congrArg (fun u : State => u.withTrack (trackWithout s (·.row == r))) hadd

/-- A WIDE decision (R121). -/
theorem decideWide_eq (x : DieRef) (hot : Bool) : decideWide x hot s
    = if recordRoom s (.die x.row x.lane x.die) = false then leftOut s
      else ((recordedIn s (record s (.die x.row x.lane x.die) .wide .none none false hot .sensed) []).withTrack
        (trackWithout s (· == x))).withUnit { unitNoted s with
          params := { s.unit.params with policy := .suspended }
          notices := { (unitNoted s).notices with
            wideFault := s.unit.notices.wideFault || s.unit.params.noticeMask.wideFault } } := by
  rw [decideWide, decisionRecord_eq_recordedIn, dieRemoval, removeDies_eq_trackWithout (by exact hheld), raise_or]
  cases recordRoom s (.die x.row x.lane x.die)
  · exact leaveUnrecorded_eq_leftOut s
  · rfl

/-- The end of a check with no record on the held line (R100). -/
theorem endCheck_eq : endCheck s
    = ((s.withCorr { check := none }).withSense { s.sense with tried := .clear }).withRepair
        { s.repair with heldLane := none } := by
  rw [endCheck, fillHeld_of_none_held]
  exact hheld

end

/-! ## LANE decisions (R117 to R119) -/

theorem adviseLane_eq (l : Nat) (hot : Bool) (s : State) : adviseLane l hot s
    = if recordRoom s (.lane l) = false then leftOut s
      else recordedIn s (record s (.lane l) .laneDead .none none false hot .sensed) [] := by
  rw [adviseLane, decisionRecord_eq_recordedIn, leaveUnrecorded_eq_leftOut]
  cases recordRoom s (.lane l) <;> rfl

/-- The slots once those tried that are still RESERVED to the lane are FREE (R118, R119). -/
def slotsFreed (s : State) (l : Nat) (tried : List Nat) : List SlotState :=
  s.repair.slots.mapIdx fun k x => if k ∈ tried ∧ x = .reserved l then .free else x

theorem freeReserved_eq (l : Nat) (tried : List Nat) (s : State) :
    freeReserved l tried s = s.withRepair { s.repair with slots := slotsFreed s l tried } := by
  simp [freeReserved, slotsFreed]

theorem slotsFreed_nil (s : State) (l : Nat) : slotsFreed s l [] = s.repair.slots := by
  simp only [slotsFreed, List.not_mem_nil, false_and, if_false]
  exact List.ext_getElem (by simp) fun j _ _ => by simp

/-- Slot j is one that the spare k leaves to blame: it was tried, it is not k, and it is FREE (R118). -/
def leftToBlame (s : State) (k : Nat) (tried : List Nat) (j : Nat) : Bool :=
  decide (j ∈ tried ∧ j ≠ k ∧ slotNow s j = .free)

theorem mapIdx_blamed (s : State) (k : Nat) (tried : List Nat) :
    (s.repair.slots.mapIdx fun j x => if blamed (tried.filter fun i => i != k) j x then .failed else x)
      = s.repair.slots.mapIdx fun j x => if leftToBlame s k tried j then .failed else x := by
  refine List.ext_getElem (by simp) fun j hj _ => ?_
  have hlt : j < s.repair.slots.length := by simpa using hj
  have hslot : slotNow s j = s.repair.slots[j] := List.getD_eq_getElem _ _ hlt
  simp [blamed, leftToBlame, hslot, and_assoc]

theorem any_blamed (s : State) (k : Nat) (tried : List Nat) :
    ((tried.filter fun i => i != k).any fun j => blamed (tried.filter fun i => i != k) j (slotNow s j))
      = tried.any (leftToBlame s k tried) := by
  rw [Bool.eq_iff_iff]
  simp only [List.any_eq_true, List.mem_filter, blamed, leftToBlame, Bool.and_eq_true, List.contains_iff_mem,
    bne_iff_ne, beq_iff_eq, decide_eq_true_eq]
  exact ⟨fun ⟨j, hj, _, hfree⟩ => ⟨j, hj.1, hj.1, hj.2, hfree⟩,
    fun ⟨j, _, hj, hother, hfree⟩ => ⟨j, ⟨hj, hother⟩, ⟨hj, hother⟩, hfree⟩⟩

/-- The record and the blame of a lane spared by slot k (R119). -/
def sparedIn (s : State) (l k : Nat) (tried : List Nat) (hot : Bool) (cs : List Change) : State :=
  let x := record s (.lane l) .laneDead .spareBound (some k) (decide (1 < tried.length)) hot .sensed
  ((recordedIn s x cs).withRepair { (recordedIn s x cs).repair with
    slots := s.repair.slots.mapIdx fun j y => if leftToBlame s k tried j then .failed else y }).withUnit
      { unitNoted s with notices := { (unitNoted s).notices with
          laneEvent := s.unit.notices.laneEvent
            || (tried.any (leftToBlame s k tried) && s.unit.params.noticeMask.laneEvent) } }

/-- The record of a lane decided DARK with every slot tried failed (R119). -/
def darkenedIn (s : State) (l : Nat) (tried : List Nat) (hot : Bool) (cs : List Change) : State :=
  let x := record s (.lane l) .laneDead .laneDark none true hot .sensed
  (recordedIn s x cs).withRepair { (recordedIn s x cs).repair with slots := slotsFreed s l tried }

theorem finishRecord_sparedBy (l k : Nat) (tried : List Nat) (hot : Bool) (s : State) :
    finishRecord l hot (.sparedBy k tried) s = sparedIn s l k tried hot [] := by
  rw [finishRecord, decisionRecord_eq_recordedIn, blame_eq]
  show ((recordedIn s _ []).withRepair { (recordedIn s _ []).repair with
    slots := s.repair.slots.mapIdx _ }).withUnit { unitNoted s with notices := { (unitNoted s).notices with
      laneEvent := s.unit.notices.laneEvent || (_ && s.unit.params.noticeMask.laneEvent) } } = _
  rw [mapIdx_blamed, any_blamed]
  rfl

theorem finishRecord_allFailed (l : Nat) (tried : List Nat) (hot : Bool) (s : State) :
    finishRecord l hot (.allFailed tried) s = darkenedIn s l tried hot [] := by
  rw [finishRecord, decisionRecord_eq_recordedIn, freeReserved_eq]
  rfl

section
variable {s : State} (hmode : s.ctl.mode ≠ .standby)
include hmode

/-- A lane whose verify passed (R119). -/
theorem finishLane_sparedBy (l k : Nat) (tried : List Nat) (hot iso : Bool) :
    finishLane l hot (.sparedBy k tried) iso s
      = if recordRoom s (.lane l) = false then leftOut (freeReserved l tried s)
        else if changeRoom 1 s = false then
          s.withRepair { s.repair with waiting := some (.lane l hot (.sparedBy k tried)) }
        else sparedIn s l k tried hot [.lane l (.spared k) .failed] := by
  have hadd : addChanges [.lane l (.spared k) .failed] (sparedIn s l k tried hot [])
      = sparedIn s l k tried hot [.lane l (.spared k) .failed] := by
    rw [addChanges_waits _ _ (by exact hmode), sparedIn, sparedIn, recordedIn, List.append_nil]
    rfl
  rw [finishLane, finishRecord_sparedBy, if_neg (by simp), leaveUnrecorded_eq_leftOut]
  cases recordRoom s (.lane l)
  · rfl
  · cases changeRoom 1 s
    · rfl
    · exact hadd

/-- A lane with every slot tried failed (R119). -/
theorem finishLane_allFailed (l : Nat) (tried : List Nat) (hot iso : Bool) :
    finishLane l hot (.allFailed tried) iso s
      = if recordRoom s (.lane l) = false then leftOut (freeReserved l tried s)
        else if iso = true then darkenedIn s l tried hot []
        else if changeRoom 1 s = false then
          s.withRepair { s.repair with waiting := some (.lane l hot (.allFailed tried)) }
        else darkenedIn s l tried hot [.lane l .dark .failed] := by
  have hadd : addChanges [.lane l .dark .failed] (darkenedIn s l tried hot [])
      = darkenedIn s l tried hot [.lane l .dark .failed] := by
    rw [addChanges_waits _ _ (by exact hmode), darkenedIn, darkenedIn, recordedIn, List.append_nil]
    rfl
  rw [finishLane, finishRecord_allFailed, if_neg (by simp), leaveUnrecorded_eq_leftOut]
  cases recordRoom s (.lane l)
  · rfl
  · cases iso
    · cases changeRoom 1 s
      · rfl
      · exact hadd
    · rfl

/-- A lane with no slot to try, not isolated before (R119). -/
theorem finishLane_noSlot (l : Nat) (hot : Bool) :
    finishLane l hot .noSlot false s
      = if recordRoom s (.lane l) = false then leftOut s
        else if changeRoom 1 s = false then s.withRepair { s.repair with waiting := some (.lane l hot .noSlot) }
        else recordedIn s (record s (.lane l) .laneDead .laneDark none false hot .sensed) [.lane l .dark .failed] := by
  have hfreed : freeReserved l [] s = s := by rw [freeReserved_eq, slotsFreed_nil]; rfl
  rw [finishLane, if_neg (by simp), leaveUnrecorded_eq_leftOut, LaneFinish.slots, hfreed, finishRecord,
    decisionRecord_eq_recordedIn]
  cases recordRoom s (.lane l)
  · rfl
  · cases changeRoom 1 s
    · rfl
    · exact addChanges_recordedIn hmode _ _

end

/-- A slot found for the check's lane: it is RESERVED, and the check enters VERIFYING (R98, R117). -/
theorem searchSlot_of_found {c : Check} {s : State} {k : Nat} {d : Die} (hslot : freeSlotFor s c.die.lane [] = some k)
    (hselected : (plannedCell s c.die.row c.die.lane).selected = some d) (iso : Bool) : searchSlot c iso s
      = ((s.withRepair { s.repair with slots := s.repair.slots.set k (.reserved c.die.lane) }).withCorr
          { check := some { c with verify := some ⟨k, { c.die with die := d }, [k], iso⟩ } }).withSense
            { s.sense with tried := { s.sense.tried with verify := false } } := by
  rw [searchSlot, hslot]
  dsimp only
  rw [verifyDie, hselected]
  rfl

theorem searchSlot_of_none {c : Check} {s : State} (h : freeSlotFor s c.die.lane [] = none) (iso : Bool) :
    searchSlot c iso s = endCheck (finishLane c.die.lane c.hotSeen .noSlot iso s) := by
  rw [searchSlot, h]

/-! ## What follows a decision (R89, R117) -/

theorem releaseHold_of_no_check {s : State} (h : s.corr.check = none) : releaseHold s = s := by
  rw [releaseHold, h]

theorem releaseHold_of_spared {s : State} {c : Check} (hcheck : s.corr.check = some c)
    (hspared : laneSpared s c.die.lane = true) : releaseHold s = s := by
  rw [releaseHold, hcheck]
  cases s.repair.heldLane with
  | none => rfl
  | some h => simp [hspared]

theorem settle_of_check {s : State} (hcheck : s.corr.check.isSome = true) (hhold : releaseHold s = s) : settle s = s := by
  rw [settle, hhold, takeAll_of_not_canTake]
  refine canTake_of_noTake (.inl fun hnone => ?_)
  rw [hnone] at hcheck
  cases hcheck

theorem settle_of_no_check {s : State} (hcheck : s.corr.check = none) (hqueue : s.track.queue = []) : settle s = s := by
  rw [settle, releaseHold_of_no_check hcheck, takeAll_of_not_canTake (canTake_of_empty hqueue)]

/-! ## Held lane decisions (O42) -/

theorem laneSpared_iff (s : State) (l : Nat) : laneSpared s l = true ↔ ∃ k, laneNow s l = .spared k := by
  rw [laneSpared]
  cases laneNow s l <;> simp [LaneState.slot]

theorem addIsolation_of_waits {s : State} {c : Check} {h : HeldLane} (hcheck : s.corr.check = some c)
    (hheld : s.repair.heldLane = some h) (hwaits : h.isolationWaits = true) :
    addIsolation s = if changeRoom 1 s = true then isolate c.die.lane c.hotSeen s else s := by
  rw [addIsolation, hcheck, hheld]
  simp [hwaits]

/-- Settles O42. -/
theorem heldLaneDecisionsResume : Obligations.HeldLaneDecisionsResume := by
  refine ⟨fun c h s hcheck hheld hwaits => ?_, fun c h s hcheck hheld hwaits hreserved hspared hslots hlane => ?_⟩
  · intro place
    have hexec : exec .isolationEntryAdded s = .next (settle (addIsolation s)) := rfl
    have hplace : recordRoom s (.lane c.die.lane) = true ↔ place := recordRoom_eq_true_iff _ _
    rw [hexec, addIsolation_of_waits hcheck hheld hwaits]
    refine ⟨fun hp hroom hmode hspared => ?_, fun hfull => ?_, fun hp hroom hqueue hnone => ?_⟩
    · rw [if_pos ((changeRoom_eq_true_iff 1 s).mpr hroom), isolate_eq _ _ hmode, if_pos (hplace.mpr hp),
        if_pos ((changeRoom_eq_true_iff 1 s).mpr hroom)]
      exact congrArg _ (settle_of_check (by exact hcheck ▸ rfl)
        (releaseHold_of_spared hcheck ((laneSpared_iff s _).mpr hspared)))
    · rw [if_neg (by rw [changeRoom_eq_true_iff]; omega), settle_of_check (hcheck ▸ rfl) (releaseHold_of_not_due fun x hx => ?_)]
      rwa [← Option.some.inj (hheld.symm.trans hx)]
    · have hleft : isolate c.die.lane c.hotSeen s = endCheck (leftOut s) := by
        rw [isolate, Bool.eq_false_iff.mpr (mt hplace.mp hp), leaveUnrecorded_eq_leftOut]
        rfl
      have hkept : ∀ x ∈ (leftOut s).track.suspects, x.held = none := by
        show ∀ x ∈ s.track.suspects, _
        rw [hnone]
        nofun
      rw [if_pos ((changeRoom_eq_true_iff 1 s).mpr hroom), hleft, endCheck_eq hkept]
      exact congrArg _ (settle_of_no_check rfl hqueue)
  · have hexec : exec .laneHoldRelease s = .next (settle s) := rfl
    have hrelease : releaseHold s = searchSlot c h.isolated (s.withRepair { s.repair with heldLane := none }) := by
      have hnone : anyReserved s = false := List.any_eq_false.mpr fun x hx => by simp [hreserved x hx]
      rw [releaseHold, hcheck, hheld]
      simp [hwaits, hnone, laneSpared, hspared]
    rw [hexec, settle, hrelease]
    refine ⟨fun k d hslot hselected => ?_, fun hslot hisolated hmode hqueue hnone hroom hfew => ?_⟩
    · rw [searchSlot_of_found (by exact hslot) (by exact hselected), takeAll_of_not_canTake]
      · refine ⟨rfl, ?_⟩
        have hgroup := List.mem_of_find?_eq_some hslot
        rwa [← List.contains_iff_mem, contains_slotsOf_iff] at hgroup
      · exact canTake_of_noTake (.inl nofun)
    · rw [searchSlot_of_none (by exact hslot), hisolated, finishLane_noSlot (by exact hmode),
        if_neg (by simp [recordRoom_eq_true_iff, hfew]), if_neg (by simp [changeRoom_eq_true_iff]; omega), endCheck_eq,
        takeAll_of_not_canTake]
      · exact ⟨_, rfl, rfl, rfl, rfl, rfl, rfl, rfl, rfl, rfl, rfl, rfl, rfl, rfl, rfl, rfl, rfl, rfl, rfl⟩
      · exact canTake_of_empty hqueue
      · show ∀ x ∈ s.track.suspects, _
        rw [hnone]
        nofun

end Sys2Proof.Machine

/-! Descriptors taken: decided CELL, checked with four probes, or explained by the planned maps (O37, O38). -/

namespace Sys2Proof.Machine

-- One theorem at a time: elaborated at once, they wait on each other and each holds a thread.
set_option Elab.async false

/-! ## The action of a CELL decision (R116) -/

/-- The action of a CELL decision under AUTO and the entry that it needs, as R116 lists them. -/
def cellDecision (planned : CellState) (d : Die) (e : CellEntry) : DefectAction × List CellState :=
  match planned, d with
  | .aActive, .a => if e.healthB.bad then (.conceal, [.concealed]) else (.dieSwap, [.bActive])
  | .bActive, .b => if e.healthA.bad then (.conceal, [.concealed]) else (.dieSwap, [.aActive])
  | _, _ => (.none, [])

theorem cellChoice_auto (x : DieRef) (s : State) :
    ((cellChoice true x s).1, (cellChoice true x s).2.toList)
      = cellDecision (plannedCell s x.row x.lane) x.die (cellEntry s x.row x.lane) := by
  rw [cellChoice, if_pos rfl]
  generalize cellEntry s x.row x.lane = e
  cases plannedCell s x.row x.lane <;> cases x.die
  · cases h : e.healthB.bad <;> simp [cellAction, cellDecision, CellEntry.health, Die.other, h]
  · rfl
  · rfl
  · cases h : e.healthA.bad <;> simp [cellAction, cellDecision, CellEntry.health, Die.other, h]
  · rfl
  · rfl
  · rfl
  · rfl

/-! ## The probes of a check (R93, R94) -/

theorem probeAt_eq_some_iff (s : State) (r l : Nat) (x : DieRef) : probeAt s r l = some x
    ↔ Eligible s r l ∧ x.row = r ∧ x.lane = l ∧ (plannedCell s r l).selected = some x.die := by
  obtain ⟨xr, xl, xd⟩ := x
  rw [probeAt, Eligible]
  by_cases hlost : plannedRow s r = .lost ∨ plannedLane s l = .dark
  · rw [if_pos hlost]
    refine ⟨(fun h => by cases h), fun h => ?_⟩
    obtain ⟨⟨hrow, hlane, -⟩, -⟩ := h
    exact absurd hlost (not_or.mpr ⟨hrow, hlane⟩)
  · rw [if_neg hlost]
    obtain ⟨hrow, hlane⟩ := not_or.mp hlost
    cases hselected : (plannedCell s r l).selected with
    | none => simp
    | some d =>
      cases hbad : ((cellEntry s r l).health d).bad
      · simp only [Bool.false_eq_true, if_false, Option.some.injEq, DieRef.mk.injEq, ne_eq, hrow, hlane, not_false_eq_true,
          true_and, exists_eq_left', hbad]
        exact ⟨fun ⟨hr, hl, hd⟩ => ⟨hr.symm, hl.symm, hd⟩, fun ⟨hr, hl, hd⟩ => ⟨hr.symm, hl.symm, hd⟩⟩
      · simp [hbad]

/-- A candidate is found as a probe just when it is eligible. -/
theorem probeAt_isSome_iff (s : State) (r l : Nat) : (probeAt s r l).isSome = true ↔ Eligible s r l := by
  rw [Option.isSome_iff_exists]
  refine ⟨fun ⟨x, hx⟩ => ((probeAt_eq_some_iff s r l x).mp hx).1, fun h => ?_⟩
  obtain ⟨-, -, d, hselected, -⟩ := id h
  exact ⟨⟨r, l, d⟩, (probeAt_eq_some_iff s r l _).mpr ⟨h, rfl, rfl, hselected⟩⟩

/-- The entries that a list of candidates gives, by how many come before. -/
theorem getElem?_filterMap_range {α : Type} (f : Nat → Option α) (m n : Nat) (x : α) :
    ((List.range m).filterMap f)[n]? = some x
      ↔ ∃ i, i < m ∧ f i = some x ∧ (List.range i).countP (fun j => (f j).isSome) = n := by
  have hlength (k : Nat) : ((List.range k).filterMap f).length = (List.range k).countP fun j => (f j).isSome :=
    List.length_filterMap_eq_countP
  induction m with
  | zero => simp
  | succ m ih =>
    have hsplit : (∃ i, i < m + 1 ∧ f i = some x ∧ (List.range i).countP (fun j => (f j).isSome) = n)
        ↔ ((List.range m).filterMap f)[n]? = some x
          ∨ (f m = some x ∧ (List.range m).countP (fun j => (f j).isSome) = n) := by
      refine ⟨fun ⟨i, hi, hx⟩ => ?_, fun h => ?_⟩
      · rcases Nat.lt_succ_iff_lt_or_eq.mp hi with hi | rfl
        · exact .inl (ih.mpr ⟨i, hi, hx⟩)
        · exact .inr hx
      · obtain h | hx := h
        · obtain ⟨i, hi, hx⟩ := ih.mp h
          exact ⟨i, by omega, hx⟩
        · exact ⟨m, by omega, hx⟩
    rw [hsplit, List.range_succ, List.filterMap_append]
    by_cases hn : n < ((List.range m).filterMap f).length
    · rw [List.getElem?_append_left hn]
      refine ⟨.inl, fun h => h.elim id fun ⟨_, hcount⟩ => absurd hn ?_⟩
      rw [hlength, hcount]
      exact Nat.lt_irrefl n
    · have hnone : ((List.range m).filterMap f)[n]? = none := List.getElem?_eq_none (Nat.le_of_not_lt hn)
      rw [List.getElem?_append_right (Nat.le_of_not_lt hn), hnone, hlength] at *
      cases hm : f m with
      | none => simp [hm]
      | some y =>
        simp only [List.filterMap_cons, hm, List.filterMap_nil, reduceCtorEq, false_or, List.getElem?_singleton]
        rw [Nat.not_lt] at hn
        split <;> simp <;> omega

/-- Counting the numbers with a property below i says whether i is the first with it, or the second. -/
theorem countP_range_eq_iff {q : Nat → Bool} {p : Nat → Prop} {i n : Nat} (h : ∀ j, j < i → (q j = true ↔ p j))
    (hn : n < 2) : (List.range i).countP q = n
      ↔ (if n = 0 then ∀ j, j < i → ¬ p j else ∃ j, j < i ∧ p j ∧ ∀ k, k < i → k ≠ j → ¬ p k) := by
  have hzero {i : Nat} (h : ∀ j, j < i → (q j = true ↔ p j)) : (List.range i).countP q = 0 ↔ ∀ j, j < i → ¬ p j := by
    rw [List.countP_eq_zero]
    exact forall_congr' fun j => by
      rw [List.mem_range]
      exact forall_congr' fun hj => not_congr (h j hj)
  obtain rfl | rfl : n = 0 ∨ n = 1 := by omega
  · rw [if_pos rfl, hzero h]
  rw [if_neg (by decide)]
  induction i with
  | zero => simp
  | succ i ih =>
    rw [List.range_succ, List.countP_append, List.countP_singleton]
    by_cases hi : p i
    · rw [if_pos ((h i (by omega)).mpr hi), Nat.add_eq_right, hzero fun j hj => h j (by omega)]
      refine ⟨fun hnone => ⟨i, by omega, hi, fun k hk hother => hnone k (by omega)⟩, fun ⟨j, _, hj, hsole⟩ k hk hp => ?_⟩
      have hkj : k = j := Classical.not_not.mp fun hother => hsole k (by omega) hother hp
      have hij : i = j := Classical.not_not.mp fun hother => hsole i (by omega) hother hi
      omega
    · rw [if_neg (mt (h i (by omega)).mp hi), Nat.add_zero]
      refine (ih fun j hj => h j (by omega)).trans ⟨fun ⟨j, hj, hp, hsole⟩ => ⟨j, by omega, hp, fun k hk hother => ?_⟩,
        fun ⟨j, hj, hp, hsole⟩ => ⟨j, ?_, hp, fun k hk => hsole k (by omega)⟩⟩
      · rcases Nat.lt_succ_iff_lt_or_eq.mp hk with hk | rfl
        · exact hsole k hk hother
        · exact hi
      · rcases Nat.lt_succ_iff_lt_or_eq.mp hj with hj | rfl
        · exact hj
        · exact absurd hp hi

/-- The first and the second probe that a list of candidates gives (R93, R94). -/
theorem getElem?_candidates {s : State} {m n : Nat} {row lane : Nat → Nat} {p : Nat → Prop}
    (hp : ∀ i, p i ↔ i < m ∧ Eligible s (row i) (lane i)) (hn : n < 2) (x : DieRef) :
    (((List.range m).map fun i => (row i, lane i)).filterMap fun y => probeAt s y.1 y.2)[n]? = some x
      ↔ ∃ i, IsNth p n i ∧ x.row = row i ∧ x.lane = lane i ∧ (plannedCell s (row i) (lane i)).selected = some x.die := by
  rw [List.filterMap_map, show ((fun y : Nat × Nat => probeAt s y.1 y.2) ∘ fun i => (row i, lane i))
    = fun i => probeAt s (row i) (lane i) from rfl]
  refine (getElem?_filterMap_range _ m n x).trans (exists_congr fun i => ?_)
  rw [probeAt_eq_some_iff, IsNth]
  have hbefore (hi : i < m) := countP_range_eq_iff (p := p) (i := i) (n := n)
    (fun j hj => (probeAt_isSome_iff s (row j) (lane j)).trans
      ⟨fun h => (hp j).mpr ⟨by omega, h⟩, fun h => ((hp j).mp h).2⟩) hn
  refine ⟨fun ⟨hi, ⟨hx, hprobe⟩, hcount⟩ => ⟨⟨(hp i).mpr ⟨hi, hx⟩, (hbefore hi).mp hcount⟩, hprobe⟩,
    fun ⟨⟨hx, hnth⟩, hprobe⟩ => ?_⟩
  obtain ⟨hi, heligible⟩ := (hp i).mp hx
  exact ⟨hi, ⟨heligible, hprobe⟩, (hbefore hi).mpr hnth⟩

/-! ## A check started (R92) -/

theorem takeAll_of_head {d : Descriptor} {rest : List Descriptor} {s : State} (hcheck : s.corr.check = none)
    (hmode : s.ctl.mode ≠ .standby) (hwaiting : s.repair.waiting = none) (hqueue : s.track.queue = d :: rest)
    (hlast : canTake (takeOne s) = false) : takeAll s = takeOne s := by
  have hcan : canTake s = true := (canTake_iff s).mpr ⟨hcheck, hmode, hwaiting, by rw [hqueue]; nofun⟩
  obtain ⟨n, hn⟩ : ∃ n, s.track.queue.length + s.track.suspects.length = n + 1 :=
    ⟨rest.length + s.track.suspects.length, by rw [hqueue, List.length_cons]; omega⟩
  rw [takeAll, hn, takeLoop, if_pos hcan, takeLoop_of_not_canTake hlast]

theorem takeOne_of_plain {d : Descriptor} {rest : List Descriptor} {s : State} (hqueue : s.track.queue = d :: rest)
    (hlane : plannedLane s d.die.lane ≠ .dark) (hrow : plannedRow s d.die.row ≠ .lost) : takeOne s =
    match d.kind with
    | .openDie => startCheck d (s.withTrack { s.track with queue := rest })
    | .shortDie => fillHeld (decideCell (policyNow s == .auto) d.die .shortDie false
        (s.withTrack { s.track with queue := rest }))
    | .intermittent => fillHeld (decideCell (policyNow s == .auto) d.die .intermittent false
        (s.withTrack { s.track with queue := rest })) := by
  rw [takeOne, hqueue]
  dsimp only
  rw [if_neg (not_or.mpr ⟨hlane, hrow⟩)]
  rfl

/-- The probes of a new check by their candidates (R93, R94). -/
theorem newCheck_probes (d : Descriptor) (s : State) : (newCheck d s).probes
    = twoProbes s (laneCandidates s d.die) ++ twoProbes s (rowCandidates d.die) := rfl

theorem bind_target_laneProbe (d : Descriptor) (s : State) {n : Nat} (hn : n < 2) (x : DieRef) :
    ((newCheck d s).probes[n]?).bind Probe.target = some x
      ↔ x.lane = d.die.lane ∧ (plannedCell s x.row x.lane).selected = some x.die
        ∧ ∃ i, IsNth (LaneCandidate s d.die) n i ∧ x.row = (d.die.row + 1 + i) % depth s := by
  have hfound := getElem?_candidates (s := s) (m := depth s - 1) (row := fun i => (d.die.row + 1 + i) % depth s)
    (lane := fun _ => d.die.lane) (p := LaneCandidate s d.die) (fun i => Iff.rfl) hn x
  have hprobe : ((newCheck d s).probes[n]?).bind Probe.target
      = ((laneCandidates s d.die).filterMap fun y => probeAt s y.1 y.2)[n]? := by
    obtain rfl | rfl : n = 0 ∨ n = 1 := by omega
    · rfl
    · rfl
  rw [hprobe]
  refine hfound.trans ⟨fun ⟨i, hi, hrow, hlane, hselected⟩ => ⟨hlane, by rw [hrow, hlane]; exact hselected, i, hi, hrow⟩,
    fun ⟨hlane, hselected, i, hi, hrow⟩ => ⟨i, hi, hrow, hlane, by rw [← hrow, ← hlane]; exact hselected⟩⟩

theorem bind_target_rowProbe (d : Descriptor) (s : State) {n : Nat} (hn : n < 2) (x : DieRef) :
    ((newCheck d s).probes[n + 2]?).bind Probe.target = some x
      ↔ x.row = d.die.row ∧ (plannedCell s x.row x.lane).selected = some x.die
        ∧ ∃ i, IsNth (RowCandidate s d.die) n i ∧ x.lane = (d.die.lane + 24 * (i + 1)) % 144 := by
  have hfound := getElem?_candidates (s := s) (m := 5) (row := fun _ => d.die.row)
    (lane := fun i => (d.die.lane + 24 * (i + 1)) % 144) (p := RowCandidate s d.die) (fun i => Iff.rfl) hn x
  have hprobe : ((newCheck d s).probes[n + 2]?).bind Probe.target
      = ((rowCandidates d.die).filterMap fun y => probeAt s y.1 y.2)[n]? := by
    obtain rfl | rfl : n = 0 ∨ n = 1 := by omega
    · rfl
    · rfl
  rw [hprobe]
  refine hfound.trans ⟨fun ⟨i, hi, hrow, hlane, hselected⟩ => ⟨hrow, by rw [hrow, hlane]; exact hselected, i, hi, hlane⟩,
    fun ⟨hrow, hselected, i, hi, hlane⟩ => ⟨i, hi, hrow, hlane, by rw [← hrow, ← hlane]; exact hselected⟩⟩

theorem probe_newCheck {d : Descriptor} {s : State} {p : Probe} (h : p ∈ (newCheck d s).probes) :
    p.result = if p.target.isSome then .pending else .pass := by
  simp only [newCheck_probes, twoProbes, List.cons_append, List.nil_append, List.mem_cons, List.not_mem_nil, or_false] at h
  obtain rfl | rfl | rfl | rfl := h <;> rfl

theorem filterMap_candidates_eq_nil {s : State} {m : Nat} {row lane : Nat → Nat} {p : Nat → Prop}
    (hp : ∀ i, p i ↔ i < m ∧ Eligible s (row i) (lane i)) :
    ((List.range m).map fun i => (row i, lane i)).filterMap (fun y => probeAt s y.1 y.2) = [] ↔ ∀ i, ¬ p i := by
  rw [List.filterMap_map, List.filterMap_eq_nil_iff]
  refine forall_congr' fun i => ?_
  rw [hp, List.mem_range, not_and, Function.comp, ← probeAt_isSome_iff, Option.not_isSome_iff_eq_none]

theorem allProbed_twoProbes (s : State) (xs ys : List (Nat × Nat)) :
    (twoProbes s xs ++ twoProbes s ys).all (fun p => !(p.result == .pending)) = true
      ↔ xs.filterMap (fun y => probeAt s y.1 y.2) = [] ∧ ys.filterMap (fun y => probeAt s y.1 y.2) = [] := by
  have hprobe (x : Option DieRef) : (!((startProbe x).result == .pending)) = true ↔ x = none := by
    cases x <;> simp [startProbe]
  have htwo (zs : List DieRef) : zs[0]? = none ∧ zs[1]? = none ↔ zs = [] := by
    cases zs <;> simp
  simp only [twoProbes, List.all_append, List.all_cons, List.all_nil, Bool.and_true, Bool.and_eq_true, hprobe, htwo]

/-- A check with an eligible cell has a probe PENDING, and one without has none. -/
theorem allProbed_newCheck (d : Descriptor) (s : State) : allProbed (newCheck d s) = true
    ↔ ∀ i, ¬ LaneCandidate s d.die i ∧ ¬ RowCandidate s d.die i := by
  rw [allProbed, newCheck_probes, allProbed_twoProbes, forall_and]
  exact and_congr (filterMap_candidates_eq_nil fun i => Iff.rfl) (filterMap_candidates_eq_nil fun i => Iff.rfl)

/-- Settles O38. -/
theorem openDescriptorsAreCheckedOrExplained : Obligations.OpenDescriptorsAreCheckedOrExplained := by
  refine ⟨fun d rest s hcheck hmode hwaiting _ hqueue hkind hlane hrow ⟨i, hi⟩ => ?_,
    fun d s hcheck hmode hwaiting _ hqueue hheld hexplained => ?_⟩
  · have htake : takeOne s = ((s.withCorr { check := some (newCheck d s) }).withTrack
        { s.track with queue := rest }).withSense { s.sense with tried := .clear } := by
      rw [takeOne_of_plain hqueue hlane hrow, hkind]
      exact if_neg fun hprobed => hi.elim ((allProbed_newCheck d s).mp hprobed i).1 ((allProbed_newCheck d s).mp hprobed i).2
    have hlast : canTake (takeOne s) = false := canTake_of_noTake (.inl (by rw [htake]; nofun))
    refine ⟨newCheck d s, ?_, rfl, rfl, rfl, rfl, rfl, rfl, rfl, fun p => probe_newCheck, fun n x hn =>
      ⟨bind_target_laneProbe d s hn x, bind_target_rowProbe d s hn x⟩⟩
    exact congrArg _ ((takeAll_of_head hcheck hmode hwaiting hqueue hlast).trans htake)
  · have htake : takeOne s = s.withTrack { s.track with queue := [] } := by
      rw [takeOne, hqueue]
      dsimp only
      rw [if_pos hexplained, fillHeld_of_none_held]
      exact hheld
    have hlast : canTake (takeOne s) = false := canTake_of_empty (by rw [htake]; rfl)
    exact congrArg _ ((takeAll_of_head hcheck hmode hwaiting hqueue hlast).trans htake)

/-! ## A descriptor decided CELL (R91, R92, R116) -/

/-- The state that a CELL decision under AUTO leaves, where nothing else waits in the Suspect Tracker. -/
theorem decideCell_of_room {x : DieRef} {s : State} (hmode : s.ctl.mode ≠ .standby) (hqueue : s.track.queue = [])
    (hnone : s.track.suspects = []) (hroom : s.repair.changes.length < 16) (hfew : s.repair.defects.length < 192)
    (k : FaultKind) (hot : Bool) : decideCell true x k hot s
      = recordedIn (setHealth x k.health s)
          (record s (.die x.row x.lane x.die) k.defect (cellDecision (plannedCell s x.row x.lane) x.die
            (cellEntry s x.row x.lane)).1 none false hot .sensed)
          ((cellDecision (plannedCell s x.row x.lane) x.die (cellEntry s x.row x.lane)).2.map (Change.cell x.row x.lane)) := by
  have hrecord : recordRoom s (.die x.row x.lane x.die) = true := (recordRoom_eq_true_iff _ _).mpr (.inl hfew)
  have hchange : changeRoom 1 s = true := (changeRoom_eq_true_iff 1 s).mpr hroom
  rw [decideCell_eq hmode (by rw [hnone]; nofun), if_neg (by simp [hrecord]), if_neg (by simp [hchange]),
    ← cellChoice_auto, trackWithout_of_empty hqueue hnone]
  rfl

/-- A health set is the health then. -/
theorem healthOf_of_cellSet {s t : State} {x : DieRef} {h : Health} (hcell : HasCell s x.row x.lane)
    (ht : t.repair.cells = (setHealth x h s).repair.cells) : healthOf t x = h := by
  rw [healthOf, (cellEntry_set (s := s) ht hcell).trans (if_pos ⟨rfl, rfl⟩)]
  cases x.die <;> rfl

/-- No probe of a check has failed as it starts. -/
theorem newCheck_not_fails (d : Descriptor) (s : State) :
    laneFails (newCheck d s) = false ∧ rowFails (newCheck d s) = false := by
  have hprobe (i : Nat) : (probeResult (newCheck d s) i == .fail) = false := by
    rw [probeResult]
    cases hp : (newCheck d s).probes[i]? with
    | none => rfl
    | some p =>
      dsimp only
      rw [probe_newCheck (List.mem_of_getElem? hp)]
      split <;> rfl
  rw [laneFails, rowFails, hprobe, hprobe 2]
  exact ⟨rfl, rfl⟩

/-- State u with the CELL decision of kind k on die d made under AUTO on the maps of s. -/
def decidedCell (d : DieRef) (k : FaultKind) (s u : State) : State :=
  let decision := cellDecision (plannedCell s d.row d.lane) d.die (cellEntry s d.row d.lane)
  recordedIn (setHealth d k.health u) (record s (.die d.row d.lane d.die) k.defect decision.1 none false false .sensed)
    (decision.2.map (Change.cell d.row d.lane))

/-- What a CELL decision leaves. -/
theorem decidedCell_frame (d : DieRef) (k : FaultKind) (s u : State) :
    (decidedCell d k s u).link = u.link ∧ (decidedCell d k s u).ctl = u.ctl ∧ (decidedCell d k s u).store = u.store
      ∧ (decidedCell d k s u).comp = u.comp ∧ (decidedCell d k s u).scan = u.scan
      ∧ (decidedCell d k s u).sense = u.sense := ⟨rfl, rfl, rfl, rfl, rfl, rfl⟩

/-- Settles O37. -/
theorem descriptorsAreDecidedCell : Obligations.DescriptorsAreDecidedCell := by
  intro d s hcheck hmode hwaiting hqueue hnone hheld hopen hlane hrow hpolicy hcell hroom hfew
  let s1 : State := s.withTrack { s.track with queue := [] }
  let s2 : State := (s1.withCorr { check := some (newCheck d s) }).withSense { s.sense with tried := .clear }
  have hauto : (policyNow s == .auto) = true := by rw [policyNow, hpolicy]; rfl
  have htrack : s1.track = ⟨[], []⟩ := congrArg (fun xs => (⟨xs, []⟩ : Tracker)) hnone
  have hkept : ∀ x ∈ s1.track.suspects, x.held = none := by rw [htrack]; nofun
  have hcellother {t : State} {k : Health} (ht : t.repair.cells = (setHealth d.die k s).repair.cells) (r l : Nat)
      (hother : r ≠ d.die.row ∨ l ≠ d.die.lane) : cellEntry t r l = cellEntry s r l := by
    rw [cellEntry, ht]
    exact cellAt_cellSet_other _ _ _ _ _ _ _ hother
  have hone : takeOne s = match d.kind with
      | .openDie => endCheck (decidedCell d.die .openDie s s2)
      | .shortDie => decidedCell d.die .shortDie s s1
      | .intermittent => decidedCell d.die .intermittent s s1 := by
    have hplain (k : FaultKind) : fillHeld (decideCell (policyNow s == .auto) d.die k false s1)
        = decidedCell d.die k s s1 := by
      rw [hauto, decideCell_of_room (s := s1) hmode rfl hnone hroom hfew, fillHeld_of_none_held]
      · rfl
      · exact hkept
    rw [takeOne_of_plain hqueue hlane hrow]
    cases hkind : d.kind with
    | shortDie => exact hplain .shortDie
    | intermittent => exact hplain .intermittent
    | openDie =>
      obtain ⟨hlanes, hrows⟩ := newCheck_not_fails d s
      refine (if_pos ((allProbed_newCheck d s).mpr (hopen hkind))).trans ?_
      show handOutcome (newCheck d s) s2 = _
      rw [handOutcome, hlanes, hrows]
      show endCheck (decideCell (policyNow s == .auto) d.die .openDie false s2) = _
      rw [hauto, decideCell_of_room (s := s2) hmode rfl hnone hroom hfew]
      rfl
  have hexec {u : State} (hu : takeOne s = u) (hempty : u.track.queue = []) : exec .descriptorTake s = .next u :=
    congrArg _ ((takeAll_of_head hcheck hmode hwaiting hqueue (canTake_of_empty (by rw [hu]; exact hempty))).trans hu)
  cases hkind : d.kind with
  | shortDie =>
    rw [hkind] at hone
    exact ⟨_, _, _, hexec hone rfl, rfl, rfl, hcheck, healthOf_of_cellSet hcell rfl, rfl, rfl, rfl,
      hcellother rfl, rfl, rfl, rfl, rfl, rfl, rfl, rfl, rfl, rfl, rfl⟩
  | intermittent =>
    rw [hkind] at hone
    exact ⟨_, _, _, hexec hone rfl, rfl, rfl, hcheck, healthOf_of_cellSet hcell rfl, rfl, rfl, rfl,
      hcellother rfl, rfl, rfl, rfl, rfl, rfl, rfl, rfl, rfl, rfl, rfl⟩
  | openDie =>
    rw [hkind] at hone
    dsimp only at hone
    rw [endCheck_eq (by exact hkept)] at hone
    obtain ⟨hlink, hctl, hstore, hcomp, hscan, hsense⟩ := decidedCell_frame d.die .openDie s s2
    refine ⟨_, _, _, hexec hone rfl, rfl, rfl, rfl, healthOf_of_cellSet hcell rfl, rfl, rfl, rfl, hcellother (k := .openDie) rfl, rfl,
      rfl, rfl, rfl, hlink, hctl, hstore, hcomp, hscan, ?_⟩
    rw [if_pos rfl]
    exact congrArg (fun x : SenseUnit => { x with tried := .clear }) hsense

end Sys2Proof.Machine

/-! Waiting decisions and waiting binds that find room (O41). -/

namespace Sys2Proof.Machine

-- One theorem at a time: elaborated at once, they wait on each other and each holds a thread.
set_option Elab.async false

/-! ## The manual bind (R127) -/

theorem addRecord_counted (x : Defect) (s : State) : countDefect (addRecord x s) = recordedIn s x [] := by
  rw [countDefect_eq, recordedIn, List.append_nil]; rfl

/-- The MANUAL record of a bind (R127). -/
def bindRecord (b : Bind) (frame : Nat) (temp : Int) : Defect :=
  ⟨0, .lane b.lane, .manual, .spareBound, some b.slot, false, false, .manual, frame, temp⟩

/-- A bind whose verify passed, with a place for its record (R127). -/
theorem completeBind_of_place {b : Bind} {s : State} (hmode : s.ctl.mode ≠ .standby)
    (hplace : recordRoom s (.lane b.lane) = true) (t frame : Nat) (temp : Int) : completeBind b t frame temp s
      = endBind b (bindReply b .good t true)
          (recordedIn s (bindRecord b frame temp) [.lane b.lane (.spared b.slot) .free]) := by
  rw [completeBind, if_pos hplace]
  dsimp only
  rw [addRecord_counted, addChanges_recordedIn hmode]
  rfl

/-- The same with no place for its record (R135). -/
theorem completeBind_of_full {b : Bind} {s : State} (hplace : recordRoom s (.lane b.lane) = false) (t frame : Nat)
    (temp : Int) : completeBind b t frame temp s
      = endBind b (replyTo kRepair b.src b.tag .full []) (setSlot b.slot .free s) := by
  rw [completeBind, hplace]
  rfl

theorem settle_of_quiet {s : State} (hheld : s.repair.heldLane = none) (hqueue : s.track.queue = []) : settle s = s := by
  rw [settle, releaseHold_of_not_due fun x hx => absurd (hheld.symm.trans hx) (by simp),
    takeAll_of_not_canTake (canTake_of_empty hqueue)]

/-- The reply of a bind that has ended, where no spot reply is due (R66, R166). -/
theorem offerReplies_endBind {b : Bind} {r : Reply} {s : State} (hspots : s.sense.spots = []) :
    offerReplies (endBind b r s)
      = if s.unit.replies.length < 8 then
          (s.withRepair { s.repair with bind := none }).withUnit { s.unit with replies := s.unit.replies ++ [r] }
        else endBind b r s := by
  have hsame : enterSpots (endBind b r s) = endBind b r s :=
    enterSpots_of_waiting fun e he => by rw [show (endBind b r s).sense.spots = [] from hspots] at he; cases he
  rw [offerReplies, hsame, enterBind_of_ended (s := endBind b r s) rfl rfl]
  by_cases hroom : s.unit.replies.length < 8
  · rw [if_pos hroom, if_pos (show replyRoom (endBind b r s) = true from (replyRoom_iff s).mpr hroom)]
    rfl
  · rw [if_neg hroom, if_neg (show ¬ replyRoom (endBind b r s) = true from mt (replyRoom_iff s).mp hroom)]

/-! ## Waiting decisions (R115) -/

theorem exec_waitingDecisionTaken {s u : State} {w : Waiting} (hwaiting : s.repair.waiting = some w)
    (hroom : s.repair.changes.length < 16) (htaken : takeWaiting s = u) (hheld : u.repair.heldLane = none)
    (hqueue : u.track.queue = []) : exec .waitingDecisionTaken s = .next u := by
  have hgoes : (s.repair.waiting.isSome && changeRoom 1 s) = true := by
    rw [hwaiting, (changeRoom_eq_true_iff 1 s).mpr hroom]; rfl
  refine congrArg Host.Outcome.next ((if_pos hgoes).trans ?_)
  rw [htaken, settle_of_quiet hheld hqueue]

/-- The part with no decision waiting. -/
def noWaiting (s : State) : State := s.withRepair { s.repair with waiting := none }

theorem takeWaiting_of_cell {s : State} {x : DieRef} {k : FaultKind} {hot : Bool}
    (h : s.repair.waiting = some (.cell x k hot)) : takeWaiting s = decideCell true x k hot (noWaiting s) := by
  rw [takeWaiting, h]; rfl

theorem takeWaiting_of_row {s : State} {r : Nat} {hot : Bool} (h : s.repair.waiting = some (.row r hot)) :
    takeWaiting s = decideRow true r hot (noWaiting s) := by
  rw [takeWaiting, h]; rfl

theorem takeWaiting_of_lane {s : State} {l : Nat} {hot : Bool} {f : LaneFinish}
    (h : s.repair.waiting = some (.lane l hot f)) : takeWaiting s = finishLane l hot f false (noWaiting s) := by
  rw [takeWaiting, h]; rfl

/-- Settles O41. -/
theorem roomLetsWaitingDecisionsAndBindsIn : Obligations.RoomLetsWaitingDecisionsAndBindsIn := by
  refine ⟨fun s hmode hroom hfew hquiet hnone => ?_, fun b t frame temp s hbind hstage hmode hroom hquiet hspots hreplies => ?_⟩
  · intro recorded taken blamed
    have hrecord (x : Target) : ¬ recordRoom (noWaiting s) x = false := by
      rw [(recordRoom_eq_true_iff (noWaiting s) x).mpr (.inl hfew)]; nofun
    have hchange : ¬ changeRoom 1 (noWaiting s) = false := by rw [(changeRoom_eq_true_iff 1 (noWaiting s)).mpr hroom]; nofun
    refine ⟨fun x k hot action entry hwaiting hdecision => ?_, fun r hot hwaiting => ?_,
      fun l hot k tried hwaiting => ?_, fun l hot tried hwaiting => ?_, fun l hot hwaiting => ?_⟩
    · obtain ⟨rfl, rfl⟩ := Prod.mk.inj (hdecision.trans
        (rfl : _ = cellDecision (plannedCell s x.row x.lane) x.die (cellEntry s x.row x.lane)))
      have hstate := (takeWaiting_of_cell hwaiting).trans
        (decideCell_of_room (s := noWaiting s) hmode hquiet.queue hnone hroom hfew k hot)
      refine ⟨_, exec_waitingDecisionTaken hwaiting hroom hstate hquiet.heldLane hquiet.queue, ?_, rfl, rfl, rfl, rfl, rfl, rfl,
        rfl, rfl, rfl⟩
      cases k <;> rfl
    · have hstate : takeWaiting s = recordedIn (noWaiting s)
          (record s (.row r) .rowDead .rowConceal none false hot .sensed) [.row r .lost] := by
        rw [takeWaiting_of_row hwaiting, decideRow_eq (s := noWaiting s) hmode (by show ∀ x ∈ s.track.suspects, _; rw [hnone]; nofun),
          if_neg (hrecord _), if_neg (fun h => hchange h.2), trackWithout_of_empty (s := noWaiting s) hquiet.queue hnone]
        rfl
      exact ⟨_, exec_waitingDecisionTaken hwaiting hroom hstate hquiet.heldLane hquiet.queue, rfl, rfl, rfl, rfl, rfl, rfl, rfl,
        rfl, rfl, rfl⟩
    · have hstate : takeWaiting s = sparedIn (noWaiting s) l k tried hot [.lane l (.spared k) .failed] := by
        rw [takeWaiting_of_lane hwaiting, finishLane_sparedBy (s := noWaiting s) hmode, if_neg (hrecord _), if_neg hchange]
      exact ⟨_, exec_waitingDecisionTaken hwaiting hroom hstate hquiet.heldLane hquiet.queue, rfl, rfl, rfl, rfl, rfl, rfl, rfl,
        rfl, rfl, rfl⟩
    · have hstate : takeWaiting s = darkenedIn (noWaiting s) l tried hot [.lane l .dark .failed] := by
        rw [takeWaiting_of_lane hwaiting, finishLane_allFailed (s := noWaiting s) hmode, if_neg (hrecord _), if_neg nofun, if_neg hchange]
      exact ⟨_, exec_waitingDecisionTaken hwaiting hroom hstate hquiet.heldLane hquiet.queue, rfl, rfl, rfl, rfl, rfl, rfl, rfl,
        rfl, rfl, rfl⟩
    · have hstate : takeWaiting s = recordedIn (noWaiting s)
          (record s (.lane l) .laneDead .laneDark none false hot .sensed) [.lane l .dark .failed] := by
        rw [takeWaiting_of_lane hwaiting, finishLane_noSlot (s := noWaiting s) hmode, if_neg (hrecord _), if_neg hchange]
        rfl
      exact ⟨_, exec_waitingDecisionTaken hwaiting hroom hstate hquiet.heldLane hquiet.queue, rfl, rfl, rfl, rfl, rfl, rfl, rfl,
        rfl, rfl, rfl⟩
  · intro place
    have hplace : recordRoom s (.lane b.lane) = true ↔ place := recordRoom_eq_true_iff _ _
    have hdone : bindRoom s = completeBind b t frame temp s := by
      rw [bindRoom, hbind]
      dsimp only
      rw [hstage]
      exact if_pos ((changeRoom_eq_true_iff 1 s).mpr hroom)
    have hexec {r : Reply} {u : State} (hstate : completeBind b t frame temp s = endBind b r u)
        (hheld : u.repair.heldLane = none) (hqueue : u.track.queue = []) (hu : u.sense.spots = [])
        (hfree : u.unit.replies.length < 8) : exec .bindWaitComplete s
          = .next ((u.withRepair { u.repair with bind := none }).withUnit { u.unit with replies := u.unit.replies ++ [r] }) := by
      refine congrArg Host.Outcome.next ?_
      rw [hdone, hstate, settle_of_quiet (by exact hheld) (by exact hqueue), offerReplies_endBind hu, if_pos hfree]
    refine ⟨fun hp => ?_, fun hp => ?_⟩
    · exact ⟨_, hexec (completeBind_of_place hmode (hplace.mpr hp) t frame temp) hquiet.heldLane hquiet.queue hspots hreplies,
        rfl, rfl, rfl, rfl, rfl, rfl, rfl, rfl, rfl, ⟨rfl, rfl, rfl, rfl, rfl, rfl, rfl, rfl⟩⟩
    · exact ⟨_, hexec (completeBind_of_full (Bool.eq_false_iff.mpr (mt hplace.mp hp)) t frame temp) hquiet.heldLane hquiet.queue
        hspots hreplies, rfl, rfl, ⟨rfl, rfl, rfl, rfl, rfl, rfl, rfl, rfl⟩⟩

end Sys2Proof.Machine

/-! Verify results of a check and of a bind (O40). -/

namespace Sys2Proof.Machine

-- One theorem at a time: elaborated at once, they wait on each other and each holds a thread.
set_option Elab.async false

/-! ## The slot that the engine finds (R98, R117) -/

/-- The lower slot of the lane's group comes first. -/
theorem freeSlotFor_of_first {s : State} {l k : Nat} {tried : List Nat}
    (hk : k = 2 * (l / 24) ∨ (k = 2 * (l / 24) + 1
      ∧ ¬ (plannedSlot s (2 * (l / 24)) = .free ∧ 2 * (l / 24) ∉ tried)))
    (hfree : plannedSlot s k = .free ∧ k ∉ tried) : freeSlotFor s l tried = some k := by
  have hslots : slotsOf l = [2 * (l / 24), 2 * (l / 24) + 1] := rfl
  let p (j : Nat) : Bool := plannedSlot s j == .free && !tried.contains j
  have hpick (j : Nat) : p j = true ↔ plannedSlot s j = .free ∧ j ∉ tried := by simp [p]
  show (slotsOf l).find? p = some k
  rw [hslots]
  obtain rfl | ⟨rfl, hnot⟩ := hk
  · rw [List.find?_cons_of_pos ((hpick _).mpr hfree)]
  · rw [List.find?_cons_of_neg (mt (hpick _).mp hnot), List.find?_cons_of_pos ((hpick _).mpr hfree)]

theorem freeSlotFor_of_none {s : State} {l : Nat} {tried : List Nat}
    (hlow : ¬ (plannedSlot s (2 * (l / 24)) = .free ∧ 2 * (l / 24) ∉ tried))
    (hhigh : ¬ (plannedSlot s (2 * (l / 24) + 1) = .free ∧ 2 * (l / 24) + 1 ∉ tried)) : freeSlotFor s l tried = none := by
  have hslots : slotsOf l = [2 * (l / 24), 2 * (l / 24) + 1] := rfl
  rw [freeSlotFor, hslots, List.find?_eq_none]
  intro k hk
  simp only [List.mem_cons, List.not_mem_nil, or_false] at hk
  obtain rfl | rfl := hk
  · simpa using hlow
  · simpa using hhigh

/-- Entry k of the table that the listed changes leave depends on entry k alone. -/
theorem getElem?_slotsPlanned_congr {s t : State} {k : Nat} (hchanges : t.repair.changes = s.repair.changes)
    (hstore : t.store = s.store) (h : t.repair.slots[k]? = s.repair.slots[k]?) :
    (slotsPlanned t)[k]? = (slotsPlanned s)[k]? := by
  rw [slotsPlanned, slotsPlanned, hchanges, hstore]
  generalize t.repair.slots = xs at h
  generalize s.repair.slots = ys at h
  induction s.repair.changes generalizing xs ys with
  | nil => exact h
  | cons c cs ih =>
    rw [List.foldl_cons, List.foldl_cons]
    refine ih _ _ ?_
    cases c with
    | lane l st disp => simp only [slotsAfter, List.getElem?_mapIdx, h]
    | _ => exact h

theorem plannedSlot_setSlot_other {s : State} {j k : Nat} (h : k ≠ j) (x : SlotState) :
    plannedSlot (setSlot j x s) k = plannedSlot s k := by
  have hentry : (setSlot j x s).repair.slots[k]? = s.repair.slots[k]? := List.getElem?_set_ne (Ne.symm h)
  have hplanned := getElem?_slotsPlanned_congr (s := s) (t := setSlot j x s) rfl rfl hentry
  rw [plannedSlot, plannedSlot, slotNow, slotNow, List.getD_eq_getElem?_getD, List.getD_eq_getElem?_getD,
    List.getD_eq_getElem?_getD, List.getD_eq_getElem?_getD, hplanned, hentry]

/-- A slot that was tried and is freed does not come into the search again (R99, R118). -/
theorem freeSlotFor_setSlot {s : State} {j l : Nat} {tried : List Nat} (h : j ∈ tried) (x : SlotState) :
    freeSlotFor (setSlot j x s) l tried = freeSlotFor s l tried := by
  rw [freeSlotFor, freeSlotFor]
  congr 1
  funext k
  by_cases hk : k ∈ tried
  · simp [hk]
  · rw [plannedSlot_setSlot_other (fun hsame : k = j => hk (by rw [hsame]; exact h))]

/-! ## The verify of a check (R118) -/

/-- With no place for its record a lane decision is left unrecorded, its slots FREE (R115, R119). -/
theorem finishLane_of_full {s : State} {l : Nat} {f : LaneFinish} {iso : Bool} (hplace : recordRoom s (.lane l) = false)
    (hf : f ≠ .noSlot) (hot : Bool) : finishLane l hot f iso s = leftOut (freeReserved l f.slots s) := by
  rw [finishLane, if_neg (fun h => hf h.1), hplace, leaveUnrecorded_eq_leftOut]
  rfl

/-- The end of a check with no record on the held line and no lane decision held (R100). -/
theorem endCheck_of_no_hold {s : State} (hkept : ∀ x ∈ s.track.suspects, x.held = none)
    (hheld : s.repair.heldLane = none) :
    endCheck s = (s.withCorr { check := none }).withSense { s.sense with tried := .clear } := by
  have hsame : { s.repair with heldLane := none } = s.repair := by rw [← hheld]
  rw [endCheck_eq hkept, hsame]
  rfl

/-- A failing verify: the next slot is RESERVED, or the lane is decided DARK (R118). -/
theorem verifyDone_of_failing {c : Check} {v : Verify} {r : TestResult} {s : State} (hr : r = .openDie ∨ r = .shortDie)
    (htried : v.slot ∈ v.tried) :
    (∀ k, freeSlotFor s c.die.lane v.tried = some k →
      verifyDone c v r s = startVerify c v.die k v.tried v.isolated (setSlot v.slot .free s))
    ∧ (freeSlotFor s c.die.lane v.tried = none →
      verifyDone c v r s = endCheck (finishLane c.die.lane c.hotSeen (.allFailed v.tried) v.isolated s)) := by
  obtain rfl | rfl := hr
  all_goals
    refine ⟨fun k hk => ?_, fun hnone => ?_⟩
    · rw [verifyDone]
      dsimp only
      rw [freeSlotFor_setSlot htried, hk]
    · rw [verifyDone]
      dsimp only
      rw [freeSlotFor_setSlot htried, hnone]

@[simp] theorem verifyDone_bind (c : Check) (v : Verify) (r : TestResult) (s : State) :
    (verifyDone c v r s).repair.bind = s.repair.bind := by
  unfold verifyDone
  dsimp only
  split
  · rfl
  · simp
  all_goals
    split
    · rfl
    · simp

/-- With no reply due, what a result sets going in the fault path is that of DESCRIPTOR_TAKE (R89). -/
theorem exec_testCompletion_of_fault {t : TestRecord} {s u : State} (halone : EndsAlone t s) (hreplies : NoReplyDue s)
    (knee : Option (Fin 255)) (hhand : handResult t (classify t knee) (reportedT t knee) (linesBack s) = u)
    (hframe : FaultFrame (linesBack s) u) (hbind : u.repair.bind = s.repair.bind) :
    exec (.testCompletion knee) s = exec .descriptorTake (releaseHold u) := by
  have hall := hframe.trans (.releaseHold u)
  have hdue : NoReplyDue (releaseHold u) := by
    rw [NoReplyDue, hall.replies, hall.sense, releaseHold_bind, hbind]
    simpa [NoReplyDue] using hreplies
  rw [exec_testCompletion_of_endsAlone halone, hhand, settle, offerReplies_of_noReplyDue (noReplyDue_takeAll hdue)]
  rfl

theorem handResult_of_check {t : TestRecord} {j : Nat} {c : Check} {v : Verify} {s : State} (hsource : t.source = .verify j)
    (hcheck : s.corr.check = some c) (hverify : c.verify = some v) (r : TestResult) (tick : Nat) :
    handResult t r tick s = verifyDone c v r s := by
  have hbind : s.corr.check.bind verifying? = some (c, v) := by simp [hcheck, verifying?, hverify]
  rw [handResult, hsource]
  dsimp only
  rw [hbind]

theorem handResult_of_bind {t : TestRecord} {j : Nat} {b : Bind} {s : State} (hsource : t.source = .verify j)
    (hnone : ∀ c, s.corr.check = some c → c.verify = none) (hbind : s.repair.bind = some b) (hstage : b.stage = .verifying)
    (r : TestResult) (tick : Nat) : handResult t r tick s = bindDone b r tick s := by
  have hcheck : s.corr.check.bind verifying? = none := by
    cases hc : s.corr.check with
    | none => rfl
    | some c => simp [verifying?, hnone c hc]
  rw [handResult, hsource]
  dsimp only
  rw [hcheck, hbind]
  exact if_pos hstage

/-- The end of a check that held no lane decision. -/
def checkEnded (s : State) : State := (s.withCorr { check := none }).withSense { s.sense with tried := .clear }

theorem releaseHold_endCheck {s : State} (hkept : ∀ x ∈ s.track.suspects, x.held = none)
    (hheld : s.repair.heldLane = none) : releaseHold (endCheck s) = checkEnded s := by
  rw [endCheck_of_no_hold hkept hheld, releaseHold_of_no_check rfl]
  rfl

theorem releaseHold_of_no_heldLane {s : State} (h : s.repair.heldLane = none) : releaseHold s = s :=
  releaseHold_of_not_due fun _ hx => absurd (h.symm.trans hx) (by simp)

/-- The part once its test is over, the lines given back to the scan. -/
def testOver (s : State) (sc : ScanDriver) : State := (s.withSense { s.sense with test := none }).withScan sc

theorem sparedIn_testOver (s : State) (sc : ScanDriver) (l k : Nat) (tried : List Nat) (hot : Bool) (cs : List Change) :
    sparedIn (testOver s sc) l k tried hot cs = testOver (sparedIn s l k tried hot cs) sc := rfl

theorem darkenedIn_testOver (s : State) (sc : ScanDriver) (l : Nat) (tried : List Nat) (hot : Bool) (cs : List Change) :
    darkenedIn (testOver s sc) l tried hot cs = testOver (darkenedIn s l tried hot cs) sc := rfl

theorem leftOut_testOver (s : State) (sc : ScanDriver) (l : Nat) (tried : List Nat) :
    leftOut (freeReserved l tried (testOver s sc))
      = testOver (leftOut (s.withRepair { s.repair with slots := slotsFreed s l tried })) sc := by
  rw [freeReserved_eq]
  rfl

theorem withRepair_testOver (s : State) (sc : ScanDriver) (x : Repair) :
    (testOver s sc).withRepair x = testOver (s.withRepair x) sc := rfl

theorem checkEnded_testOver_sense (s : State) (sc : ScanDriver) :
    (checkEnded (testOver s sc)).sense = { s.sense with test := none, tried := .clear } := rfl
theorem checkEnded_testOver_track (s : State) (sc : ScanDriver) : (checkEnded (testOver s sc)).track = s.track := rfl
theorem checkEnded_testOver_unit (s : State) (sc : ScanDriver) : (checkEnded (testOver s sc)).unit = s.unit := rfl
theorem checkEnded_testOver_repair (s : State) (sc : ScanDriver) : (checkEnded (testOver s sc)).repair = s.repair := rfl

theorem changeRoom_one_eq_false {s : State} (h : 16 ≤ s.repair.changes.length) : changeRoom 1 s = false :=
  Bool.eq_false_iff.mpr (mt (changeRoom_eq_true_iff 1 s).mp (by omega))

section
variable {c : Check} {v : Verify} {s : State} (hkept : ∀ x ∈ s.track.suspects, x.held = none)
  (hheld : s.repair.heldLane = none)
include hkept hheld

/-- A decision that ends its check: what is left is the decision alone. -/
theorem releaseHold_of_ended {r : TestResult} {u : State} (h : verifyDone c v r s = endCheck u) (htrack : u.track = s.track)
    (hlane : u.repair.heldLane = s.repair.heldLane) : releaseHold (verifyDone c v r s) = checkEnded u := by
  rw [h, releaseHold_endCheck (by rw [htrack]; exact hkept) (hlane.trans hheld)]

/-- The verify passed: the lane is SPARED by the slot, or the decision waits for room (R118, R119). -/
theorem releaseHold_verifyDone_good (hmode : s.ctl.mode ≠ .standby) (hfew : s.repair.defects.length < 192) :
    releaseHold (verifyDone c v .good s) = checkEnded (if s.repair.changes.length < 16 then
        sparedIn s c.die.lane v.slot v.tried c.hotSeen [.lane c.die.lane (.spared v.slot) .failed]
      else s.withRepair { s.repair with waiting := some (.lane c.die.lane c.hotSeen (.sparedBy v.slot v.tried)) }) := by
  have hdone : verifyDone c v .good s
      = endCheck (finishLane c.die.lane c.hotSeen (.sparedBy v.slot v.tried) v.isolated s) := rfl
  have hrecord := (recordRoom_eq_true_iff s (.lane c.die.lane)).mpr (.inl hfew)
  rw [finishLane_sparedBy hmode, if_neg (by rw [hrecord]; nofun)] at hdone
  by_cases hroom : s.repair.changes.length < 16
  · rw [if_neg (by rw [(changeRoom_eq_true_iff 1 s).mpr hroom]; nofun)] at hdone
    rw [if_pos hroom, releaseHold_of_ended hkept hheld hdone rfl rfl]
  · rw [if_pos (changeRoom_one_eq_false (Nat.not_lt.mp hroom))] at hdone
    rw [if_neg hroom, releaseHold_of_ended hkept hheld hdone rfl rfl]

/-- The verify failed on the last slot: the lane is DARK, or the decision waits for room (R118, R119). -/
theorem releaseHold_verifyDone_last (hmode : s.ctl.mode ≠ .standby) (hfew : s.repair.defects.length < 192) {r : TestResult}
    (hr : r = .openDie ∨ r = .shortDie) (htried : v.slot ∈ v.tried) (hnone : freeSlotFor s c.die.lane v.tried = none) :
    releaseHold (verifyDone c v r s) = checkEnded (if v.isolated = true then
        darkenedIn s c.die.lane v.tried c.hotSeen []
      else if s.repair.changes.length < 16 then
        darkenedIn s c.die.lane v.tried c.hotSeen [.lane c.die.lane .dark .failed]
      else s.withRepair { s.repair with waiting := some (.lane c.die.lane c.hotSeen (.allFailed v.tried)) }) := by
  have hdone := (verifyDone_of_failing (c := c) hr htried).2 hnone
  have hrecord := (recordRoom_eq_true_iff s (.lane c.die.lane)).mpr (.inl hfew)
  rw [finishLane_allFailed hmode, if_neg (by rw [hrecord]; nofun)] at hdone
  by_cases hisolated : v.isolated = true
  · rw [if_pos hisolated] at hdone ⊢
    rw [releaseHold_of_ended hkept hheld hdone rfl rfl]
  rw [if_neg hisolated] at hdone ⊢
  by_cases hroom : s.repair.changes.length < 16
  · rw [if_neg (by rw [(changeRoom_eq_true_iff 1 s).mpr hroom]; nofun)] at hdone
    rw [if_pos hroom, releaseHold_of_ended hkept hheld hdone rfl rfl]
  · rw [if_pos (changeRoom_one_eq_false (Nat.not_lt.mp hroom))] at hdone
    rw [if_neg hroom, releaseHold_of_ended hkept hheld hdone rfl rfl]

/-- The verify passed with no place for the record: the decision is left unrecorded (R115). -/
theorem releaseHold_verifyDone_noPlace (hplace : recordRoom s (.lane c.die.lane) = false) :
    releaseHold (verifyDone c v .good s) = checkEnded (leftOut (freeReserved c.die.lane v.tried s)) := by
  have hdone : verifyDone c v .good s = endCheck (leftOut (freeReserved c.die.lane v.tried s)) :=
    congrArg endCheck (finishLane_of_full (f := .sparedBy v.slot v.tried) hplace (by nofun) c.hotSeen)
  rw [releaseHold_of_ended hkept hheld hdone (by rw [freeReserved_eq]; rfl) (by rw [freeReserved_eq]; rfl)]

end

/-- A failing verify with another slot to try (R118). -/
theorem releaseHold_verifyDone_next {c : Check} {v : Verify} {s : State} (hheld : s.repair.heldLane = none) {r : TestResult}
    (hr : r = .openDie ∨ r = .shortDie) (htried : v.slot ∈ v.tried) {k : Nat}
    (hk : freeSlotFor s c.die.lane v.tried = some k) :
    (releaseHold (verifyDone c v r s)).corr.check = some { c with verify := some ⟨k, v.die, v.tried ++ [k], v.isolated⟩ }
    ∧ (releaseHold (verifyDone c v r s)).repair
      = { s.repair with slots := (s.repair.slots.set v.slot .free).set k (.reserved c.die.lane) }
    ∧ (releaseHold (verifyDone c v r s)).track = s.track ∧ (releaseHold (verifyDone c v r s)).unit = s.unit
    ∧ (releaseHold (verifyDone c v r s)).sense = { s.sense with tried := { s.sense.tried with verify := false } } := by
  rw [(verifyDone_of_failing hr htried).1 k hk,
    releaseHold_of_no_heldLane (s := startVerify c v.die k v.tried v.isolated (setSlot v.slot .free s)) hheld]
  exact ⟨rfl, rfl, rfl, rfl, rfl⟩

/-! ## The verify of a bind (R127) -/

/-- What the manual bind leaves alone in the fault path. -/
structure FaultPathKept (s t : State) : Prop where
  corr     : t.corr = s.corr
  track    : t.track = s.track
  sense    : t.sense = s.sense
  heldLane : t.repair.heldLane = s.repair.heldLane
  waiting  : t.repair.waiting = s.repair.waiting

theorem FaultPathKept.trans {s t u : State} (h : FaultPathKept s t) (k : FaultPathKept t u) : FaultPathKept s u :=
  ⟨k.corr.trans h.corr, k.track.trans h.track, k.sense.trans h.sense, k.heldLane.trans h.heldLane,
    k.waiting.trans h.waiting⟩

theorem FaultPathKept.applyChange (frame : Nat) (c : Change) (s : State) : FaultPathKept s (applyChange frame s c) := by
  cases c with
  | row r st => rw [applyChange_row]; split <;> constructor <;> simp
  | lane l st disp => rw [applyChange_lane]; split <;> constructor <;> simp [laneMoved]
  | _ => exact ⟨rfl, rfl, rfl, rfl, rfl⟩

theorem FaultPathKept.applyChanges (s : State) : FaultPathKept s (applyChanges s) := by
  have hat (f : Nat) : FaultPathKept s (applyChangesAt f s) := by
    have hfold : FaultPathKept s (s.repair.changes.foldl (Machine.applyChange f) s) :=
      List.foldlRecOn (motive := FaultPathKept s) _ _ ⟨rfl, rfl, rfl, rfl, rfl⟩
        fun _ hu c _ => hu.trans (.applyChange _ c _)
    exact hfold.trans ⟨rfl, rfl, rfl, rfl, rfl⟩
  simp only [Machine.applyChanges]
  split
  · exact hat _
  · exact (hat _).trans ⟨rfl, rfl, rfl, rfl, rfl⟩

theorem FaultPathKept.addChanges (cs : List Change) (s : State) : FaultPathKept s (addChanges cs s) := by
  unfold Machine.addChanges
  dsimp only
  split
  · have hadded : FaultPathKept s (s.withRepair { s.repair with changes := s.repair.changes ++ cs }) :=
      ⟨rfl, rfl, rfl, rfl, rfl⟩
    exact hadded.trans (.applyChanges _)
  · exact ⟨rfl, rfl, rfl, rfl, rfl⟩

theorem FaultPathKept.completeBind (b : Bind) (t frame : Nat) (temp : Int) (s : State) :
    FaultPathKept s (completeBind b t frame temp s) := by
  unfold Machine.completeBind
  dsimp only
  split
  · rw [addRecord_counted]
    have hrecorded (x : Defect) : FaultPathKept s (recordedIn s x []) := ⟨rfl, rfl, rfl, rfl, rfl⟩
    have hended (x : Reply) (u : State) : FaultPathKept u (endBind b x u) := ⟨rfl, rfl, rfl, rfl, rfl⟩
    exact (hrecorded _).trans ((FaultPathKept.addChanges _ _).trans (hended _ _))
  · exact ⟨rfl, rfl, rfl, rfl, rfl⟩

theorem FaultPathKept.bindDone (b : Bind) (r : TestResult) (t : Nat) (s : State) : FaultPathKept s (bindDone b r t s) := by
  cases r with
  | good =>
    rw [bindDone_good]
    split
    · split
      · exact .completeBind _ _ _ _ _
      · exact ⟨rfl, rfl, rfl, rfl, rfl⟩
    · exact ⟨rfl, rfl, rfl, rfl, rfl⟩
  | _ => exact ⟨rfl, rfl, rfl, rfl, rfl⟩

theorem settle_bindDone {s : State} (hheld : s.repair.heldLane = none) (htake : NoTake s ∨ s.track.queue = []) (b : Bind)
    (r : TestResult) (t : Nat) : settle (bindDone b r t s) = bindDone b r t s := by
  have hkept := FaultPathKept.bindDone b r t s
  rw [settle, releaseHold_of_no_heldLane (hkept.heldLane.trans hheld), takeAll_of_not_canTake]
  obtain hno | hempty := htake
  · refine canTake_of_noTake ?_
    rw [NoTake, hkept.corr, hkept.waiting, (FaultFrame.bindDone b r t s).ctl]
    exact hno
  · exact canTake_of_empty (by rw [hkept.track]; exact hempty)

theorem offerReplies_of_no_spots {s : State} (h : s.sense.spots = []) : offerReplies s = enterBind s := by
  rw [offerReplies, enterSpots_of_waiting fun e he => by rw [h] at he; cases he]

theorem enterBind_sense (s : State) : (enterBind s).sense = s.sense := by
  unfold enterBind
  repeat' split
  all_goals rfl

/-- The reply of a bind that has ended: it enters, or with no place the bind keeps it (R166). -/
theorem offerReplies_endBind_fields {b : Bind} {y : Reply} {s : State} (hspots : s.sense.spots = []) :
    (s.unit.replies.length < 8 → (offerReplies (endBind b y s)).repair = { s.repair with bind := none }
      ∧ (offerReplies (endBind b y s)).unit = { s.unit with replies := s.unit.replies ++ [y] })
    ∧ (8 ≤ s.unit.replies.length →
      (offerReplies (endBind b y s)).repair = { s.repair with bind := some { b with stage := .ended y } }
      ∧ (offerReplies (endBind b y s)).unit = s.unit) := by
  rw [offerReplies_endBind hspots]
  by_cases hroom : s.unit.replies.length < 8
  · rw [if_pos hroom]
    exact ⟨fun _ => ⟨rfl, rfl⟩, fun hfull => absurd hroom (Nat.not_lt.mpr hfull)⟩
  · rw [if_neg hroom]
    exact ⟨fun h => absurd h hroom, fun _ => ⟨rfl, rfl⟩⟩

theorem setSlot_testOver (s : State) (sc : ScanDriver) (k : Nat) (x : SlotState) :
    setSlot k x (testOver s sc) = testOver (setSlot k x s) sc := rfl

theorem recordedIn_testOver (s : State) (sc : ScanDriver) (x : Defect) (cs : List Change) :
    recordedIn (testOver s sc) x cs = testOver (recordedIn s x cs) sc := rfl

/-- Settles O40: for a check's verify by what its decision makes of the state, for a bind's by the reply that ends it. -/
theorem verifiesMoveTheSlots : Obligations.VerifiesMoveTheSlots := by
  refine ⟨fun t knee j c v s halone hreplies hsource hcheck hverify => ?_,
    fun t knee j b r s halone hspots hsource hnone hbind hstage htake hr => ?_⟩
  · intro l failed untried recorded freed blamed ended
    obtain ⟨sc, hback⟩ : ∃ sc, linesBack s = testOver s sc := ⟨_, linesBack_eq s⟩
    have hended (u : State) (hsense : u.sense = s.sense) (htrack : u.track = s.track) :
        ended (checkEnded (testOver u sc)) := by
      refine ⟨rfl, ?_, ?_⟩
      · rw [checkEnded_testOver_sense, hsense]
      · rw [checkEnded_testOver_track, htrack]
    have hhand : handResult t (classify t knee) (reportedT t knee) (linesBack s)
        = verifyDone c v (classify t knee) (testOver s sc) := by
      rw [hback, handResult_of_check hsource (s := testOver s sc) hcheck hverify]
    have hframe : FaultFrame (linesBack s) (verifyDone c v (classify t knee) (testOver s sc)) := by
      rw [hback]
      exact .verifyDone c v _ _
    have hall := hframe.trans (.releaseHold _)
    refine ⟨_, exec_testCompletion_of_fault halone hreplies knee hhand hframe (verifyDone_bind c v _ _),
      hall.ctl.trans (linesBack_ctl s), hall.store.trans (linesBack_store s), hall.link.trans (linesBack_link s),
      fun hinconclusive => ?_, fun hmode hkept hfew => ⟨fun hgood => ?_, fun hfailed htried => ⟨fun k hk hfree => ?_,
      fun hlow hhigh => ?_⟩⟩, fun hkept hmany hnolane hgood => ?_⟩
    all_goals clear hhand hframe hall hback
    · rw [hinconclusive]
      have hhold : releaseHold (verifyDone c v .inconclusive (testOver s sc)) = testOver s sc :=
        releaseHold_of_no_heldLane halone.heldLane
      rw [hhold]
      exact ⟨rfl, rfl, rfl, rfl, rfl⟩
    · rw [hgood, releaseHold_verifyDone_good (s := testOver s sc) hkept halone.heldLane hmode hfew, sparedIn_testOver]
      by_cases hroom : s.repair.changes.length < 16
      · rw [if_pos (by exact hroom), checkEnded_testOver_repair, checkEnded_testOver_unit]
        exact ⟨hended _ rfl rfl, fun _ => ⟨rfl, rfl⟩, fun hfull => absurd hroom (Nat.not_lt.mpr hfull)⟩
      · rw [if_neg (by exact hroom), withRepair_testOver, checkEnded_testOver_repair, checkEnded_testOver_unit]
        exact ⟨hended _ rfl rfl, fun h => absurd h hroom, fun _ => ⟨rfl, rfl⟩⟩
    · exact releaseHold_verifyDone_next (s := testOver s sc) halone.heldLane hfailed htried
        (freeSlotFor_of_first (by exact hk) (by exact hfree))
    · rw [releaseHold_verifyDone_last (s := testOver s sc) hkept halone.heldLane hmode hfew hfailed htried
        (freeSlotFor_of_none (by exact hlow) (by exact hhigh)), darkenedIn_testOver, darkenedIn_testOver]
      cases v.isolated with
      | true =>
        rw [if_pos rfl, checkEnded_testOver_repair, checkEnded_testOver_unit]
        exact ⟨hended _ rfl rfl, fun _ => ⟨rfl, rfl⟩, nofun, nofun⟩
      | false =>
        rw [if_neg nofun]
        by_cases hroom : s.repair.changes.length < 16
        · rw [if_pos (by exact hroom), checkEnded_testOver_repair, checkEnded_testOver_unit]
          exact ⟨hended _ rfl rfl, nofun, fun _ _ => ⟨rfl, rfl⟩, fun _ hfull => absurd hroom (Nat.not_lt.mpr hfull)⟩
        · rw [if_neg (by exact hroom), withRepair_testOver, checkEnded_testOver_repair, checkEnded_testOver_unit]
          exact ⟨hended _ rfl rfl, nofun, fun _ h => absurd h hroom, fun _ _ => ⟨rfl, rfl⟩⟩
    · have hplace : recordRoom (testOver s sc) (.lane l) = false :=
        Bool.eq_false_iff.mpr (mt (recordRoom_eq_true_iff _ _).mp (by
          rintro (hfew | ⟨z, hz, hlane⟩)
          · exact absurd hmany (Nat.not_le.mpr hfew)
          · exact hnolane z hz hlane))
      rw [hgood, releaseHold_verifyDone_noPlace (s := testOver s sc) hkept halone.heldLane hplace, leftOut_testOver,
        checkEnded_testOver_repair, checkEnded_testOver_unit]
      exact ⟨⟨rfl, rfl, rfl⟩, rfl, rfl⟩
  · obtain ⟨sc, hback⟩ : ∃ sc, linesBack s = testOver s sc := ⟨_, linesBack_eq s⟩
    have hexec : exec (.testCompletion knee) s = .next (offerReplies (bindDone b r (reportedT t knee) (testOver s sc))) := by
      rw [exec_testCompletion_of_endsAlone halone, hback, ← hr,
        handResult_of_bind (s := testOver s sc) hsource hnone hbind hstage,
        settle_bindDone (s := testOver s sc) halone.heldLane htake]
    have hframe := FaultFrame.bindDone b r (reportedT t knee) (testOver s sc)
    have hkept := FaultPathKept.bindDone b r (reportedT t knee) (testOver s sc)
    have hoffer := OfferFrame.offerReplies (bindDone b r (reportedT t knee) (testOver s sc))
    have hsense : (offerReplies (bindDone b r (reportedT t knee) (testOver s sc))).sense = { s.sense with test := none } := by
      rw [offerReplies_of_no_spots (by rw [hkept.sense]; exact hspots), enterBind_sense, hkept.sense]
      rfl
    refine ⟨_, hexec, hoffer.ctl.trans hframe.ctl, hoffer.store.trans hframe.store, hoffer.link.trans hframe.link,
      hoffer.corr.trans hkept.corr, hoffer.track.trans hkept.track, hsense, ?_⟩
    clear hexec hframe hkept hoffer hsense hr
    intro answered place
    have hplace : recordRoom (testOver s sc) (.lane b.lane) = true ↔ place := recordRoom_eq_true_iff _ _
    have hroom : changeRoom 1 (testOver s sc) = true ↔ s.repair.changes.length < 16 := changeRoom_eq_true_iff 1 _
    have hwaits (u : State) (hu : u.sense.spots = []) (hends : ∀ b r, u.repair.bind = some b → b.stage ≠ .ended r) :
        offerReplies u = u := by rw [offerReplies_of_no_spots hu, enterBind_of_not_ended hends]
    refine ⟨fun h => ?_, fun h => ?_, fun h hp hfull => ?_, fun h hp hfew hmode => ?_, fun h hp => ?_⟩
    · rw [h, show bindDone b .inconclusive (reportedT t knee) (testOver s sc) = testOver s sc from rfl,
        hwaits (testOver s sc) hspots fun x y hx hy => ?_]
      · exact ⟨rfl, rfl⟩
      · rw [← Option.some.inj (hbind.symm.trans hx), hstage] at hy
        cases hy
    · obtain rfl | rfl := h
      · exact offerReplies_endBind_fields (s := testOver (setSlot b.slot .free s) sc) hspots
      · exact offerReplies_endBind_fields (s := testOver (setSlot b.slot .free s) sc) hspots
    · rw [h, bindDone_good, if_pos (hplace.mpr hp), if_neg (mt hroom.mp (Nat.not_lt.mpr hfull)), withRepair_testOver, hwaits]
      · exact ⟨rfl, rfl⟩
      · exact hspots
      · intro x y hx hy
        rw [← Option.some.inj hx] at hy
        cases hy
    · subst h
      simp only [answered]
      rw [bindDone_good, if_pos (hplace.mpr hp), if_pos (hroom.mpr hfew),
        completeBind_of_place (by exact hmode) (hplace.mpr hp), recordedIn_testOver]
      exact offerReplies_endBind_fields (s := testOver (recordedIn s _ _) sc) hspots
    · subst h
      simp only [answered]
      rw [bindDone_good, if_neg (mt hplace.mp hp), setSlot_testOver]
      exact offerReplies_endBind_fields (s := testOver (setSlot b.slot .free s) sc) hspots

end Sys2Proof.Machine

/-! Probe results, and the outcome of a check: WIDE, ROW, LANE or CELL (O39). -/

namespace Sys2Proof.Machine

-- One theorem at a time: elaborated at once, they wait on each other and each holds a thread.
set_option Elab.async false

/-! ## What a decision leaves, field by field -/

@[simp] theorem checkEnded_corr (s : State) : (checkEnded s).corr = { check := none } := rfl
@[simp] theorem checkEnded_sense (s : State) : (checkEnded s).sense = { s.sense with tried := .clear } := rfl
@[simp] theorem checkEnded_track (s : State) : (checkEnded s).track = s.track := rfl
@[simp] theorem checkEnded_unit (s : State) : (checkEnded s).unit = s.unit := rfl
@[simp] theorem checkEnded_repair (s : State) : (checkEnded s).repair = s.repair := rfl
@[simp] theorem checkEnded_comp (s : State) : (checkEnded s).comp = s.comp := rfl

@[simp] theorem recordedIn_track (s : State) (x : Defect) (cs : List Change) : (recordedIn s x cs).track = s.track := rfl
@[simp] theorem recordedIn_sense (s : State) (x : Defect) (cs : List Change) : (recordedIn s x cs).sense = s.sense := rfl
@[simp] theorem recordedIn_comp (s : State) (x : Defect) (cs : List Change) : (recordedIn s x cs).comp = s.comp := rfl
@[simp] theorem recordedIn_unit (s : State) (x : Defect) (cs : List Change) : (recordedIn s x cs).unit = unitNoted s := rfl
@[simp] theorem recordedIn_repair (s : State) (x : Defect) (cs : List Change) : (recordedIn s x cs).repair
    = { s.repair with
        defects := listWith s x, seqCounter := (s.repair.seqCounter + 1) % 65536, changes := s.repair.changes ++ cs } := rfl

@[simp] theorem leftOut_track (s : State) : (leftOut s).track = s.track := rfl
@[simp] theorem leftOut_sense (s : State) : (leftOut s).sense = s.sense := rfl
@[simp] theorem leftOut_comp (s : State) : (leftOut s).comp = s.comp := rfl
@[simp] theorem leftOut_unit (s : State) : (leftOut s).unit = unitFull s := rfl
@[simp] theorem leftOut_repair (s : State) :
    (leftOut s).repair = { s.repair with unrecorded := min (s.repair.unrecorded + 1) 65535 } := rfl

/-- A decision that leaves no record held on its line, no lane decision held, and the composition as it was. -/
structure Decided (s u : State) : Prop where
  kept     : ∀ x ∈ u.track.suspects, x.held = none
  heldLane : u.repair.heldLane = s.repair.heldLane
  comp     : u.comp = s.comp

theorem releaseHold_endCheck_of_decided {s u : State} (h : Decided s u) (hheld : s.repair.heldLane = none) :
    releaseHold (endCheck u) = checkEnded u := releaseHold_endCheck h.kept (h.heldLane.trans hheld)

section
variable {s : State} (hmode : s.ctl.mode ≠ .standby) (hkept : ∀ x ∈ s.track.suspects, x.held = none)
include hkept

theorem held_of_trackWithout (p : DieRef → Bool) : ∀ x ∈ (trackWithout s p).suspects, x.held = none :=
  fun x hx => hkept x (List.mem_filter.mp hx).1

theorem Decided.decideWide (x : DieRef) (hot : Bool) : Decided s (decideWide x hot s) := by
  rw [decideWide_eq hkept]
  split
  · exact ⟨hkept, rfl, rfl⟩
  · exact ⟨held_of_trackWithout hkept _, rfl, rfl⟩

include hmode in
theorem Decided.decideRow (auto : Bool) (r : Nat) (hot : Bool) : Decided s (decideRow auto r hot s) := by
  rw [decideRow_eq hmode hkept]
  split
  · exact ⟨hkept, rfl, rfl⟩
  · split
    · exact ⟨hkept, rfl, rfl⟩
    · exact ⟨held_of_trackWithout hkept _, rfl, rfl⟩

include hmode in
theorem Decided.decideCell (auto : Bool) (x : DieRef) (k : FaultKind) (hot : Bool) :
    Decided s (decideCell auto x k hot s) := by
  rw [decideCell_eq hmode hkept]
  split
  · exact ⟨hkept, rfl, rfl⟩
  · split
    · exact ⟨hkept, rfl, rfl⟩
    · exact ⟨held_of_trackWithout hkept _, rfl, rfl⟩

theorem Decided.adviseLane (l : Nat) (hot : Bool) : Decided s (adviseLane l hot s) := by
  rw [adviseLane_eq]
  split
  · exact ⟨hkept, rfl, rfl⟩
  · exact ⟨hkept, rfl, rfl⟩

include hmode in
theorem Decided.finishLane_noSlot (l : Nat) (hot : Bool) : Decided s (finishLane l hot .noSlot false s) := by
  rw [Machine.finishLane_noSlot hmode]
  split
  · exact ⟨hkept, rfl, rfl⟩
  · split
    · exact ⟨hkept, rfl, rfl⟩
    · exact ⟨hkept, rfl, rfl⟩

end

/-! ## LANE under AUTO (R117) -/

theorem adviseLane_track (l : Nat) (hot : Bool) (s : State) : (adviseLane l hot s).track = s.track := by
  rw [adviseLane_eq]
  split
  · rfl
  · rfl

theorem finishLane_noSlot_track {s : State} (hmode : s.ctl.mode ≠ .standby) (l : Nat) (hot : Bool) :
    (finishLane l hot .noSlot false s).track = s.track := by
  rw [finishLane_noSlot hmode]
  split
  · rfl
  · split
    · rfl
    · rfl

theorem searchSlot_track {s : State} {c : Check} {k : Nat} (h : freeSlotFor s c.die.lane [] = some k) (iso : Bool) :
    (searchSlot c iso s).track = s.track ∧ (searchSlot c iso s).comp = s.comp
      ∧ (searchSlot c iso s).repair.heldLane = s.repair.heldLane := by
  rw [searchSlot, h, verifyDie]
  dsimp only
  split
  · exact ⟨rfl, rfl, rfl⟩
  · exact ⟨rfl, rfl, rfl⟩

theorem searchSlot_fields {c : Check} {s : State} {k : Nat} {d : Die} (hslot : freeSlotFor s c.die.lane [] = some k)
    (hselected : (plannedCell s c.die.row c.die.lane).selected = some d) :
    (searchSlot c false s).corr.check = some { c with verify := some ⟨k, { c.die with die := d }, [k], false⟩ }
    ∧ (searchSlot c false s).sense = { s.sense with tried := { s.sense.tried with verify := false } }
    ∧ (searchSlot c false s).unit = s.unit
    ∧ (searchSlot c false s).repair = { s.repair with slots := s.repair.slots.set k (.reserved c.die.lane) } := by
  rw [searchSlot_of_found hslot hselected]
  exact ⟨rfl, rfl, rfl, rfl⟩

theorem anyReserved_iff (s : State) : anyReserved s = true ↔ ∃ z ∈ s.repair.slots, z.isReserved = true := List.any_eq_true

theorem releaseHold_of_reserved {s : State} (h : anyReserved s = true) : releaseHold s = s := by
  rw [releaseHold]
  cases s.corr.check with
  | none => rfl
  | some c =>
    cases s.repair.heldLane with
    | none => rfl
    | some x => simp [h]

section
variable {c : Check} {s : State} (hmode : s.ctl.mode ≠ .standby) (hkept : ∀ x ∈ s.track.suspects, x.held = none)
  (hheld : s.repair.heldLane = none) (hcheck : s.corr.check = some c)
include hmode hkept hheld

include hcheck in
/-- The spare of the lane has failed: the lane is isolated, the isolation waits, or it is left unrecorded (R117). -/
theorem releaseHold_autoLane_spared (hspared : laneSpared s c.die.lane = true) : releaseHold (autoLane c s)
    = if recordRoom s (.lane c.die.lane) then
        if changeRoom 1 s then
          (recordedIn s (record s (.lane c.die.lane) .laneDead .laneDark none false c.hotSeen .sensed)
            [.lane c.die.lane .dark .failed]).withRepair
            { (recordedIn s (record s (.lane c.die.lane) .laneDead .laneDark none false c.hotSeen .sensed)
                [.lane c.die.lane .dark .failed]).repair with heldLane := some ⟨true, false⟩ }
        else s.withRepair { s.repair with heldLane := some ⟨false, true⟩ }
      else checkEnded (leftOut s) := by
  rw [autoLane, if_pos hspared, isolate_eq _ _ hmode]
  split
  · split
    · exact releaseHold_of_spared (by exact hcheck) (by exact hspared)
    · exact releaseHold_of_not_due fun x hx => Option.some.inj hx ▸ rfl
  · rw [leaveUnrecorded_eq_leftOut]
    exact releaseHold_endCheck hkept hheld

/-- No slot is RESERVED and the lane is not SPARED: a slot is found, or the lane is decided DARK (R117, R119). -/
theorem releaseHold_autoLane_search (hspared : ¬ laneSpared s c.die.lane = true) (hreserved : ¬ anyReserved s = true) :
    releaseHold (autoLane c s)
      = if (freeSlotFor s c.die.lane []).isSome then searchSlot c false s
        else checkEnded (finishLane c.die.lane c.hotSeen .noSlot false s) := by
  rw [autoLane, if_neg hspared, if_neg hreserved]
  cases hslot : freeSlotFor s c.die.lane [] with
  | some k => exact releaseHold_of_no_heldLane ((searchSlot_track hslot false).2.2.trans hheld)
  | none =>
    rw [searchSlot_of_none hslot]
    exact releaseHold_endCheck_of_decided (.finishLane_noSlot hmode hkept _ _) hheld

omit hmode hkept hheld in
theorem releaseHold_autoLane_held (hspared : ¬ laneSpared s c.die.lane = true) (hreserved : anyReserved s = true) :
    releaseHold (autoLane c s) = s.withRepair { s.repair with heldLane := some ⟨false, false⟩ } := by
  rw [autoLane, if_neg hspared, if_pos hreserved]
  exact releaseHold_of_reserved hreserved

include hcheck in
theorem releaseHold_autoLane_track :
    (releaseHold (autoLane c s)).track = s.track ∧ (releaseHold (autoLane c s)).comp = s.comp := by
  by_cases hspared : laneSpared s c.die.lane = true
  · rw [releaseHold_autoLane_spared hmode hkept hheld hcheck hspared]
    split
    · split
      · exact ⟨rfl, rfl⟩
      · exact ⟨rfl, rfl⟩
    · exact ⟨rfl, rfl⟩
  by_cases hreserved : anyReserved s = true
  · rw [releaseHold_autoLane_held hspared hreserved]
    exact ⟨rfl, rfl⟩
  · rw [releaseHold_autoLane_search hmode hkept hheld hspared hreserved]
    cases hslot : freeSlotFor s c.die.lane [] with
    | some k => exact ⟨(searchSlot_track hslot false).1, (searchSlot_track hslot false).2.1⟩
    | none => exact ⟨finishLane_noSlot_track hmode _ _, (Decided.finishLane_noSlot hmode hkept _ _).comp⟩

end

/-! ## The outcome of the probes (R96 to R98) -/

theorem probeResult_eq {c : Check} {rs : List ProbeResult} (h : c.probes.map Probe.result = rs) (i : Nat) :
    probeResult c i = rs.getD i .pass := by
  rw [probeResult, ← h, List.getD_eq_getElem?_getD, List.getElem?_map]
  cases c.probes[i]? <;> rfl

theorem laneFails_iff {c : Check} {a b x y : ProbeResult} (h : c.probes.map Probe.result = [a, b, x, y]) :
    laneFails c = true ↔ a = .fail ∧ b = .fail := by
  rw [laneFails, probeResult_eq h, probeResult_eq h, Bool.and_eq_true, beq_iff_eq, beq_iff_eq]
  rfl

theorem rowFails_iff {c : Check} {a b x y : ProbeResult} (h : c.probes.map Probe.result = [a, b, x, y]) :
    rowFails c = true ↔ x = .fail ∧ y = .fail := by
  rw [rowFails, probeResult_eq h, probeResult_eq h, Bool.and_eq_true, beq_iff_eq, beq_iff_eq]
  rfl

theorem allProbed_iff (c : Check) : allProbed c = true ↔ ∀ p ∈ c.probes, p.result ≠ .pending := by
  simp [allProbed]

/-- The state without the dies of the lane, which a LANE outcome removes (R84). -/
def laneRemoved (s : State) (l : Nat) : State := s.withTrack (trackWithout s (·.lane == l))

section
variable {c : Check} {s : State} (hmode : s.ctl.mode ≠ .standby) (hkept : ∀ x ∈ s.track.suspects, x.held = none)
  (hheld : s.repair.heldLane = none)
include hkept

include hheld in
theorem releaseHold_handOutcome_wide (hlane : laneFails c = true) (hrow : rowFails c = true) :
    releaseHold (handOutcome c s) = checkEnded (decideWide c.die c.hotSeen s) := by
  rw [handOutcome, hlane, hrow]
  exact releaseHold_endCheck_of_decided (.decideWide hkept _ _) hheld

include hmode hheld in
theorem releaseHold_handOutcome_row (hlane : laneFails c = false) (hrow : rowFails c = true) :
    releaseHold (handOutcome c s) = checkEnded (decideRow (policyNow s == .auto) c.die.row c.hotSeen s) := by
  rw [handOutcome, hlane, hrow]
  exact releaseHold_endCheck_of_decided (.decideRow hmode hkept _ _ _) hheld

include hmode hheld in
theorem releaseHold_handOutcome_cell (hlane : laneFails c = false) (hrow : rowFails c = false) :
    releaseHold (handOutcome c s) = checkEnded (decideCell (policyNow s == .auto) c.die .openDie c.hotSeen s) := by
  rw [handOutcome, hlane, hrow]
  exact releaseHold_endCheck_of_decided (.decideCell hmode hkept _ _ _ _) hheld

include hheld in
theorem releaseHold_handOutcome_lane (hlane : laneFails c = true) (hrow : rowFails c = false) :
    releaseHold (handOutcome c s)
      = if policyNow s = .auto then releaseHold (autoLane c (laneRemoved s c.die.lane))
        else checkEnded (adviseLane c.die.lane c.hotSeen (laneRemoved s c.die.lane)) := by
  rw [handOutcome, hlane, hrow]
  dsimp only
  rw [laneRemoval, removeDies_eq_trackWithout hkept]
  have hpolicy : policyNow (laneRemoved s c.die.lane) = policyNow s := rfl
  rw [← laneRemoved, hpolicy]
  split
  · rfl
  · exact releaseHold_endCheck_of_decided (.adviseLane (held_of_trackWithout hkept _) _ _) hheld

include hmode hheld in
theorem releaseHold_handOutcome_comp (hcheck : s.corr.check = some c) : (releaseHold (handOutcome c s)).comp = s.comp := by
  cases hlane : laneFails c <;> cases hrow : rowFails c
  · rw [releaseHold_handOutcome_cell hmode hkept hheld hlane hrow]
    exact (Decided.decideCell hmode hkept _ _ _ _).comp
  · rw [releaseHold_handOutcome_row hmode hkept hheld hlane hrow]
    exact (Decided.decideRow hmode hkept _ _ _).comp
  · rw [releaseHold_handOutcome_lane hkept hheld hlane hrow]
    split
    · exact (releaseHold_autoLane_track (s := laneRemoved s c.die.lane) hmode (held_of_trackWithout hkept _) hheld hcheck).2
    · exact (Decided.adviseLane (s := laneRemoved s c.die.lane) (held_of_trackWithout hkept _) _ _).comp
  · rw [releaseHold_handOutcome_wide hkept hheld hlane hrow]
    exact (Decided.decideWide hkept _ _).comp

end

/-! ## The part at a probe's result -/

/-- The part once the test of a probe is over, its result in the check. -/
def probed (s : State) (sc : ScanDriver) (c : Check) : State := (testOver s sc).withCorr { check := some c }

section
variable (s : State) (sc : ScanDriver) (c : Check)

@[simp] theorem probed_sense : (probed s sc c).sense = { s.sense with test := none } := rfl
@[simp] theorem probed_unit : (probed s sc c).unit = s.unit := rfl
@[simp] theorem probed_repair : (probed s sc c).repair = s.repair := rfl
@[simp] theorem probed_track : (probed s sc c).track = s.track := rfl
@[simp] theorem probed_comp : (probed s sc c).comp = s.comp := rfl
@[simp] theorem listWith_probed (x : Defect) : listWith (probed s sc c) x = listWith s x := rfl
@[simp] theorem unitNoted_probed : unitNoted (probed s sc c) = unitNoted s := rfl
@[simp] theorem unitFull_probed : unitFull (probed s sc c) = unitFull s := rfl
@[simp] theorem record_probed (t : Target) (k : DefectKind) (a : DefectAction) (slot : Option Nat) (v hot : Bool)
    (o : Origin) : record (probed s sc c) t k a slot v hot o = record s t k a slot v hot o := rfl
@[simp] theorem trackWithout_probed (p : DieRef → Bool) : trackWithout (probed s sc c) p = trackWithout s p := rfl
@[simp] theorem cellEntry_probed (r l : Nat) : cellEntry (probed s sc c) r l = cellEntry s r l := rfl
@[simp] theorem plannedCell_probed (r l : Nat) : plannedCell (probed s sc c) r l = plannedCell s r l := rfl
@[simp] theorem policyNow_probed : policyNow (probed s sc c) = s.unit.params.policy := rfl

@[simp] theorem listWith_laneRemoved (l : Nat) (x : Defect) : listWith (laneRemoved s l) x = listWith s x := rfl
@[simp] theorem unitNoted_laneRemoved (l : Nat) : unitNoted (laneRemoved s l) = unitNoted s := rfl
@[simp] theorem unitFull_laneRemoved (l : Nat) : unitFull (laneRemoved s l) = unitFull s := rfl
@[simp] theorem record_laneRemoved (l : Nat) (t : Target) (k : DefectKind) (a : DefectAction) (slot : Option Nat)
    (v hot : Bool) (o : Origin) : record (laneRemoved s l) t k a slot v hot o = record s t k a slot v hot o := rfl
@[simp] theorem laneRemoved_repair (l : Nat) : (laneRemoved s l).repair = s.repair := rfl
@[simp] theorem laneRemoved_unit (l : Nat) : (laneRemoved s l).unit = s.unit := rfl
@[simp] theorem laneRemoved_sense (l : Nat) : (laneRemoved s l).sense = s.sense := rfl
@[simp] theorem laneRemoved_corr (l : Nat) : (laneRemoved s l).corr = s.corr := rfl
@[simp] theorem laneRemoved_track (l : Nat) : (laneRemoved s l).track = trackWithout s (·.lane == l) := rfl
@[simp] theorem probed_corr : (probed s sc c).corr = { check := some c } := rfl

end

theorem probeDone_eq {s : State} {c : Check} (hcheck : s.corr.check = some c) (sc : ScanDriver) (n : Nat) (r : TestResult) :
    probeDone n r (testOver s sc)
      = if r ≠ .inconclusive ∧ allProbed (recordProbe n r c) = true then
          handOutcome (recordProbe n r c) (probed s sc (recordProbe n r c))
        else probed s sc (recordProbe n r c) := by
  have htest : (testOver s sc).corr.check = some c := hcheck
  rw [probeDone, htest]
  rfl

theorem probeDone_bind (n : Nat) (r : TestResult) (s : State) : (probeDone n r s).repair.bind = s.repair.bind := by
  unfold probeDone
  split
  · rfl
  · dsimp only
    split
    · rw [handOutcome_bind]
      rfl
    · rfl

theorem recordProbe_die (n : Nat) (r : TestResult) (c : Check) : (recordProbe n r c).die = c.die := by cases r <;> rfl

theorem recordProbe_hotSeen {r : TestResult} (h : r ≠ .inconclusive) (n : Nat) (c : Check) :
    (recordProbe n r c).hotSeen = c.hotSeen := by
  cases r with
  | inconclusive => exact absurd rfl h
  | _ => rfl

/-- The result of a probe in a window that has closed, and what it sets going in the fault path (R89, R95). -/
theorem exec_testCompletion_of_probe {t : TestRecord} {n : Nat} {s : State} (halone : EndsAlone t s)
    (hreplies : NoReplyDue s) (hsource : t.source = .probe n) (knee : Option (Fin 255)) :
    exec (.testCompletion knee) s
      = exec .descriptorTake (releaseHold (probeDone n (classify t knee) (linesBack s))) := by
  have hhand : handResult t (classify t knee) (reportedT t knee) (linesBack s)
      = probeDone n (classify t knee) (linesBack s) := by rw [handResult, hsource]
  exact exec_testCompletion_of_fault halone hreplies knee hhand (.probeDone _ _ _)
    (by rw [probeDone_bind, linesBack_repair])

theorem recordRoom_probed_of_listed {s : State} (h : s.repair.defects.length < 192) (sc : ScanDriver) (c : Check)
    (x : Target) : recordRoom (probed s sc c) x = true := (recordRoom_eq_true_iff (probed s sc c) x).mpr (.inl h)

theorem recordRoom_probed_of_unlisted {s : State} {x : Target}
    (h : 192 ≤ s.repair.defects.length ∧ ∀ z ∈ s.repair.defects, z.target ≠ x) (sc : ScanDriver) (c : Check) :
    recordRoom (probed s sc c) x = false := by
  refine Bool.eq_false_iff.mpr (mt (recordRoom_eq_true_iff (probed s sc c) x).mp ?_)
  rintro (hfew | ⟨z, hz, hsame⟩)
  · exact absurd h.1 (Nat.not_le.mpr hfew)
  · exact h.2 z hz hsame

theorem changeRoom_probed (s : State) (sc : ScanDriver) (c : Check) :
    changeRoom 1 (probed s sc c) = true ↔ s.repair.changes.length < 16 := changeRoom_eq_true_iff 1 _

/-- Settles O39, by the four outcomes of the probes; each decision is rewritten to what it makes of the state. -/
theorem probesDecideTheOutcome : Obligations.ProbesDecideTheOutcome := by
  intro t knee n c c' s halone hreplies hsource hcheck hverify hrecord
  obtain ⟨sc, hback⟩ : ∃ sc, linesBack s = testOver s sc := ⟨_, linesBack_eq s⟩
  replace hrecord : c' = recordProbe n (classify t knee) c := by
    rw [hrecord]
    cases classify t knee <;> rfl
  have hexec := exec_testCompletion_of_probe halone hreplies hsource knee
  rw [hback, probeDone_eq hcheck, ← hrecord] at hexec
  have hdie : c'.die = c.die := by rw [hrecord, recordProbe_die]
  refine ⟨fun hgoes => ?_, fun a b x y hresult hprobes hdone hmode hkept => ?_⟩
  · have hnot : ¬ (classify t knee ≠ .inconclusive ∧ allProbed c' = true) := by
      rintro ⟨hresult, hall⟩
      obtain h | ⟨p, hp, hpending⟩ := hgoes
      · exact hresult h
      · exact (allProbed_iff c').mp hall p hp hpending
    rw [if_neg hnot, releaseHold_of_no_heldLane (by exact halone.heldLane)] at hexec
    refine ⟨probed s sc c', hexec.trans (congrArg Host.Outcome.next (takeAll_of_not_canTake ?_)), rfl, rfl, rfl, rfl, rfl, rfl,
      rfl, rfl, rfl⟩
    exact canTake_of_noTake (.inl nofun)
  · intro l auto listed unlisted room noRoom without recorded laneDark leftOut waits ended held
    have hhot : c'.hotSeen = c.hotSeen := by rw [hrecord, recordProbe_hotSeen hresult]
    have hall : allProbed c' = true := by
      refine (allProbed_iff c').mpr fun p hp => hdone _ ?_
      rw [← hprobes]
      exact List.mem_map_of_mem hp
    rw [if_pos ⟨hresult, hall⟩] at hexec
    have hframe : FaultFrame (probed s sc c') (releaseHold (handOutcome c' (probed s sc c'))) :=
      (FaultFrame.handOutcome _ _).trans (.releaseHold _)
    have hcomp : (releaseHold (handOutcome c' (probed s sc c'))).comp = s.comp :=
      releaseHold_handOutcome_comp (s := probed s sc c') hmode hkept halone.heldLane rfl
    refine ⟨_, hexec, hframe.ctl, hframe.store, hcomp, hframe.link, fun hx hy ha hb => ?_, fun hx hy hab => ?_,
      fun hxy hab => ?_, fun hxy ha hb => ?_⟩
    all_goals clear hexec hframe hcomp hback
    · rw [releaseHold_handOutcome_wide (s := probed s sc c') hkept halone.heldLane ((laneFails_iff hprobes).mpr ⟨ha, hb⟩)
        ((rowFails_iff hprobes).mpr ⟨hx, hy⟩), decideWide_eq (s := probed s sc c') hkept, hdie, hhot]
      refine ⟨⟨rfl, by split <;> simp⟩, fun hlisted => ?_, fun hun => ?_⟩
      · rw [if_neg (ne_false_of_eq_true (recordRoom_probed_of_listed hlisted sc c' _))]
        simp [recorded, without, trackWithout, l]
      · rw [if_pos (recordRoom_probed_of_unlisted hun sc c')]
        simp [leftOut]
    · rw [releaseHold_handOutcome_row (s := probed s sc c') hmode hkept halone.heldLane
        (Bool.eq_false_iff.mpr (mt (laneFails_iff hprobes).mp hab)) ((rowFails_iff hprobes).mpr ⟨hx, hy⟩),
        decideRow_eq (s := probed s sc c') hmode hkept, hdie, hhot, policyNow_probed]
      refine ⟨⟨rfl, by repeat' split <;> simp⟩, fun hlisted hgoes => ?_, fun hlisted hfull hauto => ?_, fun hun => ?_⟩
      · have hgo : ¬ (auto = true ∧ changeRoom 1 (probed s sc c') = false) := by
          rintro ⟨hauto, hno⟩
          obtain hroom | hnot := hgoes
          · rw [(changeRoom_probed s sc c').mpr hroom] at hno
            cases hno
          · rw [hnot] at hauto
            cases hauto
        rw [if_neg (ne_false_of_eq_true (recordRoom_probed_of_listed hlisted sc c' _)), if_neg hgo]
        simp [recorded, without, trackWithout, auto]
      · rw [if_neg (ne_false_of_eq_true (recordRoom_probed_of_listed hlisted sc c' _)),
          if_pos ⟨hauto, changeRoom_one_eq_false (s := probed s sc c') hfull⟩]
        simp [waits]
      · rw [if_pos (recordRoom_probed_of_unlisted hun sc c')]
        simp [leftOut]
    · rw [releaseHold_handOutcome_cell (s := probed s sc c') hmode hkept halone.heldLane
        (Bool.eq_false_iff.mpr (mt (laneFails_iff hprobes).mp hab))
        (Bool.eq_false_iff.mpr (mt (rowFails_iff hprobes).mp hxy)),
        decideCell_eq (s := probed s sc c') hmode hkept, hdie, hhot, policyNow_probed]
      refine ⟨(cellChoice auto c.die (probed s sc c')).1, (cellChoice auto c.die (probed s sc c')).2.toList, ?_,
        ⟨rfl, by repeat' split <;> simp⟩, fun hlisted hgoes => ?_, fun hlisted hfull hentry => ?_, fun hun => ?_⟩
      · have haction (x : Bool) : ((cellChoice x c.die (probed s sc c')).1, (cellChoice x c.die (probed s sc c')).2.toList)
            = if x then cellDecision (plannedCell s c.die.row c.die.lane) c.die.die (cellEntry s c.die.row c.die.lane)
              else (.none, []) := by
          cases x
          · rfl
          · exact cellChoice_auto _ _
        exact (haction auto).trans rfl
      · have hgo : ¬ ((cellChoice auto c.die (probed s sc c')).2.isSome = true ∧ changeRoom 1 (probed s sc c') = false) := by
          rintro ⟨hentry, hno⟩
          obtain hroom | hnone := hgoes
          · rw [(changeRoom_probed s sc c').mpr hroom] at hno
            cases hno
          · rw [Option.toList_eq_nil_iff.mp hnone] at hentry
            cases hentry
        rw [if_neg (ne_false_of_eq_true (recordRoom_probed_of_listed hlisted sc c' _)), if_neg hgo]
        refine ⟨?_, rfl, rfl⟩
        simp [without, trackWithout]
      · have hsome : (cellChoice auto c.die (probed s sc c')).2.isSome = true := by
          rw [Option.isSome_iff_ne_none]
          exact fun hnone => hentry (Option.toList_eq_nil_iff.mpr hnone)
        rw [if_neg (ne_false_of_eq_true (recordRoom_probed_of_listed hlisted sc c' _)),
          if_pos ⟨hsome, changeRoom_one_eq_false (s := probed s sc c') hfull⟩]
        simp [waits]
      · rw [if_pos (recordRoom_probed_of_unlisted hun sc c')]
        simp [leftOut]
    · rw [releaseHold_handOutcome_lane (s := probed s sc c') hkept halone.heldLane ((laneFails_iff hprobes).mpr ⟨ha, hb⟩)
        (Bool.eq_false_iff.mpr (mt (rowFails_iff hprobes).mp hxy)), policyNow_probed]
      have hremoved := held_of_trackWithout (s := probed s sc c') hkept (·.lane == c'.die.lane)
      have htrack := releaseHold_autoLane_track (s := laneRemoved (probed s sc c') c'.die.lane) hmode hremoved halone.heldLane
        rfl
      have hauto : auto = true ↔ s.unit.params.policy = .auto := beq_iff_eq
      refine ⟨?_, fun h => ?_, fun h hspared => ?_, fun h hspared hreserved => ?_, fun h hspared hreserved => ?_⟩
      · split
        · rw [htrack.1, hdie]
          simp [without, trackWithout, l]
        · rw [checkEnded_track, adviseLane_track, hdie]
          simp [without, trackWithout, l]
      · have hpolicy : ¬ s.unit.params.policy = .auto := fun hpolicy => by
          rw [hauto.mpr hpolicy] at h
          cases h
        rw [if_neg hpolicy, adviseLane_eq, hdie, hhot]
        refine ⟨⟨rfl, by split <;> simp⟩, fun hlisted => ?_, fun hun => ?_⟩
        · rw [if_neg (by exact ne_false_of_eq_true (recordRoom_probed_of_listed hlisted sc c' _))]
          simp [recorded, l]
        · rw [if_pos (by exact recordRoom_probed_of_unlisted hun sc c')]
          simp [leftOut]
      · rw [if_pos (hauto.mp h), releaseHold_autoLane_spared (s := laneRemoved (probed s sc c') c'.die.lane) hmode hremoved
          halone.heldLane rfl ((laneSpared_iff _ _).mpr (by rw [hdie]; exact hspared)), hdie, hhot]
        refine ⟨fun hlisted hroom => ?_, fun hlisted hfull => ?_, fun hun => ?_⟩
        · rw [if_pos (by exact recordRoom_probed_of_listed hlisted sc c' _),
            if_pos (by exact (changeRoom_probed s sc c').mpr hroom)]
          exact ⟨⟨rfl, rfl, rfl⟩, rfl, rfl⟩
        · rw [if_pos (by exact recordRoom_probed_of_listed hlisted sc c' _),
            if_neg (by exact mt (changeRoom_probed s sc c').mp (Nat.not_lt.mpr hfull))]
          exact ⟨⟨rfl, rfl, rfl⟩, rfl, rfl⟩
        · rw [if_neg (by exact Bool.eq_false_iff.mp (recordRoom_probed_of_unlisted hun sc c'))]
          exact ⟨⟨rfl, by simp⟩, by simp [leftOut]⟩
      · rw [if_pos (hauto.mp h), releaseHold_autoLane_held (s := laneRemoved (probed s sc c') c'.die.lane)
          (mt (laneSpared_iff _ _).mp (by rw [hdie]; exact not_exists.mpr hspared)) ((anyReserved_iff _).mpr hreserved)]
        exact ⟨⟨rfl, rfl, rfl⟩, rfl, rfl⟩
      · have hnone : ¬ anyReserved (laneRemoved (probed s sc c') c'.die.lane) = true := by
          rw [anyReserved_iff]
          rintro ⟨z, hz, hsome⟩
          rw [hreserved z hz] at hsome
          cases hsome
        rw [if_pos (hauto.mp h), releaseHold_autoLane_search (s := laneRemoved (probed s sc c') c'.die.lane) hmode hremoved
          halone.heldLane (mt (laneSpared_iff _ _).mp (by rw [hdie]; exact not_exists.mpr hspared)) hnone]
        refine ⟨fun k d hk hfree hselected => ?_, fun hlow hhigh => ?_⟩
        · have hfound : freeSlotFor (laneRemoved (probed s sc c') c'.die.lane) c'.die.lane [] = some k := by
            rw [hdie]
            refine freeSlotFor_of_first (hk.imp_right fun ⟨hsecond, hfirst⟩ => ⟨hsecond, fun hlow => hfirst hlow.1⟩)
              ⟨hfree, List.not_mem_nil⟩
          rw [hfound, if_pos Option.isSome_some]
          have hfields := searchSlot_fields hfound (by rw [hdie]; exact hselected)
          rw [hdie] at hfields ⊢
          exact hfields
        · have hfound : freeSlotFor (laneRemoved (probed s sc c') c'.die.lane) c'.die.lane [] = none := by
            rw [hdie]
            exact freeSlotFor_of_none (fun h => hlow h.1) (fun h => hhigh h.1)
          rw [hfound, if_neg (by nofun), finishLane_noSlot (by exact hmode), hdie, hhot]
          refine ⟨⟨rfl, by repeat' split <;> simp⟩, fun hlisted hroom => ?_, fun hlisted hfull => ?_, fun hun => ?_⟩
          · rw [if_neg (by exact ne_false_of_eq_true (recordRoom_probed_of_listed hlisted sc c' _)),
              if_neg (by exact ne_false_of_eq_true ((changeRoom_probed s sc c').mpr hroom))]
            simp [recorded, laneDark, l]
          · rw [if_neg (by exact ne_false_of_eq_true (recordRoom_probed_of_listed hlisted sc c' _)),
              if_pos (by exact changeRoom_one_eq_false (s := probed s sc c') hfull)]
            simp [waits, l]
          · rw [if_pos (by exact recordRoom_probed_of_unlisted hun sc c')]
            simp [leftOut]

end Sys2Proof.Machine

/-! Windows that open at a boundary, and the three timers (O28). -/

namespace Sys2Proof.Machine

-- One theorem at a time: elaborated at once, they wait on each other and each holds a thread.
set_option Elab.async false

/-! ## A window opens (R49, R50, R52) -/

theorem sampleOf_eq (reading : Int) : sampleOf reading = max (-40) (min 125 reading) := rfl

/-- The part as a window opening leaves it, before the first grant decision. -/
def windowOpened (budget : Nat) (reading : Int) (s : State) : State :=
  let n := (s.sense.windowNumber + 1) % 65536
  (forgetWindow n s).withSense { s.sense with
    windowOpen := true
    windowNumber := n
    budget := budget
    used := 0
    tried := .clear
    sample := sampleOf reading
    sensorFault := faultOf reading
    hot := decide (s.unit.params.senseTempMax < sampleOf reading) || faultOf reading }

theorem openWindow_eq (budget : Nat) (reading : Int) (s : State) :
    openWindow budget reading s = decideGrant (windowOpened budget reading s) := rfl

theorem windowOpened_track (budget : Nat) (reading : Int) (s : State) : (windowOpened budget reading s).track
    = ⟨withoutWindow ((s.sense.windowNumber + 1) % 65536) s.track.suspects, s.track.queue⟩ := rfl

theorem lastWindow_withoutWindow {n : Nat} {xs : List Suspect} {x : Suspect} (h : x ∈ withoutWindow n xs) :
    x.lastWindow ≠ some n := by
  obtain ⟨y, -, rfl⟩ := List.mem_map.mp h
  split
  · nofun
  · assumption

theorem windowOpened_sense {s u : State} {test : Option TestRecord}
    (hsense : u.sense = { s.sense with tried := u.sense.tried, test := test }) (hparams : u.unit.params.senseTempMax
      = s.unit.params.senseTempMax) (budget : Nat) (reading : Int) :
    (windowOpened budget reading u).sense = openedSense budget reading test s := by
  have hhot : (decide (s.unit.params.senseTempMax < sampleOf reading) || faultOf reading)
      = decide (s.unit.params.senseTempMax < max (-40) (min 125 reading) ∨ reading < -40 ∨ 125 < reading) := by
    rw [faultOf_eq, ← Bool.decide_or, sampleOf_eq]
  rw [windowOpened]
  dsimp only [State.withSense_sense]
  rw [hsense, hparams, hhot, faultOf_eq]
  rfl

/-- With a test in flight there is no grant decision. -/
theorem decideGrant_of_test {s : State} (h : s.sense.test ≠ none) : decideGrant s = s := by
  rw [decideGrant, grantDecision, if_neg]
  rw [Bool.and_eq_true, Option.isNone_iff_eq_none]
  exact fun hgoes => h hgoes.2

/-! ## What the replies that enter leave of the arbiter's view (R59 to R63) -/

theorem verifyingBind_enterBind (s : State) : verifyingBind (enterBind s) = verifyingBind s := by
  unfold enterBind
  cases hbind : s.repair.bind with
  | none => rfl
  | some b =>
    dsimp only
    cases hstage : b.stage with
    | ended r =>
      dsimp only
      split
      · simp [verifyingBind, hbind, hstage, Option.filter]
      · rfl
    | _ => rfl

theorem verifyingBind_offerReplies (s : State) : verifyingBind (offerReplies s) = verifyingBind s := by
  rw [offerReplies, verifyingBind_enterBind, verifyingBind, enterSpots_repair, verifyingBind]

/-- The walk passes the same dies where only the manual bind differs. -/
theorem walkSkips_congr {s t : State} (hrepair : s.repair = { t.repair with bind := s.repair.bind })
    (hsuspects : t.track.suspects = s.track.suspects) (hcorr : t.corr = s.corr) (x : DieRef) : walkSkips t x = walkSkips s x := by
  have hrows : t.repair.rows = s.repair.rows := by rw [hrepair]
  have hlanes : t.repair.lanes = s.repair.lanes := by rw [hrepair]
  have hcells : t.repair.cells = s.repair.cells := by rw [hrepair]
  have hslots : t.repair.slots = s.repair.slots := by rw [hrepair]
  have hwaiting : t.repair.waiting = s.repair.waiting := by rw [hrepair]
  have hheld : t.repair.heldLane = s.repair.heldLane := by rw [hrepair]
  simp only [walkSkips, rowNow, laneNow, cellEntry, healthOf, laneReserved, laneUndecided, hrows, hlanes, hcells, hslots,
    hwaiting, hheld, hsuspects, hcorr]

/-- What is offered after a decision leaves the arbiter's view of the part as it was. -/
theorem sameGrants_windowOpened {s u : State} {budget : Nat} {reading : Int}
    (hsense : (windowOpened budget reading u).sense = openedSense budget reading none s) :
    SameGrants ((offerReplies (decideGrant (windowOpened budget reading u))).withSense (openedSense budget reading none s))
      (windowOpened budget reading u) := by
  have hgrant := GrantFrame.decideGrant (windowOpened budget reading u)
  have hoffer := OfferFrame.offerReplies (decideGrant (windowOpened budget reading u))
  have hrepair := hoffer.repair
  rw [hgrant.repair] at hrepair
  have hunit := hoffer.unit
  rw [hgrant.unit] at hunit
  refine ⟨hsense, ?_, ?_, ?_, ?_, ?_, ?_, ?_, fun x => walkSkips_congr hrepair ?_ ?_ x⟩
  · exact congrArg Tracker.suspects (hoffer.track.trans hgrant.track).symm
  · exact (congrArg MessageUnit.params hunit).symm
  · exact (hoffer.corr.trans hgrant.corr).symm
  · have hbind := verifyingBind_offerReplies (decideGrant (windowOpened budget reading u))
    rw [verifyingBind, verifyingBind, hgrant.repair] at hbind
    exact hbind.symm
  · exact (congrArg Repair.lanes hrepair).symm
  · exact (congrArg Repair.rows hrepair).symm
  · exact (hoffer.straps.trans hgrant.straps).symm
  · exact congrArg Tracker.suspects (hoffer.track.trans hgrant.track).symm
  · exact (hoffer.corr.trans hgrant.corr).symm

/-- A window opens on a state u whose Sense Unit is that of s but for the marks and the test in flight. -/
theorem windowOpens_openWindow {s u : State} {test : Option TestRecord} {atOnce : Bool} (budget : Nat) (reading : Int)
    (hsense : u.sense = { s.sense with tried := u.sense.tried, test := test })
    (hparams : u.unit.params.senseTempMax = s.unit.params.senseTempMax) (hstopped : u.scan.state = .stopped ↔ atOnce = true) :
    WindowOpens budget reading test atOnce s (offerReplies (openWindow budget reading u)) := by
  have hopened := windowOpened_sense hsense hparams budget reading
  have hgrant := GrantFrame.decideGrant (windowOpened budget reading u)
  have hoffer := OfferFrame.offerReplies (decideGrant (windowOpened budget reading u))
  rw [openWindow_eq]
  refine ⟨fun x hx => ?_, fun htest => ?_, fun htest hbudget => ?_⟩
  · rw [hoffer.track, hgrant.track, windowOpened_track] at hx
    have hnumber : u.sense.windowNumber = s.sense.windowNumber := by rw [hsense]
    rw [hnumber] at hx
    exact lastWindow_withoutWindow hx
  · rw [hoffer.sense, decideGrant_of_test (by rw [hopened]; exact htest), hopened]
  · subst htest
    have hspots : (decideGrant (windowOpened budget reading u)).sense.spots = s.sense.spots := by
      rw [hgrant.spots, hopened]
      rfl
    have hleft : ({ (offerReplies (decideGrant (windowOpened budget reading u))).sense with spots := s.sense.spots } : SenseUnit)
        = (decideGrant (windowOpened budget reading u)).sense := by
      rw [hoffer.sense, ← hspots]
    rw [hleft]
    have hsame := sameGrants_windowOpened hopened
    exact ⟨grantDecides_decideGrant hsame rfl (by exact hbudget) hstopped,
      walkDecides_decideGrant hsame rfl (by exact hbudget) hstopped⟩

/-- What the opening of a window, with the replies that then enter, leaves alone, and what it sets. -/
structure WindowFrame (budget : Nat) (reading : Int) (u t : State) : Prop where
  straps       : t.straps = u.straps
  link         : t.link = u.link
  ctl          : t.ctl = u.ctl
  store        : t.store = u.store
  comp         : t.comp = u.comp
  corr         : t.corr = u.corr
  track        : t.track = ⟨withoutWindow ((u.sense.windowNumber + 1) % 65536) u.track.suspects, u.track.queue⟩
  repair       : t.repair = { u.repair with bind := t.repair.bind }
  unit         : t.unit = { u.unit with replies := t.unit.replies }
  windowNumber : t.sense.windowNumber = (u.sense.windowNumber + 1) % 65536
  budget       : t.sense.budget = budget
  sample       : t.sense.sample = max (-40) (min 125 reading)
  sensorFault  : t.sense.sensorFault = decide (reading < -40 ∨ 125 < reading)

theorem windowFrame_openWindow (budget : Nat) (reading : Int) (u : State) :
    WindowFrame budget reading u (offerReplies (openWindow budget reading u)) := by
  rw [openWindow_eq]
  have hgrant := GrantFrame.decideGrant (windowOpened budget reading u)
  have hoffer := OfferFrame.offerReplies (decideGrant (windowOpened budget reading u))
  have hrepair := hoffer.repair
  have hunit := hoffer.unit
  rw [hgrant.repair] at hrepair
  rw [hgrant.unit] at hunit
  exact {
    straps := hoffer.straps.trans hgrant.straps
    link := hoffer.link.trans hgrant.link
    ctl := hoffer.ctl.trans hgrant.ctl
    store := hoffer.store.trans hgrant.store
    comp := hoffer.comp.trans hgrant.comp
    corr := hoffer.corr.trans hgrant.corr
    track := hoffer.track.trans hgrant.track
    repair := hrepair
    unit := hunit
    windowNumber := (congrArg SenseUnit.windowNumber hoffer.sense).trans hgrant.windowNumber
    budget := (congrArg SenseUnit.budget hoffer.sense).trans hgrant.budget
    sample := (congrArg SenseUnit.sample hoffer.sense).trans hgrant.sample
    sensorFault := ((congrArg SenseUnit.sensorFault hoffer.sense).trans hgrant.sensorFault).trans (faultOf_eq reading) }

/-- With no manual bind the replies that enter change nothing of the repair either. -/
theorem enterBind_of_no_bind {s : State} (h : s.repair.bind = none) : enterBind s = s := by rw [enterBind, h]

theorem openWindow_repair_of_no_bind {u : State} (hbind : u.repair.bind = none) (budget : Nat) (reading : Int) :
    (offerReplies (openWindow budget reading u)).repair = u.repair := by
  have hopened : (openWindow budget reading u).repair = u.repair :=
    (GrantFrame.decideGrant (windowOpened budget reading u)).repair
  rw [offerReplies, enterBind_of_no_bind (by rw [enterSpots_repair, hopened, hbind]), enterSpots_repair, hopened]

/-! ## The application depends on the maps and the list alone (R112) -/

theorem applyChange_repair_congr {s t : State} (h : t.repair = s.repair) (frame : Nat) (c : Change) :
    (applyChange frame t c).repair = (applyChange frame s c).repair := by
  cases c with
  | cell r l st => rw [applyChange_cell, applyChange_cell, cellEntry, cellEntry, h]; rfl
  | row r st => rw [applyChange_row, applyChange_row, h]; rfl
  | lane l st disp => rw [applyChange_lane, applyChange_lane, h]; rfl
  | removal x seq => rw [applyChange_removal, applyChange_removal, h]; rfl

theorem applyChangesAt_repair_congr {s t : State} (h : t.repair = s.repair) (frame : Nat) :
    (applyChangesAt frame t).repair = (applyChangesAt frame s).repair := by
  have hfold (cs : List Change) : ∀ u w : State, w.repair = u.repair →
      (cs.foldl (applyChange frame) w).repair = (cs.foldl (applyChange frame) u).repair := by
    induction cs with
    | nil => exact fun _ _ hsame => hsame
    | cons c cs ih => exact fun u w hsame => ih _ _ (applyChange_repair_congr hsame frame c)
  have hsame := hfold s.repair.changes s t h
  simp only [applyChangesAt, State.withRepair_repair, h, hsame]

theorem applyChanges_repair (s : State) : (applyChanges s).repair = (applyChangesAt s.store.frameCount s).repair := by
  rw [applyChanges]
  split
  · rfl
  · rfl

theorem applyChanges_repair_congr {s t : State} (h : t.repair = s.repair) (hframe : t.store.frameCount = s.store.frameCount) :
    (applyChanges t).repair = (applyChanges s).repair := by
  rw [applyChanges_repair, applyChanges_repair, hframe, applyChangesAt_repair_congr h]

theorem applyChange_comp (frame : Nat) (s : State) (c : Change) : (applyChange frame s c).comp = s.comp := by
  cases c with
  | row r st => rw [applyChange_row]; split <;> simp
  | lane l st disp => rw [applyChange_lane]; split <;> simp
  | _ => rfl

theorem applyChangesAt_comp (frame : Nat) (s : State) : (applyChangesAt frame s).comp = s.comp :=
  List.foldlRecOn (motive := fun t : State => t.comp = s.comp) _ _ rfl fun _ ht c _ => (applyChange_comp frame _ c).trans ht

theorem zeroVictims_comp_congr {s t : State} (hrepair : t.repair = s.repair) (hcomp : t.comp = s.comp) :
    (zeroVictims t).comp = (zeroVictims s).comp := by
  have hlive (r l : Nat) : isLive t r l = isLive s r l := by
    simp only [isLive, isForcedOff, isVictim, rowNow, laneNow, cellEntry, hrepair]
  simp only [zeroVictims, State.withComp_comp, hlive, hcomp]

theorem applyChanges_comp_congr {s t : State} (h : t.repair = s.repair) (hcomp : t.comp = s.comp)
    (hframe : t.store.frameCount = s.store.frameCount) (hmode : t.ctl.mode = s.ctl.mode) :
    (applyChanges t).comp = (applyChanges s).comp := by
  rw [applyChanges, applyChanges, hmode, hframe]
  have hrepair := applyChangesAt_repair_congr h s.store.frameCount
  have hsame : (applyChangesAt s.store.frameCount t).comp = (applyChangesAt s.store.frameCount s).comp := by
    rw [applyChangesAt_comp, applyChangesAt_comp, hcomp]
  split
  · exact hsame
  · exact zeroVictims_comp_congr hrepair hsame

/-! ## After an application (R89, R115, R117, R127) -/

/-- Nothing waits for the room that an application makes. -/
theorem afterApplication_of_quiet {s : State} (hwaiting : s.repair.waiting = none) (hbind : s.repair.bind = none)
    (hheld : s.repair.heldLane = none) (hqueue : s.track.queue = []) : afterApplication s = s := by
  have htake : takeWaiting s = s := by rw [takeWaiting, hwaiting]
  have hisolation : addIsolation s = s := by
    rw [addIsolation, hheld]
    cases s.corr.check <;> rfl
  have hroom : bindRoom s = s := by rw [bindRoom, hbind]
  have huse : useRoom s = s := by
    rw [useRoom, if_neg (by rw [bindWaits, hbind]; nofun), htake, hisolation, hroom]
  rw [afterApplication, huse, settle_of_quiet hheld hqueue]

/-- What a frame boundary or a blank window timer's expiry applies, where nothing else is due. -/
theorem boundaryApply_of_quiet {s : State} (hwaiting : s.repair.waiting = none) (hbind : s.repair.bind = none)
    (hquiet : FaultPathQuiet s) : boundaryApply s = applyChanges s := by
  have hkept := FaultPathKept.applyChanges s
  exact afterApplication_of_quiet (hkept.waiting.trans hwaiting) ((applyChanges_bind s).trans hbind)
    (hkept.heldLane.trans hquiet.heldLane) (by rw [hkept.track]; exact hquiet.queue)

theorem FaultFrame.boundaryApply (s : State) : FaultFrame s (boundaryApply s) :=
  (FaultFrame.ofList (.applyChanges s)).trans (.afterApplication _)

/-! ## Timers (R27, R28) -/

theorem frameTimerOut_of_live {s : State} (h : s.ctl.video = .live) : frameTimerOut s
    = raise .videoState (s.withCtl { s.ctl with
        frameTimer := none, video := .holding, holdTimer := some (s.unit.params.holdTime * 10) }) := by
  rw [frameTimerOut, h]
  dsimp only
  rw [enterVideo, if_neg (by show ¬ s.ctl.video = .holding; rw [h]; nofun)]
  rfl

theorem frameTimerOut_of_not_live {s : State} (h : s.ctl.video ≠ .live) :
    frameTimerOut s = s.withCtl { s.ctl with frameTimer := none } := by
  rw [frameTimerOut]
  cases hvideo : s.ctl.video with
  | live => exact absurd hvideo h
  | _ => rfl

theorem holdTimerOut_of_holding {s : State} (h : s.ctl.video = .holding) : holdTimerOut s
    = driveFalls (raise .videoState (s.withCtl { s.ctl with holdTimer := none, video := .dark })) := by
  rw [holdTimerOut, enterVideo, if_neg (by show ¬ s.ctl.video = .dark; rw [h]; nofun)]
  rfl

/-! ## Drive enable falls (R9, R10) -/

theorem driveFalls_of_scanning {s : State} (hstate : s.scan.state = .scanning) : driveFalls s
    = if claimWaiting s then claimAtPhaseEnd .lent s
      else s.withScan { s.scan with state := .stopped, phase := none } := by
  rw [driveFalls, hstate]

theorem driveFalls_of_yielded {s : State} (hstate : s.scan.state = .yielded) :
    driveFalls s = s.withScan { s.scan with state := .lent } := by
  rw [driveFalls, hstate]

/-- A claim that waits is taken at once as drive enable falls, and the test drives. -/
theorem driveFalls_of_connectsTo {s : State} {x : TestRecord} {d : TestDriver} (hstate : s.scan.state = .scanning)
    (htest : s.sense.test = some x) (hdriver : x.driver = none) (hconnects : ConnectsTo s x d) : driveFalls s
      = (s.withScan { s.scan with
          state := .lent, phase := none, traces := s.scan.traces.set x.die.lane x.die.die }).withSense
            { s.sense with test := some { x with driver := some d } } := by
  rw [driveFalls_of_scanning hstate, if_pos (claimWaiting_of_test htest hdriver), claimAtPhaseEnd_of_connectsTo htest hconnects]

/-- The same with the test withdrawn. -/
theorem driveFalls_of_withdrawn {s : State} {x : TestRecord} (hstate : s.scan.state = .scanning)
    (htest : s.sense.test = some x) (hdriver : x.driver = none) (hwithdrawn : Withdrawn s x)
    (hclosed : s.sense.windowOpen = false) : driveFalls s
      = (s.withScan { s.scan with state := .stopped, phase := none }).withSense { s.sense with test := none } := by
  rw [driveFalls_of_scanning hstate, if_pos (claimWaiting_of_test htest hdriver),
    claimAtPhaseEnd_of_withdrawn htest hwithdrawn hclosed, releaseLines_of_lent (by rfl)]
  rfl

/-! ## The blank window timer (R23, R24) -/

theorem exec_blankWindowTimerExpiry {s : State} (hmode : s.ctl.mode = .blank) (htimer : s.ctl.blankTimer.isSome = true)
    (reading : Int) : exec (.blankWindowTimerExpiry reading) s = .next (offerReplies (openWindow
      (boundaryApply (s.withCtl { s.ctl with blankTimer := some 10 })).unit.params.blankBudget reading
      (boundaryApply (s.withCtl { s.ctl with blankTimer := some 10 })))) := by
  have hgoes : (s.ctl.blankTimer.isSome && s.ctl.mode == .blank) = true := by rw [htimer, hmode]; rfl
  exact congrArg Host.Outcome.next (if_pos hgoes)

/-- Settles O28: the frame and hold timers by the state they leave, the blank window timer by the frames of its parts. -/
theorem timersRunOut : Obligations.TimersRunOut := by
  refine ⟨fun s htimer => ⟨fun hlive => ?_, fun hnot => ?_⟩, fun s htimer hholding => ?_, fun reading s hmode htimer => ?_⟩
  · exact congrArg Host.Outcome.next ((if_pos htimer).trans (frameTimerOut_of_live hlive))
  · exact congrArg Host.Outcome.next ((if_pos htimer).trans (frameTimerOut_of_not_live hnot))
  · intro dark
    have hexec : exec .holdTimerExpiry s = .next (driveFalls (raise .videoState dark)) := by
      have hgoes : (s.ctl.holdTimer.isSome && s.ctl.video == .holding) = true := by rw [htimer, hholding]; rfl
      exact congrArg Host.Outcome.next ((if_pos hgoes).trans (holdTimerOut_of_holding hholding))
    rw [raise_eq] at hexec
    refine ⟨fun hscan hnone => ?_, fun hscan => ?_, fun x hscan htest hdriver => ⟨fun d hconnects => ?_,
      fun hwithdrawn hclosed => ?_⟩⟩
    · rw [hexec, driveFalls_of_scanning (by exact hscan), if_neg (by exact Bool.eq_false_iff.mp hnone), raise_eq]
      rfl
    · rw [hexec, driveFalls_of_yielded (by exact hscan), raise_eq]
      rfl
    · rw [hexec, driveFalls_of_connectsTo (by exact hscan) (by exact htest) hdriver (by exact hconnects), raise_eq]
      rfl
    · rw [hexec, driveFalls_of_withdrawn (by exact hscan) (by exact htest) hdriver (by exact hwithdrawn) (by exact hclosed),
        raise_eq]
      rfl
  · let s' : State := s.withCtl { s.ctl with blankTimer := some 10 }
    have happlied : FaultFrame s' (boundaryApply s') := .boundaryApply s'
    have hbudget : (boundaryApply s').unit.params.blankBudget = s.unit.params.blankBudget :=
      (congrArg Params.blankBudget happlied.params).trans rfl
    have hmax : (boundaryApply s').unit.params.senseTempMax = s.unit.params.senseTempMax :=
      (congrArg Params.senseTempMax happlied.params).trans rfl
    have hnumber : (boundaryApply s').sense.windowNumber = s.sense.windowNumber :=
      (congrArg SenseUnit.windowNumber happlied.sense).trans rfl
    have htest : (boundaryApply s').sense = { s.sense with tried := (boundaryApply s').sense.tried } := happlied.sense
    have hstopped : (boundaryApply s').scan.state = .stopped ↔ decide (s.scan.state = .stopped) = true := by
      rw [happlied.scan, decide_eq_true_iff]
      rfl
    have hwindow := windowFrame_openWindow s.unit.params.blankBudget reading (boundaryApply s')
    have hopens := windowOpens_openWindow s.unit.params.blankBudget reading (s := s) htest hmax hstopped
    have hexec := exec_blankWindowTimerExpiry hmode htimer reading
    rw [hbudget] at hexec
    refine ⟨_, hexec, hwindow.ctl.trans happlied.ctl, by rw [hwindow.windowNumber, hnumber], hwindow.budget, hwindow.sample,
      hwindow.sensorFault, hopens, hwindow.store.trans happlied.store, hwindow.link.trans happlied.link,
      hwindow.straps.trans happlied.straps, (congrArg Composer.gains hwindow.comp).trans happlied.gains,
      (congrArg Composer.clipCount hwindow.comp).trans happlied.clipCount, ?_, fun hwaiting hbind hquiet => ?_⟩
    · have hparams := congrArg MessageUnit.params hwindow.unit
      rw [hparams]
      exact happlied.params
    · have hquiet' : FaultPathQuiet s' := ⟨hquiet.queue, hquiet.held, hquiet.heldLane⟩
      have hkept := FaultPathKept.applyChanges s'
      rw [boundaryApply_of_quiet (s := s') hwaiting hbind hquiet'] at hwindow ⊢
      refine ⟨?_, ?_, hwindow.corr.trans hkept.corr, ?_⟩
      · rw [openWindow_repair_of_no_bind ((applyChanges_bind s').trans hbind)]
        exact applyChanges_repair_congr rfl rfl
      · rw [hwindow.comp]
        exact applyChanges_comp_congr rfl rfl rfl rfl
      · rw [hwindow.track, hkept.track, hkept.sense]
        show Tracker.mk _ s.track.queue = _
        rw [hquiet.queue]
        rfl

end Sys2Proof.Machine

/-! The fault path leaves VIDEO_STATE as it was: no decision sets that notice or sends it. -/

namespace Sys2Proof.Machine

-- One theorem at a time: elaborated at once, they wait on each other and each holds a thread.
set_option Elab.async false

/-- VIDEO_STATE is pending (R176). -/
def videoNotice (s : State) : Bool := s.unit.notices.videoState

theorem videoNotice_raise {k : NoticeKind} (h : k ≠ .videoState) (s : State) : videoNotice (raise k s) = videoNotice s := by
  rw [raise_or]
  cases k with
  | videoState => exact absurd rfl h
  | _ => rfl

theorem videoNotice_raise_video (s : State) (h : s.unit.params.noticeMask.videoState = true) :
    videoNotice (raise .videoState s) = true := by
  rw [raise_or]
  show (s.unit.notices.videoState || s.unit.params.noticeMask.videoState) = true
  rw [h, Bool.or_true]

@[simp] theorem videoNotice_withRepair (s : State) (x : Repair) : videoNotice (s.withRepair x) = videoNotice s := rfl
@[simp] theorem videoNotice_withTrack (s : State) (x : Tracker) : videoNotice (s.withTrack x) = videoNotice s := rfl
@[simp] theorem videoNotice_withCorr (s : State) (x : Correlator) : videoNotice (s.withCorr x) = videoNotice s := rfl
@[simp] theorem videoNotice_withSense (s : State) (x : SenseUnit) : videoNotice (s.withSense x) = videoNotice s := rfl
@[simp] theorem videoNotice_withFreeUsed (s : State) (n : Nat) : videoNotice (s.withFreeUsed n) = videoNotice s := rfl
@[simp] theorem videoNotice_setSlot (k : Nat) (x : SlotState) (s : State) : videoNotice (setSlot k x s) = videoNotice s := rfl
@[simp] theorem videoNotice_setHealth (x : DieRef) (h : Health) (s : State) :
    videoNotice (setHealth x h s) = videoNotice s := rfl
@[simp] theorem videoNotice_suspendPolicy (s : State) : videoNotice (suspendPolicy s) = videoNotice s := rfl
@[simp] theorem videoNotice_freeReserved (l : Nat) (ks : List Nat) (s : State) :
    videoNotice (freeReserved l ks s) = videoNotice s := rfl

@[simp] theorem videoNotice_decisionRecord (t : Target) (k : DefectKind) (a : DefectAction) (slot : Option Nat) (v hot : Bool)
    (s : State) : videoNotice (decisionRecord t k a slot v hot s) = videoNotice s := by rw [decisionRecord_eq]; rfl

@[simp] theorem videoNotice_leaveUnrecorded (s : State) : videoNotice (leaveUnrecorded s) = videoNotice s := by
  rw [leaveUnrecorded_eq]; rfl

/-! ## The application of changes (R112, R113) -/

theorem videoNotice_applyChange (frame : Nat) (s : State) (c : Change) :
    videoNotice (applyChange frame s c) = videoNotice s := by
  cases c with
  | row r st =>
    rw [applyChange_row, videoNotice_withRepair]
    split
    · rfl
    · exact videoNotice_raise (k := .rowLost) nofun s
  | lane l st disp =>
    rw [applyChange_lane, videoNotice_withRepair]
    split
    · exact videoNotice_raise (k := .laneEvent) nofun s
    · rfl
  | _ => rfl

@[simp] theorem videoNotice_applyChanges (s : State) : videoNotice (applyChanges s) = videoNotice s := by
  have hat : videoNotice (applyChangesAt s.store.frameCount s) = videoNotice s :=
    List.foldlRecOn (motive := fun t : State => videoNotice t = videoNotice s) _ _ rfl
      fun _ ht c _ => (videoNotice_applyChange _ _ c).trans ht
  simp only [applyChanges]
  split
  · exact hat
  · exact hat

@[simp] theorem videoNotice_addChanges (cs : List Change) (s : State) : videoNotice (addChanges cs s) = videoNotice s := by
  unfold addChanges
  dsimp only
  split
  · exact videoNotice_applyChanges _
  · rfl

/-! ## Decisions (R115 to R121) -/

@[simp] theorem videoNotice_fillHeld (s : State) : videoNotice (fillHeld s) = videoNotice s := by
  rw [fillHeld_eq, videoNotice_withTrack]

@[simp] theorem videoNotice_removeDies (p : DieRef → Bool) (s : State) : videoNotice (removeDies p s) = videoNotice s := by
  simp [removeDies]

@[simp] theorem videoNotice_decideCell (auto : Bool) (x : DieRef) (k : FaultKind) (hot : Bool) (s : State) :
    videoNotice (decideCell auto x k hot s) = videoNotice s := by
  unfold decideCell
  repeat' split
  · simp
  · rfl
  · unfold cellEffects
    dsimp only
    split <;> simp [dieRemoval]

@[simp] theorem videoNotice_decideRow (auto : Bool) (r : Nat) (hot : Bool) (s : State) :
    videoNotice (decideRow auto r hot s) = videoNotice s := by
  unfold decideRow
  repeat' split
  · simp
  · simp [rowRemoval]
  · rfl
  · simp [rowRemoval]

@[simp] theorem videoNotice_decideWide (x : DieRef) (hot : Bool) (s : State) :
    videoNotice (decideWide x hot s) = videoNotice s := by
  unfold decideWide
  split
  · simp
  · rw [videoNotice_raise (k := .wideFault) nofun]
    simp [dieRemoval]

@[simp] theorem videoNotice_adviseLane (l : Nat) (hot : Bool) (s : State) :
    videoNotice (adviseLane l hot s) = videoNotice s := by
  unfold adviseLane
  split <;> simp

@[simp] theorem videoNotice_finishRecord (l : Nat) (hot : Bool) (f : LaneFinish) (s : State) :
    videoNotice (finishRecord l hot f s) = videoNotice s := by
  have hblame (ks : List Nat) (t : State) : videoNotice (blame ks t) = videoNotice t := by rw [blame_eq]; rfl
  cases f <;> simp [finishRecord, hblame]

@[simp] theorem videoNotice_finishLane (l : Nat) (hot : Bool) (f : LaneFinish) (iso : Bool) (s : State) :
    videoNotice (finishLane l hot f iso s) = videoNotice s := by
  unfold finishLane
  repeat' split
  · rfl
  · simp
  · simp
  · simp
  · rfl

@[simp] theorem videoNotice_endCheck (s : State) : videoNotice (endCheck s) = videoNotice s := by simp [endCheck]

@[simp] theorem videoNotice_searchSlot (c : Check) (iso : Bool) (s : State) :
    videoNotice (searchSlot c iso s) = videoNotice s := by
  unfold searchSlot
  split
  · show videoNotice (verifyDie c.die s).2 = _
    unfold verifyDie
    split <;> rfl
  · simp

@[simp] theorem videoNotice_isolate (l : Nat) (hot : Bool) (s : State) : videoNotice (isolate l hot s) = videoNotice s := by
  unfold isolate
  repeat' split
  · simp
  · simp
  · rfl

@[simp] theorem videoNotice_releaseHold (s : State) : videoNotice (releaseHold s) = videoNotice s := by
  unfold releaseHold
  repeat' split
  · rfl
  · simp
  · rfl

@[simp] theorem videoNotice_handOutcome (c : Check) (s : State) : videoNotice (handOutcome c s) = videoNotice s := by
  unfold handOutcome autoLane
  repeat' split
  · simp
  · simp
  · simp
  · dsimp only
    repeat' split
    · simp [laneRemoval]
    · simp [laneRemoval]
    · simp [laneRemoval]
    · simp [laneRemoval]

/-! ## What follows in the fault path (R89, R115, R117, R127) -/

@[simp] theorem videoNotice_takeOne (s : State) : videoNotice (takeOne s) = videoNotice s := by
  unfold takeOne
  split
  · rfl
  · dsimp only
    repeat' split
    · simp
    · unfold startCheck
      dsimp only
      split <;> simp
    · simp
    · simp

@[simp] theorem videoNotice_takeAll (s : State) : videoNotice (takeAll s) = videoNotice s := by
  have hloop (n : Nat) : ∀ t : State, videoNotice (takeLoop n t) = videoNotice t := by
    induction n with
    | zero => exact fun _ => rfl
    | succ n ih =>
      intro t
      rw [takeLoop]
      split
      · rw [ih, videoNotice_takeOne]
      · rfl
  exact hloop _ _

@[simp] theorem videoNotice_settle (s : State) : videoNotice (settle s) = videoNotice s := by simp [settle]

@[simp] theorem videoNotice_takeWaiting (s : State) : videoNotice (takeWaiting s) = videoNotice s := by
  unfold takeWaiting
  split
  · rfl
  · dsimp only
    split <;> simp

@[simp] theorem videoNotice_addIsolation (s : State) : videoNotice (addIsolation s) = videoNotice s := by
  unfold addIsolation
  repeat' split
  · simp
  · rfl
  · rfl

@[simp] theorem videoNotice_bindRoom (s : State) : videoNotice (bindRoom s) = videoNotice s := by
  have hdone (b : Bind) (t frame : Nat) (temp : Int) : videoNotice (completeBind b t frame temp s) = videoNotice s := by
    unfold completeBind
    split
    · have hended (r : Reply) (u : State) : videoNotice (endBind b r u) = videoNotice u := rfl
      rw [hended, videoNotice_addChanges, addRecord_counted]
      rfl
    · rfl
  unfold bindRoom
  repeat' split
  · exact hdone _ _ _ _
  all_goals rfl

@[simp] theorem videoNotice_boundaryApply (s : State) : videoNotice (boundaryApply s) = videoNotice s := by
  unfold boundaryApply afterApplication useRoom
  dsimp only
  repeat' split
  all_goals simp

end Sys2Proof.Machine

/-! FRAME in RUN, a frame boundary (O27). -/

namespace Sys2Proof.Machine

-- One theorem at a time: elaborated at once, they wait on each other and each holds a thread.
set_option Elab.async false

/-! ## Compositions (R39) -/

/-- What stage 1 to 3 read of the state. -/
structure SameCodes (s t : State) : Prop where
  straps  : t.straps = s.straps
  display : t.store.display = s.store.display
  cells   : t.repair.cells = s.repair.cells
  lanes   : t.repair.lanes = s.repair.lanes
  rows    : t.repair.rows = s.repair.rows
  gains   : t.comp.gains = s.comp.gains
  params  : t.unit.params = s.unit.params

theorem composedCode_congr {s t : State} (h : SameCodes s t) (r l : Nat) : composedCode t r l = composedCode s r l := by
  have hentry (r l : Nat) : cellEntry t r l = cellEntry s r l := by rw [cellEntry, cellEntry, h.cells]
  have hvictim (r l : Nat) : isVictim t r l = isVictim s r l := by
    rw [isVictim, isVictim, rowNow, rowNow, laneNow, laneNow, hentry, h.rows, h.lanes]
  have hlive (r l : Nat) : isLive t r l = isLive s r l := by rw [isLive, isLive, isForcedOff, isForcedOff, hvictim, hentry]
  have hdepth : depth t = depth s := by rw [depth, depth, h.straps]
  have hvideo (r l : Nat) : videoCode t r l = videoCode s r l := by rw [videoCode, videoCode, h.display]
  have hcount (r l : Nat) : liveNeighbours t r l = liveNeighbours s r l := by simp only [liveNeighbours, hlive, hdepth]
  have hshare (r l : Nat) : shareOf t r l = shareOf s r l := by rw [shareOf, shareOf, hcount, hvideo, h.params]
  have hgain : gainInUse t r l = gainInUse s r l := by rw [gainInUse, gainInUse, hentry, h.gains]
  have heffective : effectiveCode t r l = effectiveCode s r l := by
    simp only [effectiveCode, hvictim, hdepth, hvideo, hshare]
  rw [composedCode, composedCode, hlive, heffective, hgain, h.params]

/-- A composition is taken again with the same result while nothing that it reads has changed. -/
theorem compose_of_sameCodes {s t : State} (h : SameCodes s t) (hcomp : t.comp = (compose s).comp) : compose t = t := by
  have hdepth : depth t = depth s := by rw [depth, depth, h.straps]
  have hsame : (compose t).comp = t.comp := by
    rw [compose]
    simp only [State.withComp_comp, composedCode_congr h, hdepth, hcomp]
    rfl
  calc compose t = t.withComp (compose t).comp := rfl
    _ = t.withComp t.comp := by rw [hsame]
    _ = t := rfl

/-! ## The scan at a frame boundary (R9, R10) -/

/-- A scan cycle that starts at row 0. -/
def cycleStarted (s : State) : State := startPhase (s.withScan { s.scan with nextRow := 0 })

theorem cycleStarted_sense (s : State) : (cycleStarted s).sense = s.sense := rfl
theorem cycleStarted_state (s : State) : (cycleStarted s).scan.state = .scanning := rfl
theorem compose_sense (s : State) : (compose s).sense = s.sense := rfl
theorem compose_unit (s : State) : (compose s).unit = s.unit := rfl
theorem compose_ctl (s : State) : (compose s).ctl = s.ctl := rfl
theorem compose_store (s : State) : (compose s).store = s.store := rfl
theorem compose_link (s : State) : (compose s).link = s.link := rfl
theorem compose_straps (s : State) : (compose s).straps = s.straps := rfl
theorem compose_repair (s : State) : (compose s).repair = s.repair := rfl
theorem compose_track (s : State) : (compose s).track = s.track := rfl
theorem compose_corr (s : State) : (compose s).corr = s.corr := rfl
theorem compose_gains (s : State) : (compose s).comp.gains = s.comp.gains := rfl

theorem scanComposed_of_scanning {s : State} (hstate : s.scan.state = .scanning) (hclaim : claimWaiting s = false) :
    scanComposed s = cycleStarted s := by
  rw [scanComposed, hstate, hclaim]
  rfl

theorem scanComposed_of_claim {s : State} (hstate : s.scan.state = .scanning) (hclaim : claimWaiting s = true) :
    scanComposed s = claimAtPhaseEnd .yielded (s.withScan { s.scan with nextRow := 0 }) := by
  rw [scanComposed, hstate, hclaim]
  rfl

theorem scanComposed_of_not_scanning {s : State} (hstate : s.scan.state ≠ .scanning) :
    scanComposed s = s.withScan { s.scan with nextRow := 0 } := by
  rw [scanComposed]
  cases h : s.scan.state with
  | scanning => exact absurd h hstate
  | _ => rfl

/-- The part as a composition finds it, with drive enable risen where it does (R9). -/
def driveRisen (was : Bool) (s : State) : State :=
  if driveEnable (compose s) && !was then driveRises (compose s) else compose s

theorem boundaryCompose_eq (was : Bool) (s : State) : boundaryCompose was s = scanComposed (driveRisen was s) := rfl

section
variable {was : Bool} {s : State}

/-- A scan cycle starts at row 0, at the entry to LIVE too. -/
theorem boundaryCompose_of_starts (hclaim : claimWaiting s = false)
    (h : s.scan.state = .scanning ∨ (s.scan.state = .stopped ∧ (driveEnable s && !was) = true)) :
    boundaryCompose was s = cycleStarted (compose s) := by
  rw [boundaryCompose_eq, driveRisen, show driveEnable (compose s) = driveEnable s from rfl]
  obtain hscan | ⟨hscan, hrises⟩ := h
  · have hsame : driveRises (compose s) = compose s := by rw [driveRises, show (compose s).scan.state = _ from hscan]
    rw [hsame, ite_self, scanComposed_of_scanning (by exact hscan) (by exact hclaim)]
  · have hrisen : driveRises (compose s) = cycleStarted (compose s) := by
      rw [driveRises, show (compose s).scan.state = _ from hscan]
      rfl
    rw [if_pos hrises, hrisen, scanComposed_of_scanning (s := cycleStarted (compose s)) rfl hclaim]
    rfl

/-- A claim that waits is taken at the composition. -/
theorem boundaryCompose_of_claim (hclaim : claimWaiting s = true) (hscan : s.scan.state = .scanning) :
    boundaryCompose was s = claimAtPhaseEnd .yielded ((compose s).withScan { s.scan with nextRow := 0 }) := by
  have hsame : driveRises (compose s) = compose s := by rw [driveRises, show (compose s).scan.state = _ from hscan]
  rw [boundaryCompose_eq, driveRisen, hsame, ite_self, scanComposed_of_claim (by exact hscan) (by exact hclaim)]
  rfl

/-- The test that has the lines keeps them, and the scan waits at row 0. -/
theorem boundaryCompose_of_waits
    (h : s.scan.state = .yielded ∨ (s.scan.state = .lent ∧ (driveEnable s && !was) = true)) :
    boundaryCompose was s = (compose s).withScan { s.scan with state := .yielded, nextRow := 0 } := by
  rw [boundaryCompose_eq, driveRisen, show driveEnable (compose s) = driveEnable s from rfl]
  obtain hscan | ⟨hscan, hrises⟩ := h
  · have hsame : driveRises (compose s) = compose s := by rw [driveRises, show (compose s).scan.state = _ from hscan]
    rw [hsame, ite_self, scanComposed_of_not_scanning (s := compose s) (by rw [show (compose s).scan.state = _ from hscan]; nofun),
      ← hscan]
    rfl
  · have hrisen : driveRises (compose s) = (compose s).withScan { s.scan with nextRow := 0, state := .yielded } := by
      rw [driveRises, show (compose s).scan.state = _ from hscan]
      rfl
    rw [if_pos hrises, hrisen, scanComposed_of_not_scanning (by nofun)]
    rfl

/-- With drive enable false the scan stays where it is. -/
theorem boundaryCompose_of_off (hoff : ¬ (driveEnable s && !was) = true) (hscan : s.scan.state ≠ .scanning) :
    boundaryCompose was s = (compose s).withScan { s.scan with nextRow := 0 } := by
  rw [boundaryCompose_eq, driveRisen, show driveEnable (compose s) = driveEnable s from rfl, if_neg hoff,
    scanComposed_of_not_scanning (by exact hscan)]
  rfl

end

/-! ## A claim taken at the composition (R10, R16, R53) -/

theorem one_mod_depth (s : State) : 1 % depth s = 1 := by
  rw [depth, depthOf_eq]
  split
  · rfl
  · split <;> rfl

theorem laneNow_withScan (s : State) (x : ScanDriver) (l : Nat) : laneNow (s.withScan x) l = laneNow s l := rfl
theorem laneNow_compose (s : State) (l : Nat) : laneNow (compose s) l = laneNow s l := rfl

theorem connectsTo_congr {s t : State} {x : TestRecord} {d : TestDriver} (h : laneNow t x.die.lane = laneNow s x.die.lane)
    (hconnects : ConnectsTo t x d) : ConnectsTo s x d := by
  rw [ConnectsTo, h] at hconnects
  exact hconnects

theorem withdrawn_congr {s t : State} {x : TestRecord} (h : laneNow t x.die.lane = laneNow s x.die.lane)
    (hwithdrawn : Withdrawn t x) : Withdrawn s x := by
  rw [Withdrawn, h] at hwithdrawn
  exact hwithdrawn

theorem claimAtPhaseEnd_fields_of_connectsTo {s : State} {x : TestRecord} {d : TestDriver} (htest : s.sense.test = some x)
    (h : ConnectsTo s x d) : (claimAtPhaseEnd .yielded s).scan
        = { s.scan with state := .yielded, phase := none, traces := s.scan.traces.set x.die.lane x.die.die }
      ∧ (claimAtPhaseEnd .yielded s).sense = { s.sense with test := some { x with driver := some d } } := by
  rw [claimAtPhaseEnd_of_connectsTo htest h]
  exact ⟨rfl, rfl⟩

theorem claimAtPhaseEnd_fields_of_withdrawn {s : State} {x : TestRecord} (htest : s.sense.test = some x)
    (h : Withdrawn s x) (hclosed : s.sense.windowOpen = false) (hrow : s.scan.nextRow = 0) :
    (claimAtPhaseEnd .yielded s).scan.state = .scanning ∧ (claimAtPhaseEnd .yielded s).scan.nextRow = 1
      ∧ (claimAtPhaseEnd .yielded s).sense = { s.sense with test := none } := by
  have hrow' : (0 + 1) % depth s = 1 := one_mod_depth s
  rw [claimAtPhaseEnd_of_withdrawn htest h hclosed, releaseLines_of_yielded (by rfl)]
  refine ⟨rfl, ?_, rfl⟩
  show (s.scan.nextRow + 1) % depth s = 1
  rw [hrow, hrow']

/-- A grant takes the lines only of a Scan Driver that is STOPPED. -/
theorem decideGrant_scan {s : State} (h : s.scan.state ≠ .stopped) : (decideGrant s).scan = s.scan := by
  rw [decideGrant, grantDecision]
  split
  · cases pickGrant s with
    | none => rfl
    | some g =>
      dsimp only
      rw [if_neg (by exact h)]
      rfl
  · rfl

theorem openWindow_scan {s : State} (h : s.scan.state ≠ .stopped) (budget : Nat) (reading : Int) :
    (offerReplies (openWindow budget reading s)).scan = s.scan := by
  rw [(OfferFrame.offerReplies _).scan, openWindow_eq, decideGrant_scan (by exact h)]
  rfl

/-! ## The Mode Controller at a frame boundary (R26, R29) -/

theorem enterVideo_eq (v : VideoState) (s : State) : enterVideo v s
    = (s.withCtl { s.ctl with video := v }).withUnit { s.unit with notices := (enterVideo v s).unit.notices } := by
  rw [enterVideo]
  by_cases h : s.ctl.video = v
  · rw [if_pos h]
    rfl
  · rw [if_neg h, raise_eq]
    rfl

theorem moveVideo_eq (swapped : Bool) (s : State) : moveVideo swapped s
    = (s.withCtl (moveVideo swapped s).ctl).withUnit { s.unit with notices := (moveVideo swapped s).unit.notices } := by
  rw [moveVideo_ctl, moveVideo, enterVideo_eq]
  rfl

theorem videoNotice_moveVideo {s : State} (hvideo : s.ctl.video ≠ .live) (hmask : s.unit.params.noticeMask.videoState = true) :
    videoNotice (moveVideo true s) = true := by
  unfold moveVideo enterVideo
  dsimp only
  rw [if_neg (by exact hvideo)]
  exact videoNotice_raise_video _ hmask

/-! ## The parts of a FRAME arrival in RUN (R24, R32) -/

/-- The Frame Store and the Mode Controller have taken the arrival of frame n. -/
def frameMoved (n : Nat) (s : State) : State := moveVideo (frameComplete s.store) (s.withStore (s.store.arrival n))

/-- The waiting changes are applied, with what they make room for. -/
def frameApplied (n : Nat) (s : State) : State := boundaryApply (frameMoved n s)

/-- The composition is taken and the scan cycle starts. -/
def frameComposed (n : Nat) (s : State) : State := boundaryCompose (driveEnable s) (frameApplied n s)

theorem exec_frame_of_run {q : Request} {s : State} (hdisp : Dispatched kFrame q s) (hmode : s.ctl.mode = .run)
    (reading : Int) : exec (.frame q reading) s = .next (offerReplies (openWindow
      (frameComposed (le16At q.payload 0) (atTake kFrame q s)).unit.params.senseBudget reading
      (frameComposed (le16At q.payload 0) (atTake kFrame q s)))) := by
  have htake : (atTake kFrame q s).ctl.mode = .run := by rw [atTake_ctl]; exact hmode
  rw [exec_frame_dispatched hdisp, frameTaken, htake]
  rfl

section
variable (n : Nat) (s : State)

theorem frameMoved_eq : frameMoved n s = ((s.withStore (s.store.arrival n)).withCtl (frameMoved n s).ctl).withUnit
    { s.unit with notices := (frameMoved n s).unit.notices } := moveVideo_eq _ _

theorem frameMoved_sense : (frameMoved n s).sense = s.sense := by rw [frameMoved_eq]; rfl
theorem frameMoved_scan : (frameMoved n s).scan = s.scan := by rw [frameMoved_eq]; rfl
theorem frameMoved_repair : (frameMoved n s).repair = s.repair := by rw [frameMoved_eq]; rfl
theorem frameMoved_track : (frameMoved n s).track = s.track := by rw [frameMoved_eq]; rfl
theorem frameMoved_corr : (frameMoved n s).corr = s.corr := by rw [frameMoved_eq]; rfl
theorem frameMoved_comp : (frameMoved n s).comp = s.comp := by rw [frameMoved_eq]; rfl
theorem frameMoved_straps : (frameMoved n s).straps = s.straps := by rw [frameMoved_eq]; rfl
theorem frameMoved_link : (frameMoved n s).link = s.link := by rw [frameMoved_eq]; rfl
theorem frameMoved_store : (frameMoved n s).store = s.store.arrival n := by rw [frameMoved_eq]; rfl
theorem frameMoved_params : (frameMoved n s).unit.params = s.unit.params := by rw [frameMoved_eq]; rfl
theorem frameMoved_ctl : (frameMoved n s).ctl = { s.ctl with
    video := videoAfter s.ctl.video (frameComplete s.store)
    frameTimer := some s.unit.params.frameTimeout
    holdTimer := if frameComplete s.store then none else s.ctl.holdTimer } := moveVideo_ctl _ _

theorem frameApplied_frame : FaultFrame (frameMoved n s) (frameApplied n s) := .boundaryApply _

theorem frameApplied_sense : (frameApplied n s).sense = { s.sense with tried := (frameApplied n s).sense.tried } := by
  have hsense := (frameApplied_frame n s).sense
  rw [frameMoved_sense] at hsense
  exact hsense

theorem frameApplied_scan : (frameApplied n s).scan = s.scan := (frameApplied_frame n s).scan.trans (frameMoved_scan n s)

theorem frameApplied_test : (frameApplied n s).sense.test = s.sense.test :=
  (congrArg SenseUnit.test (frameApplied_sense n s)).trans rfl

theorem frameApplied_claimWaiting : claimWaiting (frameApplied n s) = claimWaiting s := by
  rw [claimWaiting, claimWaiting, frameApplied_test]

theorem frameApplied_params : (frameApplied n s).unit.params
    = { s.unit.params with policy := (frameApplied n s).unit.params.policy } := by
  have hparams := (frameApplied_frame n s).params
  rw [frameMoved_params] at hparams
  exact hparams

theorem frameComposed_frame : GrantFrame (compose (frameApplied n s)) (frameComposed n s) := by
  rw [frameComposed, boundaryCompose_eq, driveRisen]
  refine GrantFrame.trans ?_ (.scanComposed _)
  split
  · exact .driveRises _
  · exact .refl _

/-- Drive enable rises at the entry to LIVE from DARK (R9). -/
theorem driveRises_iff {s : State} (hmode : s.ctl.mode = .run) : (driveEnable (frameApplied n s) && !driveEnable s) = true
    ↔ s.ctl.video = .dark ∧ frameComplete s.store = true := by
  have hctl : (frameApplied n s).ctl = _ := (frameApplied_frame n s).ctl.trans (frameMoved_ctl n s)
  rw [driveEnable, driveEnable, hctl]
  dsimp only
  rw [hmode, videoAfter]
  cases s.ctl.video <;> cases frameComplete s.store <;> decide

/-- With no claim waiting the Sense Unit is as the application leaves it, and the Scan Driver is STOPPED only where it was and
drive enable does not rise. -/
theorem frameComposed_of_no_claim {s : State} (hmode : s.ctl.mode = .run) (hclaim : claimWaiting s = false) :
    (frameComposed n s).sense = (frameApplied n s).sense
    ∧ ((frameComposed n s).scan.state = .stopped
      ↔ s.scan.state = .stopped ∧ ¬ (s.ctl.video = .dark ∧ frameComplete s.store = true)) := by
  have hscan := frameApplied_scan n s
  have hrises := driveRises_iff n hmode
  have hclaim' : claimWaiting (frameApplied n s) = false := (frameApplied_claimWaiting n s).trans hclaim
  by_cases hstarts : s.scan.state = .scanning ∨ (s.scan.state = .stopped ∧ s.ctl.video = .dark ∧ frameComplete s.store = true)
  · rw [frameComposed, boundaryCompose_of_starts hclaim' (by rw [hscan, hrises]; exact hstarts),
      cycleStarted_sense, cycleStarted_state, compose_sense]
    refine ⟨rfl, (fun h => nomatch h), fun ⟨hstopped, hnot⟩ => ?_⟩
    obtain h | h := hstarts
    · rw [h] at hstopped
      cases hstopped
    · exact absurd h.2 hnot
  obtain ⟨hnotScanning, hnot⟩ := not_or.mp hstarts
  by_cases hwaits : s.scan.state = .yielded ∨ (s.scan.state = .lent ∧ s.ctl.video = .dark ∧ frameComplete s.store = true)
  · rw [frameComposed, boundaryCompose_of_waits (by rw [hscan, hrises]; exact hwaits), State.withScan_sense,
      State.withScan_scan, compose_sense]
    refine ⟨rfl, (fun h => nomatch h), fun ⟨hstopped, _⟩ => ?_⟩
    obtain h | h := hwaits
    · rw [h] at hstopped
      cases hstopped
    · rw [h.1] at hstopped
      cases hstopped
  obtain ⟨hnotYielded, hnotLent⟩ := not_or.mp hwaits
  have hoff : ¬ (s.ctl.video = .dark ∧ frameComplete s.store = true) := by
    intro h
    cases hstate : s.scan.state with
    | scanning => exact hnotScanning hstate
    | stopped => exact hnot ⟨hstate, h⟩
    | yielded => exact hnotYielded hstate
    | lent => exact hnotLent ⟨hstate, h⟩
  rw [frameComposed, boundaryCompose_of_off (mt hrises.mp hoff) (by rw [hscan]; exact hnotScanning), State.withScan_sense,
    State.withScan_scan, compose_sense, hscan]
  exact ⟨rfl, fun h => ⟨h, hoff⟩, And.left⟩

end

/-! ## The part after a FRAME arrival in RUN -/

/-- The part once the window of the frame boundary is open. -/
def frameEnded (n : Nat) (reading : Int) (s : State) : State :=
  offerReplies (openWindow s.unit.params.senseBudget reading (frameComposed n s))

section
variable (n : Nat) (reading : Int) (s : State)

theorem frameEnded_frame : WindowFrame s.unit.params.senseBudget reading (frameComposed n s) (frameEnded n reading s) :=
  windowFrame_openWindow _ _ _

theorem frameComposed_unit : (frameComposed n s).unit = (frameApplied n s).unit :=
  (frameComposed_frame n s).unit.trans (compose_unit _)

theorem frameComposed_params : (frameComposed n s).unit.params
    = { s.unit.params with policy := (frameComposed n s).unit.params.policy } := by
  rw [frameComposed_unit]
  exact frameApplied_params n s

theorem frameEnded_params : (frameEnded n reading s).unit.params
    = { s.unit.params with policy := (frameEnded n reading s).unit.params.policy } := by
  have hunit : (frameEnded n reading s).unit.params = (frameComposed n s).unit.params :=
    (congrArg MessageUnit.params (frameEnded_frame n reading s).unit).trans rfl
  rw [hunit]
  exact frameComposed_params n s

theorem frameEnded_ctl : (frameEnded n reading s).ctl = { s.ctl with
    video := videoAfter s.ctl.video (frameComplete s.store)
    frameTimer := some s.unit.params.frameTimeout
    holdTimer := if frameComplete s.store then none else s.ctl.holdTimer } :=
  (frameEnded_frame n reading s).ctl.trans (((frameComposed_frame n s).ctl.trans (compose_ctl _)).trans
    ((frameApplied_frame n s).ctl.trans (frameMoved_ctl n s)))

theorem frameEnded_store : (frameEnded n reading s).store = s.store.arrival n :=
  (frameEnded_frame n reading s).store.trans (((frameComposed_frame n s).store.trans (compose_store _)).trans
    ((frameApplied_frame n s).store.trans (frameMoved_store n s)))

theorem frameEnded_link : (frameEnded n reading s).link = s.link :=
  (frameEnded_frame n reading s).link.trans (((frameComposed_frame n s).link.trans (compose_link _)).trans
    ((frameApplied_frame n s).link.trans (frameMoved_link n s)))

theorem frameEnded_straps : (frameEnded n reading s).straps = s.straps :=
  (frameEnded_frame n reading s).straps.trans (((frameComposed_frame n s).straps.trans (compose_straps _)).trans
    ((frameApplied_frame n s).straps.trans (frameMoved_straps n s)))

theorem frameEnded_comp : (frameEnded n reading s).comp = (compose (frameApplied n s)).comp :=
  (frameEnded_frame n reading s).comp.trans (frameComposed_frame n s).comp

theorem frameEnded_gains : (frameEnded n reading s).comp.gains = s.comp.gains := by
  rw [frameEnded_comp, compose_gains, (frameApplied_frame n s).gains, frameMoved_comp]

theorem frameEnded_repair : (frameEnded n reading s).repair
    = { (frameApplied n s).repair with bind := (frameEnded n reading s).repair.bind } := by
  have hrepair := (frameEnded_frame n reading s).repair
  rw [(frameComposed_frame n s).repair, compose_repair] at hrepair
  exact hrepair

theorem frameEnded_compose : compose (frameEnded n reading s) = frameEnded n reading s := by
  have hrepair := frameEnded_repair n reading s
  have hunit := (frameEnded_frame n reading s).unit
  rw [frameComposed_unit] at hunit
  refine compose_of_sameCodes (s := frameApplied n s) ?_ (frameEnded_comp n reading s)
  exact {
    straps := (frameEnded_straps n reading s).trans ((frameApplied_frame n s).straps.trans (frameMoved_straps n s)).symm
    display := congrArg FrameStore.display
      ((frameEnded_store n reading s).trans ((frameApplied_frame n s).store.trans (frameMoved_store n s)).symm)
    cells := (congrArg Repair.cells hrepair).trans rfl
    lanes := (congrArg Repair.lanes hrepair).trans rfl
    rows := (congrArg Repair.rows hrepair).trans rfl
    gains := (congrArg Composer.gains (frameEnded_comp n reading s)).trans (compose_gains _)
    params := (congrArg MessageUnit.params hunit).trans rfl }

/-- VIDEO_STATE becomes pending at the entry to LIVE (R25). -/
theorem frameEnded_videoState (hswapped : frameComplete s.store = true) (hvideo : s.ctl.video ≠ .live)
    (hmask : s.unit.params.noticeMask.videoState = true) : (frameEnded n reading s).unit.notices.videoState = true := by
  have hunit : (frameEnded n reading s).unit.notices = (frameComposed n s).unit.notices :=
    (congrArg MessageUnit.notices (frameEnded_frame n reading s).unit).trans rfl
  have hmoved : videoNotice (frameMoved n s) = true := by
    rw [frameMoved, hswapped]
    exact videoNotice_moveVideo (by exact hvideo) (by exact hmask)
  rw [hunit, frameComposed_unit]
  exact (videoNotice_boundaryApply (frameMoved n s)).trans hmoved

/-- The window opens, with the test in flight that the scan has left. -/
theorem windowOpens_frameEnded {test : Option TestRecord} {atOnce : Bool}
    (hsense : (frameComposed n s).sense = { s.sense with tried := (frameComposed n s).sense.tried, test := test })
    (hstopped : (frameComposed n s).scan.state = .stopped ↔ atOnce = true) :
    WindowOpens s.unit.params.senseBudget reading test atOnce s (frameEnded n reading s) :=
  windowOpens_openWindow _ _ hsense ((congrArg Params.senseTempMax (frameComposed_params n s)).trans rfl) hstopped

theorem frameComposed_windowNumber : (frameComposed n s).sense.windowNumber = s.sense.windowNumber := by
  rw [(frameComposed_frame n s).windowNumber, compose_sense, frameApplied_sense]

/-- Where nothing else is due, the maps are those that the application of the list leaves (R112). -/
theorem frameEnded_quiet (hwaiting : s.repair.waiting = none) (hbind : s.repair.bind = none) (hquiet : FaultPathQuiet s) :
    (frameEnded n reading s).repair = (applyChanges (s.withStore (frameEnded n reading s).store)).repair
    ∧ (frameEnded n reading s).corr = s.corr
    ∧ (frameEnded n reading s).track = ⟨withoutWindow ((s.sense.windowNumber + 1) % 65536) s.track.suspects, []⟩ := by
  have hrepair := frameMoved_repair n s
  have htrack := frameMoved_track n s
  have hmoved : FaultPathQuiet (frameMoved n s) :=
    ⟨by rw [htrack]; exact hquiet.queue, by rw [htrack]; exact hquiet.held, by rw [hrepair]; exact hquiet.heldLane⟩
  have happlied : frameApplied n s = applyChanges (frameMoved n s) :=
    boundaryApply_of_quiet (by rw [hrepair]; exact hwaiting) (by rw [hrepair]; exact hbind) hmoved
  have hkept := FaultPathKept.applyChanges (frameMoved n s)
  have hsame : (frameComposed n s).repair = (applyChanges (frameMoved n s)).repair := by
    rw [(frameComposed_frame n s).repair, compose_repair, ← happlied]
  refine ⟨?_, ?_, ?_⟩
  · rw [frameEnded_store, frameEnded, openWindow_repair_of_no_bind, hsame]
    · exact applyChanges_repair_congr hrepair (congrArg FrameStore.frameCount (frameMoved_store n s))
    · rw [hsame, applyChanges_bind, hrepair, hbind]
  · rw [(frameEnded_frame n reading s).corr, (frameComposed_frame n s).corr, compose_corr, happlied, hkept.corr, frameMoved_corr]
  · have hcomposed : (frameComposed n s).track = s.track := by
      rw [(frameComposed_frame n s).track, compose_track, happlied, hkept.track, htrack]
    rw [(frameEnded_frame n reading s).track, frameComposed_windowNumber, hcomposed, hquiet.queue]

theorem frameEnded_scan (h : (frameComposed n s).scan.state ≠ .stopped) :
    (frameEnded n reading s).scan = (frameComposed n s).scan := openWindow_scan h _ _

theorem frameEnded_rowNow (r : Nat) : rowNow (frameEnded n reading s) r = rowNow (frameApplied n s) r :=
  (congrArg (fun x : Repair => x.rows.getD r .normal) (frameEnded_repair n reading s)).trans rfl

theorem frameEnded_laneNow (l : Nat) : laneNow (frameEnded n reading s) l = laneNow (frameApplied n s) l :=
  (congrArg (fun x : Repair => x.lanes.getD l .normal) (frameEnded_repair n reading s)).trans rfl

theorem frameEnded_cellEntry (r l : Nat) : cellEntry (frameEnded n reading s) r l = cellEntry (frameApplied n s) r l :=
  (congrArg (fun x : Repair => cellAt x.cells r l .default) (frameEnded_repair n reading s)).trans rfl

end

theorem cycleStarted_scan (s : State) : (cycleStarted s).scan =
    { state := .scanning, nextRow := 1, segments := s.unit.params.repeats, phase := some (latchRow s 0)
      traces := (latchRow s 0).lanes.map fun x => x.cell.trace } := by
  have hscan : (cycleStarted s).scan =
      { state := .scanning, nextRow := 1 % depth s, segments := s.unit.params.repeats, phase := some (latchRow s 0)
        traces := (latchRow s 0).lanes.map fun x => x.cell.trace } := rfl
  rw [hscan, one_mod_depth]

/-- A scan cycle at row 0 latches the tables as the part then has them (R11, R12). -/
theorem frameEnded_scan_of_starts (n : Nat) (reading : Int) {s : State} (hmode : s.ctl.mode = .run)
    (hclaim : claimWaiting s = false)
    (h : s.scan.state = .scanning ∨ (s.scan.state = .stopped ∧ s.ctl.video = .dark ∧ frameComplete s.store = true)) :
    (frameEnded n reading s).scan = { state := .scanning, nextRow := 1, segments := s.unit.params.repeats
                                      phase := some (latchRow (compose (frameApplied n s)) 0)
                                      traces := (latchRow (compose (frameApplied n s)) 0).lanes.map fun x => x.cell.trace } := by
  have hcomposed : frameComposed n s = cycleStarted (compose (frameApplied n s)) :=
    boundaryCompose_of_starts ((frameApplied_claimWaiting n s).trans hclaim)
      (by rw [frameApplied_scan, driveRises_iff n hmode]; exact h)
  have hrepeats : (frameApplied n s).unit.params.repeats = s.unit.params.repeats :=
    (congrArg Params.repeats (frameApplied_params n s)).trans rfl
  rw [frameEnded_scan _ _ _ (by rw [hcomposed, cycleStarted_state]; nofun), hcomposed, cycleStarted_scan, compose_unit,
    hrepeats]

/-- The test that has the lines keeps them, and the scan waits at row 0. -/
theorem frameEnded_scan_of_waits (n : Nat) (reading : Int) {s : State} (hmode : s.ctl.mode = .run)
    (h : s.scan.state = .yielded ∨ (s.scan.state = .lent ∧ s.ctl.video = .dark ∧ frameComplete s.store = true)) :
    (frameEnded n reading s).scan = { s.scan with state := .yielded, nextRow := 0 } := by
  have hcomposed : frameComposed n s
      = (compose (frameApplied n s)).withScan { (frameApplied n s).scan with state := .yielded, nextRow := 0 } :=
    boundaryCompose_of_waits (by rw [frameApplied_scan, driveRises_iff n hmode]; exact h)
  rw [frameEnded_scan _ _ _ (by rw [hcomposed, State.withScan_scan]; nofun), hcomposed, State.withScan_scan, frameApplied_scan]

section
variable (n : Nat) (reading : Int) {s : State} {x : TestRecord} (hscan : s.scan.state = .scanning)
  (htest : s.sense.test = some x) (hdriver : x.driver = none)
include hscan htest hdriver

theorem frameComposed_of_claim : frameComposed n s
    = claimAtPhaseEnd .yielded ((compose (frameApplied n s)).withScan { s.scan with nextRow := 0 }) := by
  have hclaim : claimWaiting (frameApplied n s) = true :=
    (frameApplied_claimWaiting n s).trans (claimWaiting_of_test htest hdriver)
  rw [frameComposed, boundaryCompose_of_claim hclaim (by rw [frameApplied_scan]; exact hscan), frameApplied_scan]

/-- A claim that waits is taken at the composition, and the test drives. -/
theorem frameComposed_of_connectsTo {d : TestDriver} (hconnects : ConnectsTo (frameEnded n reading s) x d) :
    (frameComposed n s).scan = { s.scan with
      state := .yielded, nextRow := 0, phase := none, traces := s.scan.traces.set x.die.lane x.die.die }
    ∧ (frameComposed n s).sense = { (frameApplied n s).sense with test := some { x with driver := some d } } := by
  have hlane := frameEnded_laneNow n reading s x.die.lane
  obtain ⟨hscan', hsense⟩ := claimAtPhaseEnd_fields_of_connectsTo
    (s := (compose (frameApplied n s)).withScan { s.scan with nextRow := 0 }) (x := x) (d := d)
    (by rw [State.withScan_sense, compose_sense, frameApplied_test]; exact htest)
    (connectsTo_congr (by rw [hlane, laneNow_withScan, laneNow_compose]) hconnects)
  rw [frameComposed_of_claim n hscan htest hdriver, hscan', hsense, State.withScan_sense, compose_sense, State.withScan_scan]
  exact ⟨rfl, rfl⟩

/-- A claim on a DARK lane is withdrawn with the old window closed, and the scan cycle starts. -/
theorem frameComposed_of_withdrawn (hwithdrawn : Withdrawn (frameEnded n reading s) x) (hclosed : s.sense.windowOpen = false) :
    ((frameComposed n s).scan.state = .scanning ∧ (frameComposed n s).scan.nextRow = 1)
    ∧ (frameComposed n s).sense = { (frameApplied n s).sense with test := none } := by
  have hlane := frameEnded_laneNow n reading s x.die.lane
  have hopen : (frameApplied n s).sense.windowOpen = false :=
    (congrArg SenseUnit.windowOpen (frameApplied_sense n s)).trans hclosed
  obtain ⟨hstate, hrow, hsense⟩ := claimAtPhaseEnd_fields_of_withdrawn
    (s := (compose (frameApplied n s)).withScan { s.scan with nextRow := 0 }) (x := x)
    (by rw [State.withScan_sense, compose_sense, frameApplied_test]; exact htest)
    (withdrawn_congr (by rw [hlane, laneNow_withScan, laneNow_compose]) hwithdrawn)
    (by rw [State.withScan_sense, compose_sense]; exact hopen) (by rw [State.withScan_scan])
  rw [frameComposed_of_claim n hscan htest hdriver, hstate, hrow, hsense, State.withScan_sense, compose_sense]
  exact ⟨⟨rfl, rfl⟩, rfl⟩

end

/-- Settles O27: the arrival, the application, the composition with its scan, and the window that opens, each by its frame. -/
theorem frameInRunIsAFrameBoundary : Obligations.FrameInRunIsAFrameBoundary := by
  intro q reading s hdisp hmode swapped opens
  obtain ⟨x, hx⟩ := atTake_withLink kFrame q s
  let n := le16At q.payload 0
  let s' : State := s.withLink x
  have hexec := exec_frame_of_run hdisp hmode reading
  have hbudget : (frameComposed n s').unit.params.senseBudget = s.unit.params.senseBudget :=
    (congrArg Params.senseBudget (frameComposed_params n s')).trans rfl
  rw [hx, hbudget] at hexec
  have hwindow := frameEnded_frame n reading s'
  have hlink : x = (atTake kFrame q s).link := by rw [hx]; rfl
  have happlied := frameApplied_sense n s'
  have hopens {test : Option TestRecord} {atOnce : Bool}
      (hsense : (frameComposed n s').sense = { s'.sense with tried := (frameComposed n s').sense.tried, test := test })
      (hstopped : (frameComposed n s').scan.state = .stopped ↔ atOnce = true) :
      opens test atOnce (frameEnded n reading s') := windowOpens_frameEnded n reading s' hsense hstopped
  refine ⟨frameEnded n reading s', hexec, frameEnded_ctl n reading s',
    fun hswapped hvideo hmask => frameEnded_videoState n reading s' hswapped hvideo hmask, frameEnded_store n reading s', ?_, ?_,
    ?_, hwindow.budget, hwindow.sample, hwindow.sensorFault, fun hclaim => ?_, fun hwaiting hbind hquiet => ?_,
    frameEnded_compose n reading s', fun hscan hclaim => ?_, fun hscan => frameEnded_scan_of_waits n reading (s := s') hmode hscan,
    fun y hscan htest hdriver => ⟨fun d hconnects => ?_, fun hwithdrawn hclosed => ?_⟩,
    (frameEnded_link n reading s').trans hlink, frameEnded_straps n reading s', frameEnded_gains n reading s',
    frameEnded_params n reading s'⟩
  · rw [frameEnded_store]
    rfl
  · rw [frameEnded_store]
    rfl
  · rw [hwindow.windowNumber, frameComposed_windowNumber]
    rfl
  · obtain ⟨hsense, hstopped⟩ := frameComposed_of_no_claim n (s := s') hmode hclaim
    refine hopens (by rw [hsense]; exact happlied) ?_
    rw [hstopped, decide_eq_true_iff]
    rfl
  · obtain ⟨hrepair, hcorr, htrack⟩ :=
      frameEnded_quiet n reading s' hwaiting hbind ⟨hquiet.queue, hquiet.held, hquiet.heldLane⟩
    refine ⟨hrepair.trans ?_, hcorr, htrack⟩
    exact applyChanges_repair_congr (s := s.withStore (frameEnded n reading s').store) rfl rfl
  · refine ⟨latchRow (compose (frameApplied n s')) 0, _,
      frameEnded_scan_of_starts n reading (s := s') hmode hclaim hscan, rfl, (frameEnded_rowNow n reading s' 0).symm,
      fun l hl => ⟨?_, ?_⟩⟩
    · rw [latch_latchRow _ 0 hl, frameEnded_laneNow, frameEnded_cellEntry, frameEnded_comp]
      rfl
    · rw [traces_latchRow _ 0 hl, frameEnded_cellEntry]
      rfl
  · obtain ⟨hstate, hsense⟩ := frameComposed_of_connectsTo n reading (s := s') hscan htest hdriver hconnects
    refine ⟨hopens ?_ (by rw [hstate]; exact ⟨nofun, nofun⟩), ?_⟩
    · rw [hsense, happlied]
    · rw [frameEnded_scan _ _ _ (by rw [hstate]; nofun), hstate]
      rfl
  · obtain ⟨⟨hstate, hrow⟩, hsense⟩ := frameComposed_of_withdrawn n reading (s := s') hscan htest hdriver hwithdrawn hclosed
    have hsame := frameEnded_scan n reading s' (by rw [hstate]; nofun)
    refine ⟨hopens ?_ (by rw [hstate]; exact ⟨nofun, nofun⟩), ?_, ?_⟩
    · rw [hsense, happlied]
    · rw [hsame, hstate]
    · rw [hsame, hrow]

end Sys2Proof.Machine

/-! MODE: the entry to each mode, with its reply (O29). -/

namespace Sys2Proof.Machine

-- One theorem at a time: elaborated at once, they wait on each other and each holds a thread.
set_option Elab.async false

/-! ## The reply of MODE (R19) -/

theorem exec_mode_dispatched {q : Request} {s : State} (h : Dispatched kMode q s) :
    exec (.mode q) s = .next (modeTaken q (atTake kMode q s)) := request_dispatched (fun _ => modeTaken q) h

theorem modeTaken_of_present {q : Request} {m : Mode} {s : State} (hcode : modeOfCode (byteAt q.payload 0) = some m)
    (hsame : m = s.ctl.mode) : modeTaken q s = answer kMode q .ok [modeByte m] s := by
  rw [modeTaken, hcode]
  exact if_pos hsame

theorem modeTaken_of_other {q : Request} {m : Mode} {s : State} (hcode : modeOfCode (byteAt q.payload 0) = some m)
    (hother : m ≠ s.ctl.mode) :
    modeTaken q s = offerReplies (changeMode m (answer kMode q .ok [modeByte m] s)) := by
  rw [modeTaken, hcode]
  exact if_neg hother

theorem modeOfCode_of_large {n : Nat} (h : 3 ≤ n) : modeOfCode n = none := by
  match n, h with
  | n + 3, _ => rfl

/-- The replies once a MODE is answered: none for a broadcast one. -/
def modeReplies (q : Request) (m : Mode) (s : State) : List Reply :=
  s.unit.replies ++ (if q.broadcast then [] else [replyOf kMode q 0 [modeByte m]])

/-- The part as a MODE that is answered finds it. -/
def modeAnswered (q : Request) (m : Mode) (s : State) : State :=
  s.withUnit { s.unit with replies := modeReplies q m s }

theorem answer_mode (q : Request) (m : Mode) (s : State) : answer kMode q .ok [modeByte m] s = modeAnswered q m s := by
  rw [answer_eq, modeAnswered, modeReplies]
  split
  · rw [List.append_nil]; rfl
  · rfl

theorem exec_mode_of_other {q : Request} {m : Mode} {s : State} (hdisp : Dispatched kMode q s)
    (hcode : modeOfCode (byteAt q.payload 0) = some m) (hother : m ≠ s.ctl.mode) :
    exec (.mode q) s = .next (offerReplies (changeMode m (modeAnswered q m (atTake kMode q s)))) := by
  rw [exec_mode_dispatched hdisp, modeTaken_of_other hcode (by rw [atTake_ctl]; exact hother), answer_mode]

/-! ## The replies that follow (R66, R127) -/

theorem noReplyDue_of_waiting {s : State} (hspots : ∀ e ∈ s.sense.spots, e.status = .waiting) (hbind : s.repair.bind = none) :
    NoReplyDue s := .inr ⟨hspots, fun b r hb => by rw [hbind] at hb; cases hb⟩

theorem settle_bind (s : State) : (settle s).repair.bind = s.repair.bind := by rw [settle, takeAll_bind, releaseHold_bind]

/-! ## What the entry to RUN and the entry to BLANK leave (R22, R23) -/

/-- What the entry to RUN or to BLANK keeps, but for the Mode Controller, the Scan Driver, the test in flight and notices. -/
structure EntryKept (s t : State) : Prop where
  straps  : t.straps = s.straps
  link    : t.link = s.link
  store   : t.store = s.store
  comp    : t.comp = s.comp
  track   : t.track = s.track
  corr    : t.corr = s.corr
  repair  : t.repair = s.repair
  spots   : t.sense.spots = s.sense.spots
  replies : t.unit.replies = s.unit.replies
  params  : t.unit.params = s.unit.params

theorem EntryKept.enterRun (s : State) : EntryKept s (enterRun s) := by
  constructor <;> simp [Machine.enterRun, leaveMode]

theorem EntryKept.ofGrant {s t : State} (h : GrantFrame s t) : EntryKept s t where
  straps := h.straps
  link := h.link
  store := h.store
  comp := h.comp
  track := h.track
  corr := h.corr
  repair := h.repair
  spots := h.spots
  replies := congrArg MessageUnit.replies h.unit
  params := congrArg MessageUnit.params h.unit

theorem EntryKept.trans {s t u : State} (h : EntryKept s t) (k : EntryKept t u) : EntryKept s u where
  straps := k.straps.trans h.straps
  link := k.link.trans h.link
  store := k.store.trans h.store
  comp := k.comp.trans h.comp
  track := k.track.trans h.track
  corr := k.corr.trans h.corr
  repair := k.repair.trans h.repair
  spots := k.spots.trans h.spots
  replies := k.replies.trans h.replies
  params := k.params.trans h.params

/-- The Mode Controller at the entry to BLANK. -/
def blankEntered (s : State) : State :=
  s.withCtl { s.ctl with mode := .blank, video := .dark, frameTimer := none, holdTimer := none, blankTimer := some 10 }

theorem enterBlank_eq (s : State) : enterBlank s = if driveEnable s then driveFalls (blankEntered s) else blankEntered s := rfl

theorem EntryKept.enterBlank (s : State) : EntryKept s (enterBlank s) := by
  have hentered : EntryKept s (blankEntered s) := by constructor <;> rfl
  rw [enterBlank_eq]
  split
  · exact hentered.trans (.ofGrant (.driveFalls _))
  · exact hentered

theorem enterBlank_ctl (s : State) : (enterBlank s).ctl = (blankEntered s).ctl := by
  rw [enterBlank_eq]
  split
  · exact (GrantFrame.driveFalls _).ctl
  · rfl

/-- A mode entered, with the takes and the replies that follow. -/
structure ModeEntered (s t : State) : Prop where
  straps  : t.straps = s.straps
  link    : t.link = s.link
  store   : t.store = s.store
  gains   : t.comp.gains = s.comp.gains
  replies : ∃ more, t.unit.replies = s.unit.replies ++ more
  noMore  : (∀ e ∈ s.sense.spots, e.status = .waiting) → s.repair.bind = none → t.unit.replies = s.unit.replies
  quiet   : FaultPathQuiet s → t.track = s.track ∧ t.corr = s.corr ∧ t.unit.params = s.unit.params
    ∧ t.repair = { s.repair with bind := t.repair.bind } ∧ t.comp = s.comp

/-- What follows the entry to RUN or to BLANK. -/
theorem modeEntered_of_entryKept {s u : State} (h : EntryKept s u) : ModeEntered s (offerReplies (settle u)) := by
  have hsettle := FaultFrame.settle u
  have hoffer := OfferFrame.offerReplies (settle u)
  refine {
    straps := hoffer.straps.trans (hsettle.straps.trans h.straps)
    link := hoffer.link.trans (hsettle.link.trans h.link)
    store := hoffer.store.trans (hsettle.store.trans h.store)
    gains := (congrArg Composer.gains hoffer.comp).trans (hsettle.gains.trans (congrArg Composer.gains h.comp))
    replies := ?_
    noMore := fun hspots hbind => ?_
    quiet := fun hquiet => ?_ }
  · obtain ⟨more, hmore⟩ := replies_isPrefix_offerReplies (settle u)
    exact ⟨more, by rw [← hmore, hsettle.replies, h.replies]⟩
  · have hdue : NoReplyDue (settle u) := by
      refine noReplyDue_of_waiting ?_ ?_
      · rw [hsettle.sense, show ({ u.sense with tried := _ } : SenseUnit).spots = u.sense.spots from rfl, h.spots]
        exact hspots
      · rw [settle_bind, h.repair, hbind]
    rw [offerReplies_of_noReplyDue hdue, hsettle.replies, h.replies]
  · have hsame : settle u = u := settle_of_quiet (by rw [h.repair]; exact hquiet.heldLane) (by rw [h.track]; exact hquiet.queue)
    rw [hsame] at hoffer ⊢
    refine ⟨hoffer.track.trans h.track, hoffer.corr.trans h.corr, ?_, ?_, hoffer.comp.trans h.comp⟩
    · exact (congrArg MessageUnit.params hoffer.unit).trans h.params
    · have hrepair := hoffer.repair
      rw [h.repair] at hrepair
      exact hrepair

/-! ## The entries with their requests -/

/-- The code of a mode, as a MODE and a STATUS carry it. -/
theorem modeOfCode_code (m : Mode) : modeOfCode (match m with | .standby => 0 | .run => 1 | .blank => 2) = some m := by
  cases m <;> rfl

theorem modeByte_of_code (m : Mode) : modeByte m = BitVec.ofNat 8 (match m with | .standby => 0 | .run => 1 | .blank => 2) := by
  cases m <;> rfl

theorem exec_mode_of_present {q : Request} {s : State} (hdisp : Dispatched kMode q s)
    (hcode : byteAt q.payload 0 = (match s.ctl.mode with | .standby => 0 | .run => 1 | .blank => 2)) :
    exec (.mode q) s = .next (if q.broadcast then atTake kMode q s
      else (atTake kMode q s).replying (replyOf kMode q 0 [BitVec.ofNat 8 (byteAt q.payload 0)])) := by
  have hmode : modeOfCode (byteAt q.payload 0) = some s.ctl.mode := by rw [hcode]; exact modeOfCode_code _
  rw [exec_mode_dispatched hdisp, modeTaken_of_present hmode (by rw [atTake_ctl]), answer_eq, modeByte_of_code, ← hcode]
  exact rfl

theorem exec_mode_of_unknown {q : Request} {s : State} (hdisp : Dispatched kMode q s) (hcode : 3 ≤ byteAt q.payload 0) :
    exec (.mode q) s = .next (if q.broadcast then atTake kMode q s
      else (atTake kMode q s).replying (replyOf kMode q 4 [])) := by
  rw [exec_mode_dispatched hdisp, modeTaken, modeOfCode_of_large hcode]
  exact congrArg _ (answer_eq _ _ _ _ _)

theorem enterRun_ctl (s : State) : (enterRun s).ctl
    = { s.ctl with mode := .run, video := .dark, frameTimer := none, holdTimer := none, blankTimer := none } := by
  rw [enterRun, raise_ctl]
  rfl

theorem enterRun_scan (s : State) : (enterRun s).scan = s.scan := by
  rw [enterRun, raise_scan]
  rfl

theorem runEntered_ctl (s : State) : (offerReplies (settle (enterRun s))).ctl = (enterRun s).ctl :=
  (OfferFrame.offerReplies _).ctl.trans (FaultFrame.settle _).ctl

theorem runEntered_scan (s : State) : (offerReplies (settle (enterRun s))).scan = s.scan :=
  (OfferFrame.offerReplies _).scan.trans ((FaultFrame.settle _).scan.trans (enterRun_scan s))

theorem videoNotice_offerReplies (s : State) : videoNotice (offerReplies s) = videoNotice s := by
  rw [videoNotice, (OfferFrame.offerReplies s).unit]
  rfl

theorem runEntered_videoState {s : State} (hmask : s.unit.params.noticeMask.videoState = true) :
    (offerReplies (settle (enterRun s))).unit.notices.videoState = true := by
  show videoNotice _ = true
  rw [videoNotice_offerReplies, videoNotice_settle]
  exact videoNotice_raise_video (leaveMode .run s) hmask

theorem blankEntered_drive (s : State) (h : DriveLaw s) :
    (offerReplies (settle (enterBlank s))).scan.state ≠ .scanning ∧ (offerReplies (settle (enterBlank s))).scan.state ≠ .yielded := by
  have hlaw := ((Lawful.enterBlank s).trans ((Steady.settle _).trans (.offerReplies _)).lawful).drive h
  have hctl : (offerReplies (settle (enterBlank s))).ctl = (blankEntered s).ctl :=
    (OfferFrame.offerReplies _).ctl.trans ((FaultFrame.settle _).ctl.trans (enterBlank_ctl s))
  have hoff : driveEnable (offerReplies (settle (enterBlank s))) = false := by
    rw [driveEnable_congr hctl]
    rfl
  rw [hlaw.state, hoff]
  cases (testDriving (offerReplies (settle (enterBlank s)))).isSome <;> exact ⟨nofun, nofun⟩

/-- A claim that waits is taken at the entry to BLANK. -/
theorem blankEntered_claim {s : State} {x : TestRecord} {d : TestDriver} (henabled : driveEnable s = true)
    (hstate : s.scan.state = .scanning) (htest : s.sense.test = some x) (hdriver : x.driver = none) (hconnects : ConnectsTo s x d) :
    (offerReplies (settle (enterBlank s))).sense.test = some { x with driver := some d }
    ∧ (offerReplies (settle (enterBlank s))).scan = { s.scan with
        state := .lent, phase := none, traces := s.scan.traces.set x.die.lane x.die.die } := by
  have hfall := driveFalls_of_connectsTo (s := blankEntered s) (by exact hstate) (by exact htest) hdriver
    (by exact hconnects)
  have henter : enterBlank s = driveFalls (blankEntered s) := by rw [enterBlank_eq, if_pos henabled]
  rw [henter]
  have hoffer := OfferFrame.offerReplies (settle (driveFalls (blankEntered s)))
  have hsettle := FaultFrame.settle (driveFalls (blankEntered s))
  constructor
  · rw [hoffer.sense, hsettle.sense, hfall]
    rfl
  · rw [hoffer.scan, hsettle.scan, hfall]
    rfl

end Sys2Proof.Machine

/-! The entry to STANDBY, and MODE as a whole (O29). -/

namespace Sys2Proof.Machine

-- One theorem at a time: elaborated at once, they wait on each other and each holds a thread.
set_option Elab.async false

/-! ## What the entry ends (R20, R67, R102) -/

/-- The descriptor that a check returns when it is dropped (R102). -/
def returnedDescriptor (c : Check) : Descriptor := ⟨c.die, .openDie, c.hits, c.flips, c.frame⟩

/-- The queue with the descriptor of the check in progress back at its head. -/
def queueReturned (s : State) : List Descriptor :=
  match s.corr.check with
  | some c => returnedDescriptor c :: s.track.queue
  | none => s.track.queue

/-- What the entry to STANDBY leaves before the waiting changes are applied, and what it has put back. -/
structure StandbyBegun (s t : State) : Prop where
  straps   : t.straps = s.straps
  link     : t.link = s.link
  unit     : t.unit = s.unit
  store    : t.store = s.store
  comp     : t.comp = s.comp
  waiting  : t.repair.waiting = s.repair.waiting
  bind     : t.repair.bind = s.repair.bind
  track    : t.track = { s.track with queue := queueReturned s }
  heldLane : s.corr.check ≠ none → t.repair.heldLane = none
  repair   : s.corr.check = none → t.repair = s.repair

/-- The part with check c dropped and the Repair Engine as x. -/
def checkDropped (c : Check) (x : Repair) (s : State) : State :=
  (((s.withCorr { check := none }).withTrack { s.track with queue := returnedDescriptor c :: s.track.queue }).withSense
    { s.sense with tried := .clear }).withRepair { x with heldLane := none }

theorem dropCheck_of_check {c : Check} {s : State} (h : s.corr.check = some c) : ∃ x, dropCheck s = checkDropped c x s
    ∧ x.waiting = s.repair.waiting ∧ x.bind = s.repair.bind := by
  rw [dropCheck, h]
  cases checkSlot s with
  | none => exact ⟨s.repair, rfl, rfl, rfl⟩
  | some k => exact ⟨(setSlot k .free s).repair, rfl, rfl, rfl⟩

theorem dropCheck_of_no_check {s : State} (h : s.corr.check = none) : dropCheck s = s := by rw [dropCheck, h]

theorem StandbyBegun.dropCheck (s : State) : StandbyBegun s (dropCheck s) := by
  cases hcheck : s.corr.check with
  | none =>
    have hqueue : queueReturned s = s.track.queue := by rw [queueReturned, hcheck]
    rw [dropCheck_of_no_check hcheck]
    exact ⟨rfl, rfl, rfl, rfl, rfl, rfl, rfl, by rw [hqueue], (absurd hcheck ·), fun _ => rfl⟩
  | some c =>
    have hqueue : queueReturned s = returnedDescriptor c :: s.track.queue := by rw [queueReturned, hcheck]
    obtain ⟨x, hx, hwaiting, hbind⟩ := dropCheck_of_check hcheck
    rw [hx]
    exact ⟨rfl, rfl, rfl, rfl, rfl, hwaiting, hbind, by rw [hqueue]; rfl, fun _ => rfl, fun h => by rw [hcheck] at h; cases h⟩

theorem rependBind_eq (s : State) : ∃ x, rependBind s = s.withSense { s.sense with tried := x } := by
  unfold rependBind
  split
  · split <;> exact ⟨_, rfl⟩
  · exact ⟨_, rfl⟩

/-- The tests, the Scan Driver and the tried marks are no part of it, nor is the Mode Controller. -/
theorem StandbyBegun.ofScan {s t : State} (x : SenseUnit) (y : ScanDriver) (h : StandbyBegun ((s.withSense x).withScan y) t) :
    StandbyBegun s t := ⟨h.straps, h.link, h.unit, h.store, h.comp, h.waiting, h.bind, h.track, h.heldLane, h.repair⟩

theorem StandbyBegun.left {s t : State} (x : SenseUnit) (c : ModeCtl) (h : StandbyBegun s t) :
    StandbyBegun s ((t.withSense x).withCtl c) :=
  ⟨h.straps, h.link, h.unit, h.store, h.comp, h.waiting, h.bind, h.track, h.heldLane, h.repair⟩

/-- The part with its test, its window and its scan ended, and its spot tests ABORTED. -/
def scanEnded (s : State) : State := stopScan (abandonTest (abortSpots s))

theorem scanEnded_eq (s : State) : scanEnded s = (s.withSense (scanEnded s).sense).withScan (scanEnded s).scan := rfl

theorem scanEnded_spots (s : State) : (scanEnded s).sense.spots = (abortSpots s).sense.spots := rfl

theorem dropCheck_ctl (s : State) : (dropCheck s).ctl = s.ctl := by
  unfold dropCheck
  split
  · rfl
  · dsimp only; split <;> rfl

theorem atStandby_eq (s : State) : ∃ x, atStandby s
    = ((dropCheck (scanEnded s)).withSense { (dropCheck (scanEnded s)).sense with tried := x }).withCtl
        { s.ctl with mode := .standby, video := .dark, frameTimer := none, holdTimer := none, blankTimer := none } := by
  obtain ⟨x, hx⟩ := rependBind_eq (dropCheck (scanEnded s))
  have hctl : (dropCheck (scanEnded s)).ctl = s.ctl := (dropCheck_ctl _).trans rfl
  refine ⟨x, ?_⟩
  rw [← hctl, show atStandby s = leaveMode .standby (rependBind (dropCheck (scanEnded s))) from rfl, hx]
  rfl

theorem standbyBegun_atStandby (s : State) : StandbyBegun s (atStandby s) := by
  obtain ⟨x, hx⟩ := atStandby_eq s
  rw [hx]
  refine .left _ _ (.ofScan (scanEnded s).sense (scanEnded s).scan ?_)
  rw [← scanEnded_eq]
  exact .dropCheck _

theorem atStandby_ctl (s : State) : (atStandby s).ctl
    = { s.ctl with mode := .standby, video := .dark, frameTimer := none, holdTimer := none, blankTimer := none } := by
  obtain ⟨x, hx⟩ := atStandby_eq s
  rw [hx]
  rfl

theorem atStandby_spots (s : State) : (atStandby s).sense.spots = (abortSpots s).sense.spots := by
  obtain ⟨x, hx⟩ := atStandby_eq s
  obtain ⟨y, hy⟩ := dropCheck_sense (scanEnded s)
  rw [hx, ← scanEnded_spots]
  show (dropCheck (scanEnded s)).sense.spots = _
  rw [hy]

theorem abortSpots_of_waiting {s : State} (h : ∀ e ∈ s.sense.spots, e.status = .waiting) :
    (abortSpots s).sense.spots = s.sense.spots.map fun e => { e with status := .aborted } :=
  List.map_congr_left fun e he => if_pos (h e he)

/-! ## What enters when the changes are applied (R115, R127) -/

/-- The check and the held lane decision stay as they are. -/
structure CheckKept (s t : State) : Prop where
  corr     : t.corr = s.corr
  heldLane : t.repair.heldLane = s.repair.heldLane

theorem CheckKept.trans {s t u : State} (h : CheckKept s t) (k : CheckKept t u) : CheckKept s u :=
  ⟨k.corr.trans h.corr, k.heldLane.trans h.heldLane⟩

theorem FaultPathKept.checkKept {s t : State} (h : FaultPathKept s t) : CheckKept s t := ⟨h.corr, h.heldLane⟩

theorem CheckKept.addChanges (cs : List Change) (s : State) : CheckKept s (addChanges cs s) :=
  (FaultPathKept.addChanges cs s).checkKept

theorem CheckKept.removeDies (p : DieRef → Bool) (s : State) : CheckKept s (removeDies p s) :=
  ⟨removeDies_corr p s, congrArg Repair.heldLane (removeDies_repair p s)⟩

theorem CheckKept.decisionRecord (t : Target) (k : DefectKind) (a : DefectAction) (slot : Option Nat) (v hot : Bool) (s : State) :
    CheckKept s (decisionRecord t k a slot v hot s) := by
  rw [decisionRecord_eq_recordedIn]
  exact ⟨rfl, rfl⟩

theorem CheckKept.leaveUnrecorded (s : State) : CheckKept s (leaveUnrecorded s) := by
  rw [leaveUnrecorded_eq_leftOut]
  exact ⟨rfl, rfl⟩

theorem CheckKept.decideCell (auto : Bool) (x : DieRef) (k : FaultKind) (hot : Bool) (s : State) :
    CheckKept s (decideCell auto x k hot s) := by
  have hhealth (h : Health) : CheckKept s (setHealth x h s) := ⟨rfl, rfl⟩
  unfold Machine.decideCell
  split
  · exact .leaveUnrecorded s
  · split
    · exact ⟨rfl, rfl⟩
    · have hrecorded := ((hhealth k.health).trans (.decisionRecord (.die x.row x.lane x.die) k.defect (cellChoice auto x s).1
        none false hot _)).trans (.removeDies (fun y => y == x) _)
      unfold cellEffects
      dsimp only
      split
      · exact hrecorded.trans (.addChanges _ _)
      · exact hrecorded

theorem CheckKept.decideRow (auto : Bool) (r : Nat) (hot : Bool) (s : State) : CheckKept s (decideRow auto r hot s) := by
  have hrecorded (a : DefectAction) : CheckKept s (rowRemoval r (Machine.decisionRecord (.row r) .rowDead a none false hot s)) :=
    (CheckKept.decisionRecord ..).trans (.removeDies _ _)
  unfold Machine.decideRow
  split
  · exact .leaveUnrecorded s
  · split
    · split
      · exact (hrecorded _).trans (.addChanges _ _)
      · exact ⟨rfl, rfl⟩
    · exact hrecorded _

theorem CheckKept.freeReserved (l : Nat) (ks : List Nat) (s : State) : CheckKept s (freeReserved l ks s) := ⟨rfl, rfl⟩

theorem CheckKept.finishRecord (l : Nat) (hot : Bool) (f : LaneFinish) (s : State) : CheckKept s (finishRecord l hot f s) := by
  have hblame (ks : List Nat) (t : State) : CheckKept t (blame ks t) := by rw [blame_eq]; exact ⟨rfl, rfl⟩
  cases f with
  | sparedBy k tried => exact (CheckKept.decisionRecord ..).trans (hblame _ _)
  | allFailed tried => exact (CheckKept.decisionRecord ..).trans (.freeReserved _ _ _)
  | noSlot => exact .decisionRecord ..

theorem CheckKept.finishLane (l : Nat) (hot : Bool) (f : LaneFinish) (iso : Bool) (s : State) :
    CheckKept s (finishLane l hot f iso s) := by
  unfold Machine.finishLane
  split
  · exact ⟨rfl, rfl⟩
  · split
    · exact (CheckKept.freeReserved _ _ _).trans (.leaveUnrecorded _)
    · split
      · exact .finishRecord ..
      · split
        · exact (CheckKept.finishRecord ..).trans (.addChanges _ _)
        · exact ⟨rfl, rfl⟩

theorem CheckKept.takeWaiting (s : State) : CheckKept s (takeWaiting s) := by
  have hfree : CheckKept s (s.withRepair { s.repair with waiting := none }) := ⟨rfl, rfl⟩
  unfold Machine.takeWaiting
  split
  · exact ⟨rfl, rfl⟩
  · dsimp only
    split
    · exact hfree.trans (.decideCell ..)
    · exact hfree.trans (.decideRow ..)
    · exact hfree.trans (.finishLane ..)

theorem addIsolation_of_no_check {s : State} (h : s.corr.check = none) : addIsolation s = s := by rw [addIsolation, h]

theorem FaultPathKept.bindRoom (s : State) : FaultPathKept s (bindRoom s) := by
  unfold Machine.bindRoom
  split
  · split
    · split
      · exact .completeBind _ _ _ _ _
      · exact ⟨rfl, rfl, rfl, rfl, rfl⟩
    · exact ⟨rfl, rfl, rfl, rfl, rfl⟩
    · exact ⟨rfl, rfl, rfl, rfl, rfl⟩
  · exact ⟨rfl, rfl, rfl, rfl, rfl⟩

/-- With no check, what waited for room is the waiting decision and the bind alone, in either order. -/
theorem useRoom_of_no_check {s : State} (h : s.corr.check = none) : ∃ n, useRoom s = takeWaiting (bindRoom (s.withFreeUsed n))
    ∨ useRoom s = bindRoom (takeWaiting (s.withFreeUsed n)) := by
  have hafter (t : State) (ht : t.corr.check = none) : addIsolation (takeWaiting t) = takeWaiting t :=
    addIsolation_of_no_check (by rw [(CheckKept.takeWaiting t).corr, ht])
  have hbind (n : Nat) : (bindRoom (s.withFreeUsed n)).corr.check = none := by
    rw [(FaultPathKept.bindRoom _).corr]; exact h
  rw [useRoom]
  split
  · dsimp only
    split
    · exact ⟨_, .inl (hafter _ (hbind _))⟩
    · exact ⟨_, .inr (congrArg Machine.bindRoom (hafter _ h))⟩
  · exact ⟨s.freeUsed, .inr (congrArg Machine.bindRoom (hafter _ h))⟩

theorem CheckKept.useRoom {s : State} (h : s.corr.check = none) : CheckKept s (useRoom s) := by
  obtain ⟨n, huse⟩ := useRoom_of_no_check h
  have hfree : CheckKept s (s.withFreeUsed n) := ⟨rfl, rfl⟩
  obtain huse | huse := huse
  · rw [huse]; exact hfree.trans ((FaultPathKept.bindRoom _).checkKept.trans (.takeWaiting _))
  · rw [huse]; exact hfree.trans ((CheckKept.takeWaiting _).trans (FaultPathKept.bindRoom _).checkKept)

theorem takeWaiting_of_none {s : State} (h : s.repair.waiting = none) : takeWaiting s = s := by rw [takeWaiting, h]

/-- With no decision waiting either, the room lets in the bind alone. -/
theorem FaultPathKept.useRoom {s : State} (h : s.corr.check = none) (hwaiting : s.repair.waiting = none) :
    FaultPathKept s (useRoom s) := by
  obtain ⟨n, huse⟩ := useRoom_of_no_check h
  have hbind := FaultPathKept.bindRoom (s.withFreeUsed n)
  have hfree : FaultPathKept s (s.withFreeUsed n) := ⟨rfl, rfl, rfl, rfl, rfl⟩
  obtain huse | huse := huse
  · rw [huse, takeWaiting_of_none (hbind.waiting.trans hwaiting)]
    exact hfree.trans hbind
  · rw [huse, takeWaiting_of_none (by exact hwaiting)]
    exact hfree.trans hbind

theorem takeWaiting_bind (s : State) : (takeWaiting s).repair.bind = s.repair.bind := by
  unfold takeWaiting
  split
  · rfl
  · dsimp only
    split <;> simp

theorem bindRoom_of_no_bind {s : State} (h : s.repair.bind = none) : bindRoom s = s := by rw [bindRoom, h]

theorem useRoom_of_no_bind {s : State} (h : s.corr.check = none) (hbind : s.repair.bind = none) :
    useRoom s = takeWaiting s := by
  rw [useRoom, if_neg (by rw [bindWaits, hbind]; nofun),
    addIsolation_of_no_check (by rw [(CheckKept.takeWaiting s).corr, h]), bindRoom_of_no_bind (by rw [takeWaiting_bind, hbind])]

/-! ## The entry as a whole -/

/-- In STANDBY with no check nothing follows the room that an application makes. -/
theorem settle_in_standby {s : State} (hcheck : s.corr.check = none) (hmode : s.ctl.mode = .standby) : settle s = s := by
  rw [settle, releaseHold_of_no_check hcheck, takeAll_of_not_canTake (canTake_of_noTake (.inr (.inr hmode)))]

theorem applied_check (s : State) : (applyChanges (atStandby s)).corr.check = none := by
  rw [(FaultPathKept.applyChanges _).corr]
  exact (ended_atStandby s).check

theorem enterStandby_eq (s : State) : enterStandby s = useRoom (applyChanges (atStandby s)) := by
  have hcheck : (useRoom (applyChanges (atStandby s))).corr.check = none := by
    rw [(CheckKept.useRoom (applied_check s)).corr, applied_check]
  have hmode : (useRoom (applyChanges (atStandby s))).ctl.mode = .standby := by
    rw [(FaultFrame.useRoom _).ctl, (ListFrame.applyChanges _).ctl, atStandby_ctl]
  exact settle_in_standby hcheck hmode

theorem FaultFrame.enterStandby (s : State) : FaultFrame (atStandby s) (Machine.enterStandby s) := .boundaryApply _

theorem enterStandby_ctl (s : State) : (enterStandby s).ctl
    = { s.ctl with mode := .standby, video := .dark, frameTimer := none, holdTimer := none, blankTimer := none } :=
  (FaultFrame.enterStandby s).ctl.trans (atStandby_ctl s)

theorem enterStandby_heldLane {s : State} (h : s.corr.check ≠ none) : (enterStandby s).repair.heldLane = none := by
  rw [enterStandby_eq, (CheckKept.useRoom (applied_check s)).heldLane, (FaultPathKept.applyChanges _).heldLane]
  exact (standbyBegun_atStandby s).heldLane h

theorem enterStandby_track {s : State} (h : s.repair.waiting = none) :
    (enterStandby s).track = { s.track with queue := queueReturned s } := by
  have hbegun := standbyBegun_atStandby s
  have happly := FaultPathKept.applyChanges (atStandby s)
  rw [enterStandby_eq, (FaultPathKept.useRoom (applied_check s) (happly.waiting.trans (hbegun.waiting.trans h))).track,
    happly.track, hbegun.track]

theorem enterStandby_of_no_bind {s : State} (h : s.repair.bind = none) :
    enterStandby s = takeWaiting (applyChanges (atStandby s)) := by
  rw [enterStandby_eq, useRoom_of_no_bind (applied_check s)]
  rw [applyChanges_bind, (standbyBegun_atStandby s).bind, h]

theorem enterStandby_bind {s : State} (h : s.repair.bind = none) : (enterStandby s).repair.bind = none := by
  rw [enterStandby_of_no_bind h, takeWaiting_bind, applyChanges_bind, (standbyBegun_atStandby s).bind, h]

/-- With nothing in progress the maps are those of the application. -/
theorem enterStandby_of_idle {s : State} (hwaiting : s.repair.waiting = none) (hbind : s.repair.bind = none) :
    enterStandby s = applyChanges (atStandby s) := by
  rw [enterStandby_of_no_bind hbind, takeWaiting_of_none]
  exact (FaultPathKept.applyChanges _).waiting.trans ((standbyBegun_atStandby s).waiting.trans hwaiting)

theorem enterStandby_maps {s : State} (hwaiting : s.repair.waiting = none) (hbind : s.repair.bind = none)
    (hcheck : s.corr.check = none) : (enterStandby s).repair = (applyChanges s).repair
      ∧ (enterStandby s).comp = (applyChanges (s.withCtl (enterStandby s).ctl)).comp := by
  have hbegun := standbyBegun_atStandby s
  have hctl := (FaultFrame.enterStandby s).ctl
  have hframe : (atStandby s).store.frameCount = s.store.frameCount := congrArg FrameStore.frameCount hbegun.store
  rw [hctl, enterStandby_of_idle hwaiting hbind]
  exact ⟨applyChanges_repair_congr (hbegun.repair hcheck) hframe,
    applyChanges_comp_congr (s := s.withCtl (atStandby s).ctl) (hbegun.repair hcheck) hbegun.comp hframe rfl⟩

theorem enterStandby_quiet (s : State) (h : s.ctl.mode ≠ .standby) : StandbyQuiet (enterStandby s) :=
  (Lawful.enterStandby s).quiet ⟨(absurd · h), (absurd · h), (absurd · h), (absurd · h), (absurd · h), (absurd · h)⟩

theorem enterStandby_spots (s : State) : (enterStandby s).sense.spots = (abortSpots s).sense.spots := by
  rw [(FaultFrame.enterStandby s).sense, ← atStandby_spots]

theorem enterStandby_unit (s : State) : (enterStandby s).unit.replies = s.unit.replies
    ∧ (enterStandby s).unit.params = { s.unit.params with policy := (enterStandby s).unit.params.policy } := by
  have hframe := FaultFrame.enterStandby s
  have hunit := (standbyBegun_atStandby s).unit
  rw [hframe.params, hframe.replies, hunit]
  exact ⟨rfl, rfl⟩

/-! ## The replies that follow the entry (R66, R67, R127) -/

/-- The spot tests ABORTED, when every one of them waited. -/
def allAborted (s : State) : List SpotEntry := s.sense.spots.map fun e => { e with status := .aborted }

theorem enterStandby_allAborted {s : State} (h : ∀ e ∈ s.sense.spots, e.status = .waiting) :
    (enterStandby s).sense.spots = allAborted s := (enterStandby_spots s).trans (abortSpots_of_waiting h)

/-- With no bind in progress the replies that follow are those of the spot tests, as far as there is room. -/
theorem offerReplies_enterStandby {s : State} (hspots : ∀ e ∈ s.sense.spots, e.status = .waiting)
    (hbind : s.repair.bind = none) : offerReplies (enterStandby s)
      = spotsLeft (8 - s.unit.replies.length) (allAborted s) [] (enterStandby s) := by
  have hdue : ∀ e ∈ allAborted s, e.status ≠ .waiting := by
    intro e he
    obtain ⟨x, -, rfl⟩ := List.mem_map.mp he
    nofun
  have hall : (enterStandby s).sense.spots = allAborted s ++ [] := by rw [enterStandby_allAborted hspots, List.append_nil]
  have hspot := enterSpots_of_due hall hdue nofun
  rw [(enterStandby_unit s).1] at hspot
  rw [offerReplies, hspot]
  exact enterBind_of_no_bind (enterStandby_bind hbind)

theorem spotsLeft_replies (k : Nat) (due rest : List SpotEntry) (s : State) :
    (spotsLeft k due rest s).unit.replies = s.unit.replies ++ (due.take k).map dueReply := rfl

theorem spotsLeft_spots (k : Nat) (due rest : List SpotEntry) (s : State) :
    (spotsLeft k due rest s).sense.spots = due.drop k ++ rest := rfl

theorem standbyEntered_replies {s : State} (hspots : ∀ e ∈ s.sense.spots, e.status = .waiting)
    (hbind : s.repair.bind = none) : (offerReplies (enterStandby s)).unit.replies
        = s.unit.replies ++ ((allAborted s).take (8 - s.unit.replies.length)).map dueReply
      ∧ (offerReplies (enterStandby s)).sense.spots = (allAborted s).drop (8 - s.unit.replies.length) := by
  rw [offerReplies_enterStandby hspots hbind, spotsLeft_replies, spotsLeft_spots, List.append_nil, (enterStandby_unit s).1]
  exact ⟨rfl, rfl⟩

theorem offerReplies_repair_of_no_bind {s : State} (h : s.repair.bind = none) : (offerReplies s).repair = s.repair := by
  rw [offerReplies, enterBind_of_no_bind (by rw [enterSpots_repair, h]), enterSpots_repair]

/-- What the entry to STANDBY leaves, with the replies that follow. -/
structure StandbyEntered (s t : State) : Prop where
  ctl      : t.ctl = { s.ctl with mode := .standby, video := .dark, frameTimer := none, holdTimer := none, blankTimer := none }
  replies  : ∃ more, t.unit.replies = s.unit.replies ++ more
  stopped  : t.scan.state = .stopped ∧ t.scan.phase = none
  heldLane : s.corr.check ≠ none → t.repair.heldLane = none
  store    : t.store = s.store
  gains    : t.comp.gains = s.comp.gains
  link     : t.link = s.link
  straps   : t.straps = s.straps
  params   : t.unit.params = { s.unit.params with policy := t.unit.params.policy }
  maps     : s.repair.waiting = none → s.repair.bind = none → s.corr.check = none →
    t.repair = (applyChanges s).repair ∧ t.comp = (applyChanges (s.withCtl t.ctl)).comp
  track    : s.repair.waiting = none → t.track = { s.track with queue := queueReturned s }

theorem standbyEntered (s : State) : StandbyEntered s (offerReplies (enterStandby s)) := by
  have hoffer := OfferFrame.offerReplies (enterStandby s)
  have hframe := FaultFrame.enterStandby s
  have hbegun := standbyBegun_atStandby s
  have hended := ended_atStandby s
  have hscan := hoffer.scan.trans hframe.scan
  refine {
    ctl := hoffer.ctl.trans (enterStandby_ctl s)
    replies := ?_
    stopped := by rw [hscan]; exact ⟨hended.state, hended.phase⟩
    heldLane := fun h => by rw [hoffer.repair]; exact enterStandby_heldLane h
    store := hoffer.store.trans (hframe.store.trans hbegun.store)
    gains := by rw [hoffer.comp, hframe.gains, hbegun.comp]
    link := hoffer.link.trans (hframe.link.trans hbegun.link)
    straps := hoffer.straps.trans (hframe.straps.trans hbegun.straps)
    params := by rw [hoffer.unit]; exact (enterStandby_unit s).2
    maps := fun hwaiting hbind hcheck => ?_
    track := fun hwaiting => hoffer.track.trans (enterStandby_track hwaiting) }
  · obtain ⟨more, hmore⟩ := replies_isPrefix_offerReplies (enterStandby s)
    exact ⟨more, by rw [← hmore, (enterStandby_unit s).1]⟩
  · rw [offerReplies_repair_of_no_bind (enterStandby_bind hbind), hoffer.comp, hoffer.ctl]
    exact enterStandby_maps hwaiting hbind hcheck

/-! ## MODE (O29) -/

/-- A MODE to another mode, over the part as its request leaves it. -/
theorem exec_mode_entered {q : Request} {m : Mode} {s : State} (hdisp : Dispatched kMode q s)
    (hcode : byteAt q.payload 0 = (match m with | .standby => 0 | .run => 1 | .blank => 2)) (hother : m ≠ s.ctl.mode) :
    ∃ x : Link, (atTake kMode q s).link = x
      ∧ exec (.mode q) s = .next (offerReplies (changeMode m (modeAnswered q m (s.withLink x)))) := by
  obtain ⟨x, hx⟩ := atTake_withLink kMode q s
  refine ⟨x, by rw [hx]; rfl, ?_⟩
  rw [exec_mode_of_other hdisp (by rw [hcode]; exact modeOfCode_code m) hother, hx]

theorem mode_enters_run {q : Request} {s : State} (hdisp : Dispatched kMode q s) (hother : s.ctl.mode ≠ .run)
    (hcode : byteAt q.payload 0 = 1) : ∃ t, exec (.mode q) s = .next t
      ∧ t.ctl = { s.ctl with mode := .run, video := .dark, frameTimer := none, holdTimer := none, blankTimer := none }
      ∧ ((∃ more, t.unit.replies = modeReplies q .run s ++ more)
        ∧ ((∀ e ∈ s.sense.spots, e.status = .waiting) → s.repair.bind = none → t.unit.replies = modeReplies q .run s))
      ∧ (s.unit.params.noticeMask.videoState = true → t.unit.notices.videoState = true)
      ∧ t.store = s.store ∧ t.scan = s.scan ∧ t.comp.gains = s.comp.gains
      ∧ t.link = (atTake kMode q s).link ∧ t.straps = s.straps
      ∧ (FaultPathQuiet s → t.track = s.track ∧ t.corr = s.corr ∧ t.unit.params = s.unit.params
          ∧ t.repair = { s.repair with bind := t.repair.bind } ∧ t.comp = s.comp) := by
  obtain ⟨x, hx, hexec⟩ := exec_mode_entered (m := .run) hdisp hcode hother.symm
  have hentered := modeEntered_of_entryKept (.enterRun (modeAnswered q .run (s.withLink x)))
  exact ⟨_, hexec, (runEntered_ctl _).trans (enterRun_ctl _), ⟨hentered.replies, hentered.noMore⟩,
    fun hmask => runEntered_videoState (by exact hmask), hentered.store, runEntered_scan _, hentered.gains,
    hentered.link.trans hx.symm, hentered.straps,
    fun hquiet => hentered.quiet ⟨hquiet.queue, hquiet.held, hquiet.heldLane⟩⟩

theorem mode_enters_blank {q : Request} {s : State} (hdisp : Dispatched kMode q s) (hother : s.ctl.mode ≠ .blank)
    (hcode : byteAt q.payload 0 = 2) : ∃ t, exec (.mode q) s = .next t
      ∧ t.ctl = { s.ctl with mode := .blank, video := .dark, frameTimer := none, holdTimer := none, blankTimer := some 10 }
      ∧ ((∃ more, t.unit.replies = modeReplies q .blank s ++ more)
        ∧ ((∀ e ∈ s.sense.spots, e.status = .waiting) → s.repair.bind = none → t.unit.replies = modeReplies q .blank s))
      ∧ t.store = s.store ∧ t.comp.gains = s.comp.gains ∧ (DriveLaw s → t.scan.state ≠ .scanning ∧ t.scan.state ≠ .yielded)
      ∧ (∀ x d, driveEnable s = true → s.scan.state = .scanning → s.sense.test = some x → x.driver = none →
          ConnectsTo s x d → t.sense.test = some { x with driver := some d } ∧ t.scan = { s.scan with
            state := .lent, phase := none, traces := s.scan.traces.set x.die.lane x.die.die })
      ∧ t.link = (atTake kMode q s).link ∧ t.straps = s.straps
      ∧ (FaultPathQuiet s → t.track = s.track ∧ t.corr = s.corr ∧ t.unit.params = s.unit.params
          ∧ t.repair = { s.repair with bind := t.repair.bind } ∧ t.comp = s.comp) := by
  obtain ⟨x, hx, hexec⟩ := exec_mode_entered (m := .blank) hdisp hcode hother.symm
  have hentered := modeEntered_of_entryKept (.enterBlank (modeAnswered q .blank (s.withLink x)))
  have hctl : (offerReplies (settle (enterBlank (modeAnswered q .blank (s.withLink x))))).ctl = (blankEntered s).ctl :=
    (OfferFrame.offerReplies _).ctl.trans ((FaultFrame.settle _).ctl.trans (enterBlank_ctl _))
  exact ⟨_, hexec, hctl, ⟨hentered.replies, hentered.noMore⟩, hentered.store, hentered.gains,
    fun hlaw => blankEntered_drive _ ⟨hlaw.state, hlaw.phase⟩,
    fun y d henabled hstate htest hdriver hconnects =>
      blankEntered_claim (s := modeAnswered q .blank (s.withLink x)) henabled hstate htest hdriver hconnects,
    hentered.link.trans hx.symm, hentered.straps,
    fun hquiet => hentered.quiet ⟨hquiet.queue, hquiet.held, hquiet.heldLane⟩⟩

theorem mode_enters_standby {q : Request} {s : State} (hdisp : Dispatched kMode q s) (hother : s.ctl.mode ≠ .standby)
    (hcode : byteAt q.payload 0 = 0) : ∃ t, exec (.mode q) s = .next t
      ∧ StandbyEntered (modeAnswered q .standby (s.withLink (atTake kMode q s).link)) t ∧ StandbyQuiet t
      ∧ ((∀ e ∈ s.sense.spots, e.status = .waiting) → s.repair.bind = none →
          t.unit.replies = modeReplies q .standby s
              ++ ((allAborted s).take (8 - (modeReplies q .standby s).length)).map dueReply
            ∧ t.sense.spots = (allAborted s).drop (8 - (modeReplies q .standby s).length)) := by
  obtain ⟨x, hx, hexec⟩ := exec_mode_entered (m := .standby) hdisp hcode hother.symm
  rw [hx]
  exact ⟨_, hexec, standbyEntered _,
    (Steady.offerReplies _).lawful.quiet (enterStandby_quiet (modeAnswered q .standby (s.withLink x)) hother),
    fun hspots hbind => standbyEntered_replies (s := modeAnswered q .standby (s.withLink x)) hspots hbind⟩

/-- Settles O29. -/
theorem modeEntersTheModeAsked : Obligations.ModeEntersTheModeAsked := by
  unfold Obligations.ModeEntersTheModeAsked
  refine ⟨fun q s hdisp => ⟨exec_mode_of_present hdisp, exec_mode_of_unknown hdisp⟩, fun q s hdisp => ?_⟩
  refine ⟨mode_enters_run hdisp, mode_enters_blank hdisp, fun hother hcode => ?_⟩
  obtain ⟨t, hexec, hentered, hquiet, hreplies⟩ := mode_enters_standby hdisp hother hcode
  have hmode : t.ctl.mode = .standby := by rw [hentered.ctl]
  refine ⟨t, hexec, hentered.ctl, hentered.replies, hreplies, hquiet.test hmode, hquiet.window hmode, hquiet.spots hmode,
    hentered.stopped.1, hentered.stopped.2, hquiet.check hmode, hquiet.changes hmode, hquiet.waiting hmode, hentered.heldLane,
    hentered.store, hentered.gains, hentered.link, hentered.straps, hentered.params, fun hwaiting hbind hcheck => ?_,
    fun hwaiting => ?_⟩
  · obtain ⟨hrepair, hcomp⟩ := hentered.maps hwaiting hbind hcheck
    exact ⟨hrepair.trans (applyChanges_repair_congr rfl rfl), hcomp.trans (applyChanges_comp_congr rfl rfl rfl rfl)⟩
  · have htrack := hentered.track hwaiting
    exact ⟨(congrArg Tracker.suspects htrack).trans rfl, (congrArg Tracker.queue htrack).trans rfl⟩

end Sys2Proof.Machine
